-- ==== Sys2Proof/Word.lean ====
section
/-! DEFINITION. The byte that travels on the two message ports (spec/08 R167, spec/10 R182). Every other number of the H460
is a plain integer (spec/00 section 4.1) and is held as Nat or Int. -/

namespace Sys2Proof

/-- One byte on the host line or in a radio packet. -/
abbrev Byte := BitVec 8

/-- Bytes in the order they are sent. -/
abbrev Bytes := List Byte

end Sys2Proof
end

