-- ==== Sys2Proof/Config.lean ====
section
/-! DEFINITION. What the silicon fixes and the manual does not give: values without a body, of which nothing can be proved. -/

namespace Sys2Proof

/-- The die revision of the factory area, less 1, before it is held to one byte (spec/10 R189: "counting from 1"). FREE VALUE, log 17. -/
opaque Config.dieRevision : Nat

/-- The factory code of the analogue input scaling (spec/10 R189). FREE VALUE, log 17. -/
opaque Config.inputScaling : BitVec 16

/-- The record number that follows 4,294,967,295, less 1 and before it is held to the range of record numbers: spec/07 R136 says
nothing of it. FREE VALUE, log 16. -/
opaque Config.recordNumberAfterTop : Nat

/-- The voltage after, in volts, of a close pulse that the part ends of itself and of a pulse run out before a cold start, by the count of
pulses ended before it (spec/04 R80 says only volts; no event brings the value then). FREE VALUE, log 49. -/
opaque Config.voltageAfter : Nat → Nat

end Sys2Proof
end

