-- ==== Sys2Proof/Syntax.lean ====
section
/-! DEFINITION. The commands: one constructor of Instr per row of spec/opcode_table.json. The table gives no operands; those
here are what the outside brings with the event (DESIGN CHOICE, log 6). Host requests carry the request tag of their frame and
the fields of their body at the widths of spec/10 R185. -/

namespace Sys2Proof

/-- A side of the recloser (spec/01 section 1.5). -/
inductive Side | source | load
  deriving DecidableEq, Repr

/-- One of the two position contacts (spec/04 R68). -/
inductive Contact | openContact | closedContact
  deriving DecidableEq, Repr

/-- The state of a contact (spec/04 R68). -/
inductive ContactState | made | notMade
  deriving DecidableEq, Repr

/-- The key switch: LOCAL or REMOTE (spec/00 section 2.3). -/
inductive Key | loc | remote
  deriving DecidableEq, Repr

/-- The six samples of one moment, before limiting (spec/01 R1). -/
structure SampleSet where
  a : Int
  b : Int
  c : Int
  n : Int
  vs : Int
  vl : Int
  deriving DecidableEq, Repr

/-- One battery measurement as read (spec/06 R110). -/
structure BattMeas where
  mv : Nat
  ma : Int
  temp : Int
  supply : Bool
  deriving DecidableEq, Repr

/-- A load-test reading of voltage and current (spec/06 R110). -/
structure TestReading where
  mv : Nat
  ma : Int
  deriving DecidableEq, Repr

/-- What the outside settles about the end of a pulse: the first capacitor measurement at or after the coil turned off
(spec/04 R74), and whether ORL takes ACT's part before SEQ takes the completion (spec/07 R137: either order; log 7). -/
structure PulseEnd where
  capAfter : Nat
  partFirst : Bool
  deriving DecidableEq, Repr

/-- What the part reads at the end of the start delay: the key input (spec/10 R184), the first capacitor measurement
(spec/04 R86) and the first battery measurement (spec/06 R110). -/
structure StartInputs where
  key : Key
  cap : Nat
  batt : BattMeas
  deriving DecidableEq, Repr

/-- A command: one row of spec/opcode_table.json. -/
inductive Instr
  | coldStart (landed : Bool)
  | startDelayEnd (inp : StartInputs)
  | warmStart
  | supplyLoss
  | holdUpEnd
  | magnitudeUpdate (block : List SampleSet)
  | liveQualified (side : Side) (block : List SampleSet)
  | deadQualified (side : Side) (block : List SampleSet)
  | elementOperate (block : List SampleSet)
  | deadTimerExpiry
  | holdTimerExpiry
  | reclaimTimerExpiry
  | contactDebounced (contact : Contact) (reading : ContactState) (ms : Nat) (fin : PulseEnd)
  | startReadingTimeout
  | capacitorMeasurement (volts : Nat)
  | tripPulseTimeout (fin : PulseEnd)
  | closePulseTimeout (fin : PulseEnd)
  | minuteEvent
  | tagExpiry
  | tagHourlyWrite
  | batteryMeasurement (m : BattMeas) (r : TestReading)
  | absorbTimeLimit (m : BattMeas) (r : TestReading)
  | floatLowRunLimit (m : BattMeas) (r : TestReading)
  | faultClearRunComplete (m : BattMeas) (r : TestReading)
  | resyncRunComplete (m : BattMeas) (r : TestReading)
  | chargeCountWrite (m : BattMeas) (r : TestReading)
  | tripWaitTimeout
  | partStop
  | scheduledTestDue
  | settlingComplete (r : TestReading)
  | loadTestComplete (r : TestReading)
  | testAbandonTimeout
  | radioPacketReceived (bytes : Bytes)
  | beaconMissCheck
  | ownSlotStart (carrier : Bool)
  | radioTransmitEnd
  | statusIntervalDue
  | commitComplete
  | retainedWriteComplete
  | hostFrameReceived (bytes : Bytes)
  | frameByteTimeout
  | keySwitchDebounced (reading : Key) (ms : Nat)
  | hostFrameTransmitted
  | identify (tag : Byte)
  | readMeasure (tag : Byte)
  | readState (tag : Byte) (sect : Byte) (start : Byte)
  | hostOpen (tag : Byte)
  | hostClose (tag : Byte)
  | mechFailClear (tag : Byte)
  | tagPlace (tag : Byte) (crew : BitVec 16) (mode : Byte) (expiry : BitVec 16)
  | tagRemove (tag : Byte) (number : BitVec 16) (crew : BitVec 16)
  | tagClear (tag : Byte) (number : BitVec 16)
  | tagRead (tag : Byte) (selector : Byte) (value : BitVec 16)
  | recordRead (tag : Byte) (number : BitVec 32)
  | wearReset (tag : Byte) (phase : Byte)
  | timeSet (tag : Byte) (time : BitVec 32)
  | batteryTestStart (tag : Byte)
  | batteryTestCancel (tag : Byte)
  | stageOpen (tag : Byte) (kind : Byte) (number : Byte)
  | stageLoad (tag : Byte) (value : BitVec 32) (advance : Byte)
  | stageSeek (tag : Byte) (field : Byte)
  | stageRead (tag : Byte)
  | commit (tag : Byte)
  | groupSelect (tag : Byte) (group : Byte)
  | restart (tag : Byte)
  | timeBaseSecond
  deriving DecidableEq, Repr

end Sys2Proof
end

