-- ==== Sys2Proof/WellFormed.lean ====
section
/-! DEFINITION. Which commands are events the part can meet. -/

namespace Sys2Proof

/-- The number of sample sets between two magnitude updates (spec/01 R3). -/
def blockLength : Nat := 16

/-- A magnitude update carries the 16 sample sets taken since the one before (spec/01 R3). -/
def blockOk (block : List SampleSet) : Bool := block.length == blockLength

/-- A raw input has been read for at least one millisecond (spec/04 R68, spec/10 R184). -/
def spanOk (ms : Nat) : Bool := 0 < ms

/-- Something was received (spec/10 R182, spec/08 R168). -/
def bytesOk (bytes : Bytes) : Bool := !bytes.isEmpty

/-- The command is an event the part can meet. -/
def Instr.wellFormed : Instr → Bool
  | .magnitudeUpdate block => blockOk block
  | .liveQualified _ block => blockOk block
  | .deadQualified _ block => blockOk block
  | .elementOperate block => blockOk block
  | .contactDebounced _ _ ms _ => spanOk ms
  | .keySwitchDebounced _ ms => spanOk ms
  | .radioPacketReceived bytes => bytesOk bytes
  | .hostFrameReceived bytes => bytesOk bytes
  | .coldStart _ | .startDelayEnd _ | .warmStart | .supplyLoss | .holdUpEnd | .deadTimerExpiry | .holdTimerExpiry
  | .reclaimTimerExpiry | .startReadingTimeout | .capacitorMeasurement _ | .tripPulseTimeout _ | .closePulseTimeout _
  | .minuteEvent | .tagExpiry | .tagHourlyWrite | .batteryMeasurement _ _ | .absorbTimeLimit _ _ | .floatLowRunLimit _ _
  | .faultClearRunComplete _ _ | .resyncRunComplete _ _ | .chargeCountWrite _ _ | .tripWaitTimeout | .partStop
  | .scheduledTestDue | .settlingComplete _ | .loadTestComplete _ | .testAbandonTimeout | .beaconMissCheck | .ownSlotStart _
  | .radioTransmitEnd | .statusIntervalDue | .commitComplete | .retainedWriteComplete | .frameByteTimeout
  | .hostFrameTransmitted | .identify _ | .readMeasure _ | .readState _ _ _ | .hostOpen _ | .hostClose _ | .mechFailClear _
  | .tagPlace _ _ _ _ | .tagRemove _ _ _ | .tagClear _ _ | .tagRead _ _ _ | .recordRead _ _ | .wearReset _ _ | .timeSet _ _
  | .batteryTestStart _ | .batteryTestCancel _ | .stageOpen _ _ _ | .stageLoad _ _ _ | .stageSeek _ _ | .stageRead _
  | .commit _ | .groupSelect _ _ | .restart _ | .timeBaseSecond => true

end Sys2Proof
end

