-- ==== Sys2Proof/Decode.lean ====
section
/-! DEFINITION. The H460 has no instruction words: no row of spec/opcode_table.json gives a command bits, so no word spells one.
The bytes of host frames and radio packets are read in Sys2Proof/Machine/HostLink.lean and Sys2Proof/Machine/Radio.lean. -/

namespace Sys2Proof

/-- The command a word spells by the table's bits: none, for every word. -/
def decodeTableWord (_nbits _w : Nat) : Option Instr := none

end Sys2Proof
end

