-- ==== Sys2Proof/Machine/State.lean ====
section
/-! DEFINITION. Everything the H460 holds, block by block (spec/00 section 2.1), as plain data, and the state at reset. -/

namespace Sys2Proof.Machine

/-! ### Names shared between blocks -/

/-- The standing of a request (spec/00 section 4.2). -/
inductive Authority | loc | link | radio
  deriving DecidableEq, Repr

/-- The origin of a close (spec/00 section 4.2). -/
inductive Origin | auto | loc | link | radio
  deriving DecidableEq, Repr

/-- The results of a reply, in the order of their codes (spec/10 R190). -/
inductive Res
  | ok | refreshed | deferredInFlight | alreadyOpen | notLockedOut | busy | badField | unknownKind | refusedLocal | authority
  | crewMismatch | notFound | tableFull | notOpen | tagNoClose | tagNoReclose | lowEnergy | conserve | mechFail
  | positionUnknown | activeBusy | inUse | notStaged | invalid | gone | notPermitted
  deriving DecidableEq, Repr

/-- Who waits for an answer: the host's current request, or the master under a command id (spec/08 R162). -/
inductive Src | host | radio (id : Nat)
  deriving DecidableEq, Repr

/-- COLD or WARM (spec/09 R180). -/
inductive StartKind | cold | warm
  deriving DecidableEq, Repr

/-! ### LSU (spec/01) -/

/-- The line state of one side (R13). -/
inductive LineState | unknown | live | dead
  deriving DecidableEq, Repr

/-- The measurement set (R9). -/
structure MeasSet where
  a : Nat
  b : Nat
  c : Nat
  n : Nat
  vs : Nat
  vl : Nat
  satA : Bool
  satB : Bool
  satC : Bool
  satN : Bool
  satVs : Bool
  satVl : Bool
  valid : Bool
  deriving DecidableEq, Repr

/-- A side's line state and its two runs (R12, R13). -/
structure SideState where
  line : LineState
  liveRun : Nat
  deadRun : Nat
  deriving DecidableEq, Repr

/-- The Line Sense Unit. All six windows hold samples of the same moments (R2), so they are one list of sample sets. -/
structure Lsu where
  winLen : Nat
  window : List SampleSet
  fill : Nat
  meas : MeasSet
  source : SideState
  load : SideState
  liveV : Nat
  deadV : Nat
  deriving DecidableEq, Repr

/-! ### PEU (spec/02) -/

/-- The seven elements, in the order of R17. -/
inductive Element | pf | pd | gf | gd | hs | hlp | hlg
  deriving DecidableEq, Repr

/-- The states of an element (R22). -/
inductive ElemState | disabled | quiet | timing | held | resetting | operated
  deriving DecidableEq, Repr

/-- One element's state and accumulator (R22). -/
structure Elem where
  st : ElemState
  acc : Nat
  deriving DecidableEq, Repr

/-- The seven elements' states (R17). -/
structure Elems where
  pf : Elem
  pd : Elem
  gf : Elem
  gd : Elem
  hs : Elem
  hlp : Elem
  hlg : Elem
  deriving DecidableEq, Repr

/-- The Protection Element Unit: elements, departure detector (true: armed; R37), the next trip number as formed at the last
update (R40), and the two summary indications (R38). -/
structure Peu where
  elems : Elems
  detector : Bool
  nextTrip : Nat
  timing : Bool
  allQuiet : Bool
  deriving DecidableEq, Repr

/-! ### SEQ (spec/03) -/

/-- The nine sequencer states, in the order of R41. -/
inductive SeqState
  | closed | reclaim | tripping | deadTime | recloseHold | reclosing | closing | lockout | mechFail
  deriving DecidableEq, Repr

/-- The lockout causes, in the order of R43. -/
inductive Cause
  | shots | tag | commandOpen | externalOpen | sourceTimeout | energy | conserve | loadLive | restart | mechCleared | exhaustion
  deriving DecidableEq, Repr

/-- A request joined to a trip (R47). -/
inductive TripReq | element (e : Element) | command (a : Authority) | exhaustion
  deriving DecidableEq, Repr

/-- Why RECLOSE_HOLD waits (R41). -/
inductive HoldReason | source | energy
  deriving DecidableEq, Repr

/-- The breaker position (spec/04 R69). -/
inductive Position | isOpen | closed | unknown
  deriving DecidableEq, Repr

/-- What reaches SEQ before the RESTART record is completed and is held (R66). -/
inductive SeqEvent
  | trip (r : TripReq) | departure | tagAccepted | energyReady | position (p : Position)
  | openCmd (a : Authority) (src : Src) | closeCmd (a : Authority) (src : Src) | select (g : Nat) (src : Src)
  deriving DecidableEq, Repr

/-- The Shot Sequencer. A timer is its remaining milliseconds, absent when it does not run. -/
structure Seq where
  state : SeqState
  shots : Nat
  manual : Bool
  cause : Option Cause
  pendingGroup : Option Nat
  trip : Option (List TripReq)
  deadNo : Option Nat
  deadLeft : Option Nat
  holdReason : Option HoldReason
  holdLeft : Option Nat
  reclaimLeft : Option Nat
  heldClose : Option Src
  decided : Bool
  events : List SeqEvent
  deriving DecidableEq, Repr

/-! ### ACT (spec/04) -/

/-- The actuator states (R71). -/
inductive ActState | idle | tripPulse | closePulse | tripHeld
  deriving DecidableEq, Repr

/-- The converter states, in the order of R83. -/
inductive Converter | stopped | paused | full | topup | off
  deriving DecidableEq, Repr

/-- A contact debouncer (R68): the last raw reading, how many milliseconds it has stood (held at 4), and the debounced state. -/
structure Debouncer where
  raw : Option ContactState
  run : Nat
  stable : Option ContactState
  deriving DecidableEq, Repr

/-- The Actuator Driver. `origin` and `before` are the pulse record (R71). `pulses` counts the pulses and held trips that have ended:
the model's own, which selects the free voltage after of a close pulse that ends of itself (log 49). -/
structure Act where
  state : ActState
  pulseMs : Option Nat
  before : Option Nat
  origin : Option Origin
  heldMs : Option Nat
  mech : Bool
  openC : Debouncer
  closedC : Debouncer
  position : Position
  startRead : Bool
  startMs : Nat
  cap : Nat
  converter : Converter
  pulses : Nat
  deriving DecidableEq, Repr

/-! ### TAG (spec/05) -/

/-- The modes of a tag (R88). -/
inductive TagMode | noReclose | noClose
  deriving DecidableEq, Repr

/-- The effective tag mode (R91). -/
inductive EffMode | none | noReclose | noClose
  deriving DecidableEq, Repr

/-- A tag (R88). -/
structure Tag where
  number : Nat
  crew : Nat
  mode : TagMode
  auth : Authority
  placedAt : Option Nat
  left : Option Nat
  deriving DecidableEq, Repr

/-- The slots and the next tag number: one retained item (R89, R90, R108). -/
structure TagTable where
  slots : List (Option Tag)
  next : Nat
  deriving DecidableEq, Repr

/-- The Tag Table block: the table and the minute count of the hourly write (R103). -/
structure TagBlock where
  table : TagTable
  minutes : Nat
  deriving DecidableEq, Repr

/-- Why a tag left the table (R107). -/
inductive RemovalCause | removed | forced | expired
  deriving DecidableEq, Repr

/-! ### BCU (spec/06) -/

/-- The charger states, in the order of R112. -/
inductive Charger | noSupply | bulk | absorb | float | test | fault
  deriving DecidableEq, Repr

/-- The reserve levels, falling (section 6.4). -/
inductive Level | normal | lean | conserve | exhausted
  deriving DecidableEq, Repr

/-- The phases of the exhaustion shutdown (R122). -/
inductive Shutdown | tripWait | writeWait
  deriving DecidableEq, Repr

/-- The states of the load test (R124). -/
inductive TestState | idle | settling | loaded | suspended
  deriving DecidableEq, Repr

/-- The origin of a load test (R124). -/
inductive TestOrigin | request | schedule
  deriving DecidableEq, Repr

/-- The outcomes of a load test (R124). -/
inductive TestOutcome | pass | fail | abandoned | cancelled
  deriving DecidableEq, Repr

/-- One entry of the test history (R132). -/
structure TestResult where
  outcome : TestOutcome
  r : Option Nat
  mv : Option Nat
  loadMs : Nat
  time : Nat
  valid : Bool
  deriving DecidableEq, Repr

/-- The Battery Care Unit. -/
structure Bcu where
  meas : BattMeas
  absorbSp : Int
  floatSp : Int
  charger : Charger
  absorbTime : Nat
  floatLow : Nat
  faultClear : Nat
  charge : Nat
  soc : Nat
  resync : Nat
  measCount : Nat
  lowRun : Nat
  recRun : Nat
  exhRun : Nat
  level : Level
  shutdown : Option Shutdown
  tripWaitMs : Nat
  test : TestState
  loadMs : Nat
  settleMs : Nat
  suspMs : Nat
  baseline : Option TestReading
  origin : Option TestOrigin
  history : List TestResult
  countdown : Option Nat
  connected : Bool
  deriving DecidableEq, Repr

/-! ### ORL (spec/07) -/

/-- How a pulse ended (spec/04 R74, R78). -/
inductive PulseOutcome | done | noMove | cut
  deriving DecidableEq, Repr

/-- The pulse a MECH_FAIL record names (R135). -/
inductive PulseKind | trip | close
  deriving DecidableEq, Repr

/-- The three phases (R135). -/
inductive Phase | a | b | c
  deriving DecidableEq, Repr

/-- Fault magnitudes (R135). -/
structure Mags where
  a : Nat
  b : Nat
  c : Nat
  n : Nat
  deriving DecidableEq, Repr

/-- ACT's part of a TRIP record (spec/04 R75). -/
structure PulsePart where
  outcome : PulseOutcome
  pulse : Nat
  held : Option Nat
  before : Nat
  after : Nat
  ia : Nat
  ib : Nat
  ic : Nat
  deriving DecidableEq, Repr

/-- SEQ's part of a TRIP record: the first request of the trip and the shot counter (spec/03 R48). -/
structure SeqPart where
  cause : TripReq
  shots : Nat
  deriving DecidableEq, Repr

/-- The part of a TRIP record that came first (R137). -/
inductive TripPart | pulse (p : PulsePart) | sequence (p : SeqPart)
  deriving DecidableEq, Repr

/-- The fields of the fourteen kinds, in the order of R135. -/
inductive RecBody
  | trip (sp : SeqPart) (fault : Option Mags) (pp : PulsePart)
  | close (origin : Origin) (outcome : PulseOutcome) (pulse before after : Nat)
  | lockout (cause : Cause) (shots : Nat)
  | mechFail (pulse : PulseKind)
  | tagPlaced (t : Tag)
  | tagRemoved (t : Tag) (cause : RemovalCause) (auth : Option Authority)
  | sourceLost
  | sourceRestored
  | battery (level : Level) (soc : Nat) (mv : Nat)
  | test (outcome : TestOutcome) (r : Option Nat) (mv : Option Nat)
  | coordination (shots : Nat)
  | groupChange (old new : Nat)
  | restart (kind : StartKind) (oldest newest : Option Nat)
  | wear (phase : Phase) (percent : Nat)
  deriving DecidableEq, Repr

/-- A record (R134). -/
structure Record where
  number : Nat
  body : RecBody
  time : Nat
  valid : Bool
  deriving DecidableEq, Repr

/-- The reported threshold of a phase (R142). -/
inductive WearMark | none | eighty | hundred
  deriving DecidableEq, Repr

/-- One phase's wear count, percent used and reported threshold (R141, R142). -/
structure PhaseWear where
  count : Nat
  percent : Nat
  mark : WearMark
  deriving DecidableEq, Repr

/-- The three wear counts as a retained item (R140). -/
structure WearCounts where
  a : Nat
  b : Nat
  c : Nat
  deriving DecidableEq, Repr

/-- What reaches ORL and the RCC between their start and the RESTART record and waits for it: a record with the time and flag of the
moment it was handed (R134, R140), or a STATUS request (spec/08 R165) (log 11). -/
inductive Held | record (body : RecBody) (time : Nat) (valid : Bool) | status
  deriving DecidableEq, Repr

/-- The Operation Record Log. `waiting` holds what must follow the RESTART record, in the order it came. -/
structure Orl where
  ring : List Record
  next : Nat
  wearA : PhaseWear
  wearB : PhaseWear
  wearC : PhaseWear
  limit : Bool
  opCount : Nat
  time : Nat
  valid : Bool
  sec : Nat
  capture : Option Mags
  part : Option TripPart
  waiting : List Held
  deriving DecidableEq, Repr

/-! ### RCC (spec/08) -/

/-- The channel states (R149). -/
inductive Chan | silent | searching | synced
  deriving DecidableEq, Repr

/-- The report classes, in the order of their codes (R167). -/
inductive Class
  | lockout | mech | trip | tag | restart | source | battery | test | coord | group | status
  deriving DecidableEq, Repr

/-- An outbox entry (R153). `await` is the state AWAIT_ACK. The priority is fixed by the class. -/
structure Entry where
  cls : Class
  record : Option Nat
  await : Bool
  tries : Nat
  seqNo : Option Nat
  carried : Option Nat
  order : Nat
  deriving DecidableEq, Repr

/-- A reply to the master: command id, result, detail (R164). -/
structure RadioReply where
  id : Nat
  res : Res
  detail : Nat
  deriving DecidableEq, Repr

/-- The Radio Channel Controller. `frameMs` is the frame timing: milliseconds since slot 0 began (R150);
the three marks are of log 26. `tx` is the packet in
transmission; transmit enable is high while it is present (R157). -/
structure Rcc where
  chan : Chan
  frameMs : Option Nat
  beaconSeen : Bool
  missTested : Bool
  slotTaken : Bool
  missCount : Nat
  lastFrame : Option Nat
  outbox : List Entry
  lost : Nat
  nextSeq : Nat
  nextOrder : Nat
  lastId : Option Nat
  stored : Option (Res × Nat)
  pending : Option RadioReply
  statusLeft : Option Nat
  tx : Option Bytes
  deriving DecidableEq, Repr

/-! ### SST (spec/09) -/

/-- A page: its fields by number (R170 to R172). -/
abbrev Page := List Nat

/-- What the staging buffer is opened on (R173). -/
inductive Target | group (n : Nat) | global | curve (n : Nat)
  deriving DecidableEq, Repr

/-- The content of an open staging buffer (R173). -/
structure StageBuf where
  target : Target
  page : Page
  pointer : Nat
  deriving DecidableEq, Repr

/-- The staging buffer (R173). While COMMITTING it holds whether the host still waits for the reply (R179, R183) and whether
the page write has begun (R176). -/
inductive Staging | empty | opened (b : StageBuf) | committing (b : StageBuf) (reply : Bool) (writing : Bool)
  deriving DecidableEq, Repr

/-- A queued retained write: the item and its value as handed (R178, items 1..9). -/
inductive RetItem
  | lockout (c : Option Cause)
  | mech (f : Bool)
  | activeGroup (g : Nat)
  | tags (t : TagTable)
  | ring (r : List Record) (next : Nat)
  | wear (w : WearCounts)
  | opCount (n : Nat)
  | charge (c : Nat)
  | history (h : List TestResult)
  deriving DecidableEq, Repr

/-- The retained store: the pages and items 1..9 (R178). The charge count is absent until first written (spec/06 R118). -/
structure Store where
  groups : List Page
  globalPage : Page
  curves : List Page
  lockout : Option Cause
  mech : Bool
  active : Nat
  tags : TagTable
  ring : List Record
  next : Nat
  wear : WearCounts
  opCount : Nat
  charge : Option Nat
  history : List TestResult
  deriving DecidableEq, Repr

/-- The Settings Store: the retained store, the working copies, the held content, the staging buffer and the write queue. -/
structure Sst where
  store : Store
  active : Nat
  group : Page
  globalPage : Page
  curves : List Page
  held : Option Page
  staging : Staging
  waiting : List Src
  queue : List RetItem
  inFlight : Option RetItem
  lost : Bool
  lostMs : Nat
  deriving DecidableEq, Repr

/-! ### HLC (spec/10) -/

/-- A host request after its kind and body length have been read (R184, R185). -/
inductive Request
  | identify | readMeasure | readState (sect start : Nat) | openBreaker | closeBreaker | mechFailClear
  | tagPlace (crew mode expiry : Nat) | tagRemove (number crew : Nat) | tagClear (number : Nat)
  | tagRead (selector value : Nat) | recordRead (number : Nat) | wearReset (phase : Nat) | timeSet (time : Nat)
  | testStart | testCancel | stageOpen (kind number : Nat) | stageLoad (value : Int) (advance : Nat) | stageSeek (field : Nat)
  | stageRead | commit | groupSelect (group : Nat) | restart | unknownKind | badLength
  deriving DecidableEq, Repr

/-- A received frame: kind, request tag, request (R182, R183). -/
structure RxFrame where
  kind : Byte
  tag : Byte
  req : Request
  deriving DecidableEq, Repr

/-- A frame to send: kind, tag, body (R182), and whether it is a notice (R188) or a reply, which the kind does not tell: the reply to
an unknown request of kind 0x70 has the kind of a RECORD notice. -/
structure Frame where
  kind : Byte
  tag : Byte
  body : Bytes
  notice : Bool
  deriving DecidableEq, Repr

/-- The Host Link Controller. `htx` is the last frame that went out on HTX (pin 1). -/
structure Hlc where
  rx : Bytes
  queue : List RxFrame
  current : Option RxFrame
  tx : List Frame
  htx : Bytes
  key : Key
  keyRaw : Key
  keyRun : Nat
  deriving DecidableEq, Repr

/-! ### The part -/

/-- Where the part stands in its starts (spec/09 R180): stopped, in the start delay, started but without ACT's start reading,
or running (from READY on). -/
inductive Stage | stopped | startDelay (k : StartKind) | starting (k : StartKind) | running
  deriving DecidableEq, Repr

/-- The state of the part and the queue of commands waiting for it. `restarting` is present from an accepted RESTART to its warm start
(spec/09 R180) and holds the charge count as it stood when the RESTART was taken (spec/06 R118). -/
structure State where
  stage : Stage
  restarting : Option Nat
  lsu : Lsu
  peu : Peu
  seq : Seq
  act : Act
  tag : TagBlock
  bcu : Bcu
  orl : Orl
  rcc : Rcc
  sst : Sst
  hlc : Hlc
  pending : List Instr
  deriving DecidableEq, Repr

/-- Why a step can stop the machine. -/
inductive Fault
  /-- Raised by MAGNITUDE_UPDATE, LIVE_QUALIFIED, DEAD_QUALIFIED and ELEMENT_OPERATE when the command does not carry the 16
  sample sets of spec/01 R3. The part has no such event; safe. -/
  | blockLength
  deriving DecidableEq, Repr

/-- Why a command has no meaning. -/
inductive Refusal
  /-- Raised by an arm of exec whose command is not modelled yet; safe. No arm raises it now. -/
  | notModelled (mnemonic : String)
  deriving DecidableEq, Repr

/-! ### Reset -/

/-- The delivered settings group: fields 0..53 (spec/09 R170). The HS pickup of 4,000 is as delivered, log 12. -/
def deliveredGroup : Page :=
  [1, 400, 1, 100, 0, 0] ++ [1, 200, 2, 100, 50, 0] ++ [1, 100, 1, 100, 0, 0] ++ [1, 50, 3, 100, 50, 0] ++
  [0, 4000, 0, 5, 0, 0] ++ [1, 300, 0, 10, 0, 0] ++ [1, 100, 0, 10, 0, 0] ++
  [21, 21, 26, 26] ++ [3, 1000, 5000, 15000, 30, 1, 1, 60]

/-- The delivered global page: fields 0..11 (spec/09 R171). -/
def deliveredGlobal : Page := [50, 11000, 70, 30, 0, 0, 17, 0, 120, 10000000, 0, 0]

/-- The page of an unloaded curve (spec/09 R172). -/
def unloadedCurve : Page := List.replicate 33 0

/-- The retained store as delivered (spec/05 R108, spec/06 R118 and R132, spec/07 R140, spec/09 R170 to R172). That neither
lockout nor mechanism failure is retained is a DESIGN CHOICE, log 9. -/
def Store.delivered : Store where
  groups := [deliveredGroup, deliveredGroup, deliveredGroup, deliveredGroup]
  globalPage := deliveredGlobal
  curves := List.replicate 8 unloadedCurve
  lockout := none
  mech := false
  active := 0
  tags := ⟨List.replicate 8 none, 1⟩
  ring := []
  next := 1
  wear := ⟨0, 0, 0⟩
  opCount := 0
  charge := none
  history := []

/-- The measurement set of a window restart (spec/01 R7). -/
def MeasSet.cleared : MeasSet := ⟨0, 0, 0, 0, 0, 0, false, false, false, false, false, false, false⟩

/-- The LSU before it is started: the values of spec/01 R7. -/
def Lsu.idle : Lsu := ⟨160, [], 0, .cleared, ⟨.unknown, 0, 0⟩, ⟨.unknown, 0, 0⟩, 7700, 3300⟩

/-- Every element disarmed. R39 starts each QUIET or DISABLED, as its first arming makes it; that all seven stand DISABLED until the
first update is a DESIGN CHOICE, log 9. -/
def Elems.disabled : Elems :=
  ⟨⟨.disabled, 0⟩, ⟨.disabled, 0⟩, ⟨.disabled, 0⟩, ⟨.disabled, 0⟩, ⟨.disabled, 0⟩, ⟨.disabled, 0⟩, ⟨.disabled, 0⟩⟩

/-- The PEU after any start (spec/02 R39). -/
def Peu.fresh : Peu := ⟨.disabled, true, 1, false, true⟩

/-- SEQ until its start-up decision: state LOCKOUT with cause RESTART stands for "not decided" (log 10); the rest as spec/03 R66. -/
def Seq.undecided : Seq :=
  { state := .lockout, shots := 0, manual := false, cause := some .restart, pendingGroup := none, trip := none, deadNo := none,
    deadLeft := none, holdReason := none, holdLeft := none, reclaimLeft := none, heldClose := none, decided := false, events := [] }

/-- A debouncer without a debounced state (spec/04 R68). -/
def Debouncer.none : Debouncer := ⟨Option.none, 0, Option.none⟩

/-- ACT with both coils undriven and the converter STOPPED (spec/04 R85); `cap` is what the capacitor was last measured at, and
the mechanism-failure flag reads clear in a start delay, whatever is retained (DESIGN CHOICE, log 9). -/
def Act.idle (cap pulses : Nat) : Act :=
  { state := .idle, pulseMs := none, before := none, origin := none, heldMs := none, mech := false, openC := .none,
    closedC := .none, position := .unknown, startRead := false, startMs := 0, cap := cap, converter := .stopped, pulses := pulses }

/-- TAG before its start: R108 gives values at the start alone, and in a start delay the model shows an empty table with next number 1,
whatever is retained. DESIGN CHOICE, log 9. -/
def TagBlock.idle : TagBlock := ⟨⟨List.replicate 8 none, 1⟩, 0⟩

/-- The BCU before its start, without test history or countdown whatever is retained (DESIGN CHOICE, log 9); `connected` is the battery
disconnect latch, which keeps its position without drive (spec/06 R123). -/
def Bcu.idle (connected : Bool) : Bcu :=
  { meas := ⟨0, 0, 25, false⟩, absorbSp := 28800, floatSp := 27300, charger := .noSupply, absorbTime := 0, floatLow := 0,
    faultClear := 0, charge := 0, soc := 0, resync := 0, measCount := 0, lowRun := 0, recRun := 0, exhRun := 0,
    level := .conserve, shutdown := none, tripWaitMs := 0, test := .idle, loadMs := 0, settleMs := 0, suspMs := 0,
    baseline := none, origin := none, history := [], countdown := none, connected := connected }

/-- A phase without wear. -/
def PhaseWear.new : PhaseWear := ⟨0, 0, .none⟩

/-- ORL before its start. R140 gives values at the start of ORL alone; in a cold start's start delay, a later one's too, the model shows
an empty ring with next number 1 and counts of 0, whatever is retained. DESIGN CHOICE, log 9. -/
def Orl.idle : Orl :=
  { ring := [], next := 1, wearA := .new, wearB := .new, wearC := .new, limit := false, opCount := 0, time := 0,
    valid := false, sec := 0, capture := none, part := none, waiting := [] }

/-- The RCC in a cold start's start delay (spec/08 R165): it listens for nothing and transmits nothing. -/
def Rcc.idle : Rcc :=
  { chan := .silent, frameMs := none, beaconSeen := false, missTested := false, slotTaken := false, missCount := 0,
    lastFrame := none, outbox := [], lost := 0, nextSeq := 0, nextOrder := 0, lastId := none, stored := none, pending := none,
    statusLeft := none, tx := none }

/-- The SST with its store and nothing in progress (spec/09 R180). The working copies are replaced when the blocks start. -/
def Sst.idle (store : Store) : Sst :=
  { store := store, active := store.active, group := store.groups.getD store.active deliveredGroup,
    globalPage := store.globalPage, curves := store.curves, held := none, staging := .empty, waiting := [], queue := [],
    inFlight := none, lost := false, lostMs := 0 }

/-- The HLC with nothing received or waiting (spec/10 R183, R187). -/
def Hlc.idle : Hlc :=
  { rx := [], queue := [], current := none, tx := [], htx := [], key := .remote, keyRaw := .remote, keyRun := 0 }

/-- The part with no running state but its retained store, the latch of the battery disconnect, the capacitor, and the model's own
count and queue. -/
def State.blank (stage : Stage) (store : Store) (connected : Bool) (cap pulses : Nat) (pending : List Instr) : State :=
  { stage := stage, restarting := none, lsu := .idle, peu := .fresh, seq := .undecided, act := .idle cap pulses, tag := .idle,
    bcu := .idle connected, orl := .idle, rcc := .idle, sst := .idle store, hlc := .idle, pending := pending }

/-- Right after reset: the beginning of a cold start's start delay of a part in its delivered state (spec/09 R180; log 9). -/
def State.reset : State := .blank (.startDelay .cold) .delivered false 0 0 []

end Sys2Proof.Machine
end

