-- ==== Sys2Proof/Machine/Operands.lean ====
section
/-! DEFINITION. Settings fields, table operations and integer arithmetic that the blocks share: every operand form and every
formula of spec/01 to spec/09 that reads no State. -/

namespace Sys2Proof.Machine

/-! ### Plain arithmetic (spec/00 section 4.1) -/

/-- A value clamped to lo..hi. -/
def clampInt (lo hi x : Int) : Int := if x < lo then lo else if hi < x then hi else x

/-- The last n entries of a list. -/
def lastN {α : Type} (n : Nat) (l : List α) : List α := l.drop (l.length - n)

/-- Binary digits of the square root below 2^k, highest first. -/
def isqrtFrom : Nat → Nat → Nat → Nat
  | 0, _, r => r
  | k + 1, n, r => if (r + 2 ^ k) * (r + 2 ^ k) ≤ n then isqrtFrom k n (r + 2 ^ k) else isqrtFrom k n r

/-- The floor of the square root, for values below 2^32 (spec/01 R3: a mean square is at most 3,600,000,000). -/
def isqrt (n : Nat) : Nat := isqrtFrom 16 n 0

/-! ### LSU (spec/01) -/

/-- Current samples are limited to -28,000..28,000 (R1). -/
def currentLimit : Int := 28000

/-- Voltage samples are limited to -60,000..60,000 (R1). -/
def voltageLimit : Int := 60000

/-- The measurement ceiling (R4). -/
def currentCeiling : Nat := 20000

/-- The ceiling of a voltage magnitude (R5). -/
def voltageCeiling : Nat := 40000

/-- The limits of R1. -/
def limitSamples (x : SampleSet) : SampleSet :=
  { a := clampInt (-currentLimit) currentLimit x.a, b := clampInt (-currentLimit) currentLimit x.b,
    c := clampInt (-currentLimit) currentLimit x.c, n := clampInt (-currentLimit) currentLimit x.n,
    vs := clampInt (-voltageLimit) voltageLimit x.vs, vl := clampInt (-voltageLimit) voltageLimit x.vl }

/-- A sample at a limit is saturated (R1). -/
def saturated (limit x : Int) : Bool := x == limit || x == -limit

/-- The square of a sample. -/
def square (x : Int) : Nat := x.natAbs * x.natAbs

/-- The computed magnitude of one channel's window (R3). -/
def rms (n : Nat) (w : List Int) : Nat := isqrt ((w.map square).sum / n)

/-- A current channel's magnitude (R4). -/
def currentMagnitude (n : Nat) (w : List Int) : Nat :=
  if w.any (saturated currentLimit) then currentCeiling else min currentCeiling (rms n w)

/-- A voltage channel's magnitude (R5). -/
def voltageMagnitude (n : Nat) (w : List Int) : Nat := min voltageCeiling (rms n w)

/-- The measurement set of a full window (R3 to R5, R9). -/
def measure (n : Nat) (w : List SampleSet) : MeasSet :=
  { a := currentMagnitude n (w.map (·.a)), b := currentMagnitude n (w.map (·.b)), c := currentMagnitude n (w.map (·.c)),
    n := currentMagnitude n (w.map (·.n)), vs := voltageMagnitude n (w.map (·.vs)), vl := voltageMagnitude n (w.map (·.vl)),
    satA := (w.map (·.a)).any (saturated currentLimit), satB := (w.map (·.b)).any (saturated currentLimit),
    satC := (w.map (·.c)).any (saturated currentLimit), satN := (w.map (·.n)).any (saturated currentLimit),
    satVs := (w.map (·.vs)).any (saturated voltageLimit), satVl := (w.map (·.vl)).any (saturated voltageLimit), valid := true }

/-- The maximum phase magnitude (R9). -/
def MeasSet.maxPhase (m : MeasSet) : Nat := max m.a (max m.b m.c)

/-- The live run's target (R12). -/
def liveTarget : Nat := 50

/-- The dead run's target (R12). -/
def deadTarget : Nat := 30

/-- One full update of a side's runs and line state (R11 to R13). -/
def qualify (liveV deadV v : Nat) (x : SideState) : SideState :=
  if liveV ≤ v then
    { line := if x.liveRun + 1 = liveTarget then .live else x.line, liveRun := min liveTarget (x.liveRun + 1), deadRun := 0 }
  else if v < deadV then
    { line := if x.deadRun + 1 = deadTarget then .dead else x.line, liveRun := 0, deadRun := min deadTarget (x.deadRun + 1) }
  else { x with liveRun := 0, deadRun := 0 }

/-- The window length of a nominal frequency (R2). -/
def windowLength (frequency : Nat) : Nat := if frequency = 60 then 133 else 160

/-! ### Settings fields (spec/09 R170, R171) -/

/-- A field of a page. -/
def Page.field (p : Page) (i : Nat) : Nat := p.getD i 0

/-- The element index of R170. -/
def Element.index : Element → Nat
  | .pf => 0 | .pd => 1 | .gf => 2 | .gd => 3 | .hs => 4 | .hlp => 5 | .hlg => 6

/-- The six settings of an element (spec/02 R18). -/
structure ElemSettings where
  enable : Bool
  pickup : Nat
  curve : Nat
  tm : Nat
  minTime : Nat
  reset : Nat
  deriving DecidableEq, Repr

/-- An element's settings in a group (spec/02 R18). -/
def elemSettings (g : Page) (e : Element) : ElemSettings :=
  { enable := g.field (6 * e.index) == 1, pickup := g.field (6 * e.index + 1), curve := g.field (6 * e.index + 2),
    tm := g.field (6 * e.index + 3), minTime := g.field (6 * e.index + 4), reset := g.field (6 * e.index + 5) }

/-- The shot-table entry of trip t (spec/02 R19). -/
def shotEntry (g : Page) (t : Nat) : Nat := g.field (41 + t)

/-- A shot-table entry lists an element: the sum of 1, 2, 4, 8 and 16 for PF, PD, GF, GD and HS (spec/10 R185). -/
def entryLists (entry : Nat) (e : Element) : Bool := e.index < 5 && (entry / 2 ^ e.index) % 2 == 1

/-- Trips-to-lockout L (spec/03 R41). -/
def Page.tripsToLockout (g : Page) : Nat := g.field 46

/-- Dead time n in milliseconds, n in 1..3 (spec/03 R41). -/
def Page.deadTime (g : Page) (n : Nat) : Nat := g.field (46 + n)

/-- The reclaim time in milliseconds (spec/03 R41). -/
def Page.reclaimMs (g : Page) : Nat := g.field 50 * 1000

/-- Sequence coordination (spec/03 R41). -/
def Page.coordination (g : Page) : Bool := g.field 51 == 1

/-- Live source required (spec/03 R41). -/
def Page.liveSource (g : Page) : Bool := g.field 52 == 1

/-- The source wait limit in milliseconds (spec/03 R41). -/
def Page.sourceWaitMs (g : Page) : Nat := g.field 53 * 1000

/-- Global settings (spec/09 R171). -/
def Page.frequency (p : Page) : Nat := p.field 0
def Page.nominal (p : Page) : Nat := p.field 1
def Page.liveThreshold (p : Page) : Nat := p.field 2
def Page.deadThreshold (p : Page) : Nat := p.field 3
def Page.stationId (p : Page) : Nat := p.field 4
def Page.statusInterval (p : Page) : Nat := p.field 5
def Page.capacity (p : Page) : Nat := p.field 6
def Page.testInterval (p : Page) : Nat := p.field 7
def Page.rLimit (p : Page) : Nat := p.field 8
def Page.wearBudget (p : Page) : Nat := p.field 9
def Page.tripOnExhaustion (p : Page) : Bool := p.field 10 == 1
def Page.remotePermitted (p : Page) : Bool := p.field 11 == 1

/-- The live voltage (spec/01 R11). -/
def liveVoltage (p : Page) : Nat := p.nominal * p.liveThreshold / 100

/-- The dead voltage (spec/01 R11). -/
def deadVoltage (p : Page) : Nat := p.nominal * p.deadThreshold / 100

/-- A countdown in minutes, absent when its setting is 0 (spec/06 R126, spec/08 R155). -/
def countdownOf (minutes : Nat) : Option Nat := if minutes = 0 then none else some minutes

/-- The schedule countdown (spec/06 R126). -/
def testCountdown (p : Page) : Option Nat := countdownOf (p.testInterval * 1440)

/-- The status countdown (spec/08 R155). -/
def statusCountdown (p : Page) : Option Nat := countdownOf p.statusInterval

/-! ### PEU arithmetic (spec/02) -/

/-- A full accumulator (R22). -/
def accFull : Nat := 1000000

/-- Dropout (R24). -/
def dropout (pickup : Nat) : Nat := pickup * 95 / 100

/-- The multiple of pickup in hundredths (R25). -/
def multiple (i pickup : Nat) : Nat := max 100 (min 4000 (100 * i / pickup))

/-- The time between two neighbouring breakpoints (R27): the correction is truncated toward zero. -/
def interpolate (m1 t1 m2 t2 m : Nat) : Nat :=
  ((t1 : Int) + Int.tdiv (((m : Int) - m1) * ((t2 : Int) - t1)) ((m2 : Int) - m1)).toNat

/-- The curve time (R27). A curve has at least two breakpoints (R26); of none nothing is said (log 30). -/
def curveTime : List (Nat × Nat) → Nat → Nat
  | [], _ => 0
  | [(_, t)], _ => t
  | (m1, t1) :: (m2, t2) :: rest, m =>
    if m ≤ m1 then t1 else if m < m2 then interpolate m1 t1 m2 t2 m else curveTime ((m2, t2) :: rest) m

/-- The built-in curves (R28). -/
def builtInCurve : Nat → List (Nat × Nat)
  | 0 => [(100, 1000), (4000, 1000)]
  | 1 => [(100, 1200), (200, 300), (500, 80), (1000, 40), (4000, 30)]
  | 2 => [(100, 12000), (200, 3000), (500, 900), (1000, 450), (2000, 300), (4000, 250)]
  | _ => [(100, 40000), (200, 8000), (500, 1400), (1000, 500), (2000, 260), (4000, 180)]

/-- The breakpoints of a curve page (spec/09 R172). -/
def pageBreakpoints (p : Page) : List (Nat × Nat) :=
  (List.range (p.field 0)).map fun i => (p.field (2 * i + 1), p.field (2 * i + 2))

/-- Curve 0..11, the user curves from their working copies (R26, R28). -/
def curvePoints (curves : List Page) (id : Nat) : List (Nat × Nat) :=
  if id < 4 then builtInCurve id else pageBreakpoints (curves.getD (id - 4) unloadedCurve)

/-- The effective operate time (R29). -/
def effectiveTime (curveMs tm minTime : Nat) : Nat := max 10 (min 60000 (max minTime ((curveMs * tm + 50) / 100)))

/-- The increment of an update in the pickup band (R30). -/
def increment (set : ElemSettings) (points : List (Nat × Nat)) (i : Nat) : Nat :=
  2000000 / effectiveTime (curveTime points (multiple i set.pickup)) set.tm set.minTime

/-- The decrement of an update in the reset band, with a reset time above 0 (R33). -/
def decrement (reset : Nat) : Nat := 2000000 / reset

/-! ### Tags (spec/05) -/

/-- The tags present, by slot. -/
def TagTable.tags (t : TagTable) : List Tag := t.slots.filterMap id

/-- The effective tag mode (R91). -/
def TagTable.mode (t : TagTable) : EffMode :=
  if t.tags.any (·.mode == .noClose) then .noClose else if t.tags.isEmpty then .none else .noReclose

/-- A tag of that number is present. -/
def TagTable.holds (t : TagTable) (n : Nat) : Bool := t.tags.any (·.number == n)

/-- The tag with a number. -/
def TagTable.find (t : TagTable) (n : Nat) : Option Tag := t.tags.find? (·.number == n)

/-- The tag a crew holds in a mode. -/
def TagTable.ofCrew (t : TagTable) (crew : Nat) (m : TagMode) : Option Tag :=
  t.tags.find? fun x => x.crew == crew && x.mode == m

/-- One step of tag numbers, 65535 followed by 1 (R90). -/
def tagAfter (n : Nat) : Nat := if n = 65535 then 1 else n + 1

/-- The search of R90: eight steps find a free number. -/
def freeNumber (t : TagTable) : Nat → Nat → Nat
  | 0, n => n
  | k + 1, n => if t.holds n then freeNumber t k (tagAfter n) else n

/-- The tag written into the lowest-numbered empty slot (R89). -/
def fillSlot (x : Tag) : List (Option Tag) → List (Option Tag)
  | [] => []
  | none :: rest => some x :: rest
  | some y :: rest => some y :: fillSlot x rest

/-- The table with its tag of x's number replaced by x. -/
def TagTable.replace (t : TagTable) (x : Tag) : TagTable :=
  { t with slots := t.slots.map fun o => o.map fun y => if y.number == x.number then x else y }

/-- The table without the tag of a number: its slot empties (R89). -/
def TagTable.remove (t : TagTable) (n : Nat) : TagTable :=
  { t with slots := t.slots.map fun o => o.bind fun y => if y.number == n then none else some y }

/-- The slot that holds a number. -/
def TagTable.slotOf (t : TagTable) (n : Nat) : Nat :=
  t.slots.findIdx fun o => o.any (·.number == n)

/-- Insertion by ascending tag number. -/
def insertTag (x : Tag) : List Tag → List Tag
  | [] => [x]
  | y :: rest => if x.number ≤ y.number then x :: y :: rest else y :: insertTag x rest

/-- The tags in ascending tag number (R89). -/
def TagTable.sorted (t : TagTable) : List Tag := t.tags.foldr insertTag []

/-- A minute off every tag that has remaining minutes (R101). A tag restored with 0 of them stays at 0, and the minute event removes it:
DESIGN CHOICE, log 64. -/
def TagTable.minute (t : TagTable) : TagTable :=
  { t with slots := t.slots.map fun o => o.map fun x => { x with left := x.left.map (· - 1) } }

/-- The rank of an authority (spec/00 section 4.2). -/
def Authority.rank : Authority → Nat
  | .loc => 0 | .link => 1 | .radio => 2

/-- The higher of two authorities (R95). -/
def higher (x y : Authority) : Authority := if x.rank ≤ y.rank then x else y

/-- The remaining minutes after a refresh (R95). -/
def refreshLeft (old asked : Option Nat) : Option Nat :=
  match old, asked with
  | some m, some e => some (max m e)
  | _, _ => none

/-- The origin of a close asked under an authority (spec/03 R57). -/
def Authority.origin : Authority → Origin
  | .loc => .loc | .link => .link | .radio => .radio

/-! ### Battery (spec/06) -/

/-- The measurement clamped to the ranges of R110. -/
def clampMeas (m : BattMeas) : BattMeas :=
  { mv := min 40000 m.mv, ma := clampInt (-30000) 30000 m.ma, temp := clampInt (-55) 125 m.temp, supply := m.supply }

/-- A test reading in the ranges of R110. -/
def clampReading (r : TestReading) : TestReading := { mv := min 40000 r.mv, ma := clampInt (-30000) 30000 r.ma }

/-- A setpoint from its base (R111). -/
def setpoint (base : Int) (temp : Int) : Int := base - 36 * (clampInt (-20) 50 temp - 25)

/-- The absorb setpoint (R111). -/
def absorbSetpoint (temp : Int) : Int := setpoint 28800 temp

/-- The float setpoint (R111). -/
def floatSetpoint (temp : Int) : Int := setpoint 27300 temp

/-- The bulk limit of a capacity, in milliamperes (R112). -/
def bulkLimit (capacity : Nat) : Nat := capacity * 100

/-- The full count of a capacity (R116). -/
def fullCount (capacity : Nat) : Nat := capacity * 3600000

/-- One second's move of the charge count (R116). -/
def moveCharge (full charge : Nat) (ma : Int) : Nat :=
  if 0 ≤ ma then min full (charge + ma.toNat * 95 / 100) else min full (charge - (-ma).toNat)

/-- SoC (R116). -/
def socOf (full charge : Nat) : Nat := charge * 100 / full

/-- The fault condition (R114). -/
def faultCondition (m : BattMeas) : Bool := 55 < m.temp || m.temp < -30 || 31000 < m.mv

/-- A clear measurement (R114). -/
def clearMeasurement (m : BattMeas) : Bool := -25 ≤ m.temp && m.temp ≤ 50 && m.mv ≤ 30000

/-- The rank of a reserve level: lower levels are greater (section 6.4). -/
def Level.rank : Level → Nat
  | .normal => 0 | .lean => 1 | .conserve => 2 | .exhausted => 3

/-- The floor level (R119). -/
def floorLevel (soc lowRun exhRun : Nat) : Level :=
  if exhRun = 10 then .exhausted
  else if soc < 20 ∨ lowRun = 10 then .conserve
  else if soc < 40 then .lean
  else .normal

/-- One step up, past the margin (R119). -/
def climbLevel (level : Level) (soc recRun : Nat) : Level :=
  match level with
  | .conserve => if 25 ≤ soc ∧ recRun = 60 then .lean else .conserve
  | .lean => if 45 ≤ soc then .normal else .lean
  | .normal => .normal
  | .exhausted => .exhausted

/-- The reserve level after a measurement (R119). -/
def nextLevel (level : Level) (soc lowRun recRun exhRun : Nat) : Level :=
  if level.rank < (floorLevel soc lowRun exhRun).rank then floorLevel soc lowRun exhRun else climbLevel level soc recRun

/-- The level at the start of the BCU (R121). -/
def startLevel (soc : Nat) : Level := if 40 ≤ soc then .normal else if 20 ≤ soc then .lean else .conserve

/-- The load current (R128 step 3). -/
def loadCurrent (base loaded : TestReading) : Int := base.ma - loaded.ma

/-- R in milliohms, absent when the load did not draw (R128 steps 4 and 5). -/
def resistance (base loaded : TestReading) : Option Nat :=
  if loadCurrent base loaded < 1000 then none
  else some ((base.mv - loaded.mv) * 1000 / (loadCurrent base loaded).toNat)

/-- The outcome of a completed test (R128 step 5). -/
def testOutcome (limit : Nat) (base loaded : TestReading) : TestOutcome :=
  match resistance base loaded with
  | some r => if 24000 ≤ loaded.mv ∧ r ≤ limit then .pass else .fail
  | none => .fail

/-! ### Wear (spec/07 R141, R142) -/

/-- The top of a wear count. -/
def wearTop : Nat := 4000000000

/-- The units one interruption adds. -/
def wearUnits (amps : Nat) : Nat := min 20000 amps * min 20000 amps / 10000

/-- Percent used. -/
def wearPercent (budget count : Nat) : Nat := min 100 (count * 100 / budget)

/-- The threshold a percent reaches at the start of ORL. -/
def markOf (percent : Nat) : WearMark := if percent = 100 then .hundred else if 80 ≤ percent then .eighty else .none

/-- The reported threshold after a forming. -/
def markAfter (percent : Nat) (old : WearMark) : WearMark :=
  if percent < 80 then .none
  else if percent = 100 then .hundred
  else match old with
    | .none => .eighty
    | .eighty => .eighty
    | .hundred => .eighty

/-- The WEAR records of one phase at a forming: at 80 from NONE, at 100 from below 100. -/
def wearRecords (phase : Phase) (percent : Nat) (old : WearMark) : List RecBody :=
  (if 80 ≤ percent ∧ old = .none then [.wear phase percent] else []) ++
  (if percent = 100 ∧ old ≠ .hundred then [.wear phase 100] else [])

/-! ### Outbox (spec/08) -/

/-- The priority of a report class (R153). -/
def Class.priority : Class → Nat
  | .lockout | .mech => 0
  | .trip | .tag | .restart => 1
  | .source | .battery => 2
  | .test | .coord | .group | .status => 3

/-- Insertion by priority, behind its equals: the new entry is the youngest (R153). -/
def insertEntry (x : Entry) : List Entry → List Entry
  | [] => [x]
  | y :: rest => if x.cls.priority < y.cls.priority then x :: y :: rest else y :: insertEntry x rest

/-- The outbox holds at most 32 entries (R153). -/
def outboxTop : Nat := 32

/-- The last entry that satisfies p removed. -/
def eraseLast (p : Entry → Bool) (l : List Entry) : List Entry := (l.reverse.eraseP p).reverse

/-- What an arriving entry does to the outbox, and whether a report was lost (R156). The outbox is in order, so its last WAITING
entry is the youngest of the least urgent, and of priority 0 the first WAITING entry is the oldest. -/
def arrive (x : Entry) (l : List Entry) : List Entry × Bool :=
  if l.length < outboxTop then (insertEntry x l, false)
  else
    match (l.filter (!·.await)).getLast? with
    | none => (l, true)
    | some y =>
      if x.cls.priority < y.cls.priority then (insertEntry x (eraseLast (!·.await) l), true)
      else if x.cls.priority = 0 then (insertEntry x (l.eraseP (!·.await)), true)
      else (l, true)

/-- A count held at 65535 (R160). -/
def lostUp (n : Nat) (more : Bool) : Nat := if more then min 65535 (n + 1) else n

/-- The outbox with its entry in AWAIT_ACK returned to WAITING (R152, R159): of two WAITING STATUS entries the younger goes. -/
def returnAwait (countTry : Bool) (l : List Entry) : List Entry :=
  let back := l.map fun e => if e.await then { e with await := false, tries := if countTry then min 4 (e.tries + 1) else e.tries } else e
  if l.any (fun e => e.await && e.cls == .status) && 1 < (back.countP (fun e => e.cls == .status))
  then eraseLast (·.cls == .status) back else back

/-- The priorities a reserve level permits (R157). -/
def permitted (level : Level) (priority : Nat) : Bool :=
  match level with
  | .normal => true
  | .lean => priority ≤ 1
  | .conserve => priority == 0
  | .exhausted => false

/-! ### Pages (spec/09) -/

/-- The last field of a target's page (R174). -/
def Target.lastField : Target → Nat
  | .group _ => 53
  | .global => 11
  | .curve _ => 32

/-- lo..hi. -/
def within (lo hi v : Int) : Bool := lo ≤ v && v ≤ hi

/-- The range of a group field (R170). -/
def groupFieldOk (i : Nat) (v : Int) : Bool :=
  if i < 42 then
    match i % 6 with
    | 0 => within 0 1 v
    | 1 => within 5 2000 v
    | 2 => within 0 11 v
    | 3 => within 5 200 v
    | 4 => within 0 2000 v
    | _ => v == 0 || within 100 60000 v
  else if i < 46 then within 0 31 v
  else if i = 46 then within 1 4 v
  else if i < 50 then within 300 180000 v && v % 10 == 0
  else if i = 50 then within 5 180 v
  else if i < 53 then within 0 1 v
  else within 0 600 v

/-- The range of a global-page field (R171). -/
def globalFieldOk (i : Nat) (v : Int) : Bool :=
  match i with
  | 0 => v == 50 || v == 60
  | 1 => within 2000 25000 v
  | 2 => within 60 90 v
  | 3 => within 10 50 v
  | 4 => within 0 15 v
  | 5 => v == 0 || within 15 1440 v
  | 6 => within 7 40 v
  | 7 => within 0 30 v
  | 8 => within 20 500 v
  | 9 => within 100000 100000000 v
  | _ => within 0 1 v

/-- The range of a curve-page field (R172). -/
def curveFieldOk (i : Nat) (v : Int) : Bool :=
  if i = 0 then within 2 16 v else if i % 2 = 1 then within 100 4000 v else within 10 60000 v

/-- The range of a field of a target's page (R174). -/
def fieldOk : Target → Nat → Int → Bool
  | .group _, i, v => groupFieldOk i v
  | .global, i, v => globalFieldOk i v
  | .curve _, i, v => curveFieldOk i v

/-- A curve id names a built-in or a loaded curve (R175). -/
def curveLoaded (curves : List Page) (id : Nat) : Bool :=
  id < 4 || (curves.getD (id - 4) unloadedCurve).field 0 != 0

/-- The seven curve id fields (R170). -/
def curveIdFields : List Nat := [2, 8, 14, 20, 26, 32, 38]

/-- A group names a curve (R175). -/
def namesCurve (g : Page) (id : Nat) : Bool := curveIdFields.any fun i => g.field i == id

/-- Field i of a staged page passes its range and cross-field checks (R175). -/
def validField (curves : List Page) (t : Target) (p : Page) (i : Nat) : Bool :=
  match t with
  | .group _ => groupFieldOk i (p.field i) && (!curveIdFields.contains i || curveLoaded curves (p.field i))
  | .global => globalFieldOk i (p.field i)
  | .curve _ =>
    i == 0 && curveFieldOk 0 (p.field 0) ||
    i != 0 && 2 * p.field 0 < i ||
    i != 0 && curveFieldOk i (p.field i) &&
      (i < 3 || (if i % 2 = 1 then p.field (i - 2) < p.field i else p.field i ≤ p.field (i - 2)))

/-- The first bad field of a staged page (R175). -/
def firstBad (curves : List Page) (t : Target) (p : Page) : Option Nat :=
  (List.range (t.lastField + 1)).find? fun i => !validField curves t p i

/-- A curve page as stored: the fields beyond the count are 0 (R172). -/
def storedCurve (p : Page) : Page := p.mapIdx fun i v => if 2 * p.field 0 < i then 0 else v

/-- The page a commit stores (R176). -/
def storedPage (t : Target) (p : Page) : Page :=
  match t with
  | .curve _ => storedCurve p
  | _ => p

/-- The stored page of a target (R173). -/
def Store.page (st : Store) : Target → Page
  | .group n => st.groups.getD n deliveredGroup
  | .global => st.globalPage
  | .curve n => st.curves.getD (n - 4) unloadedCurve

/-- The store with a target's page replaced whole (R176). -/
def Store.withPage (st : Store) (t : Target) (p : Page) : Store :=
  match t with
  | .group n => { st with groups := st.groups.set n p }
  | .global => { st with globalPage := p }
  | .curve n => { st with curves := st.curves.set (n - 4) p }

/-- The item number of a retained write (R178). -/
def RetItem.item : RetItem → Nat
  | .lockout _ => 1 | .mech _ => 2 | .activeGroup _ => 3 | .tags _ => 4 | .ring _ _ => 5 | .wear _ => 6
  | .opCount _ => 7 | .charge _ => 8 | .history _ => 9

/-- A write queued: one per item, in item order, a newer value replacing the pending one (R178). -/
def insertWrite (x : RetItem) : List RetItem → List RetItem
  | [] => [x]
  | y :: rest =>
    if x.item < y.item then x :: y :: rest else if x.item = y.item then x :: rest else y :: insertWrite x rest

/-- The store with an item written (R178). -/
def Store.withItem (st : Store) : RetItem → Store
  | .lockout c => { st with lockout := c }
  | .mech f => { st with mech := f }
  | .activeGroup g => { st with active := g }
  | .tags t => { st with tags := t }
  | .ring r n => { st with ring := r, next := n }
  | .wear w => { st with wear := w }
  | .opCount n => { st with opCount := n }
  | .charge c => { st with charge := some c }
  | .history h => { st with history := h }

/-! ### ACT (spec/04) -/

/-- The trip minimum in volts (R72). -/
def tripMinimum : Nat := 150

/-- The close permit in volts (R76). -/
def closePermit : Nat := 250

/-- The length of a trip pulse without an open confirmation (R74). -/
def tripPulseMs : Nat := 120

/-- The length of a close pulse without a close confirmation (R78). -/
def closePulseMs : Nat := 200

/-- A capacitor measurement is clamped to 0..350 V (R82). -/
def clampVolts (v : Nat) : Nat := min 350 v

/-- The position of two debounced contacts (R69). -/
def decodePosition (openC closedC : ContactState) : Position :=
  match openC, closedC with
  | .made, .notMade => .isOpen
  | .notMade, .made => .closed
  | .made, .made => .unknown
  | .notMade, .notMade => .unknown

/-- The state the converter takes on leaving PAUSED or STOPPED (R83). -/
def converterFrom (v : Nat) : Converter := if v < closePermit then .full else if v < 300 then .topup else .off

/-- The converter's move at a measurement in FULL, TOPUP or OFF (R83). -/
def converterStep (c : Converter) (v : Nat) : Converter :=
  match c with
  | .full => if closePermit ≤ v then .topup else .full
  | .topup => if v < closePermit then .full else if 300 ≤ v then .off else .topup
  | .off => if v < closePermit then .full else if v < 290 then .topup else .off
  | .paused => .paused
  | .stopped => .stopped

/-- A debouncer after its contact has read one value for ms milliseconds (R68, log 8). -/
def debounce (d : Debouncer) (x : ContactState) (ms : Nat) : Debouncer :=
  let run := if d.raw = some x then min 4 (d.run + ms) else min 4 ms
  { raw := some x, run := run, stable := if run = 4 then some x else d.stable }

end Sys2Proof.Machine
end

