-- ==== Sys2Proof/Machine/Flags.lean ====
section
/-! DEFINITION. The indications, permissions and conditions that one block forms and another reads (spec/00 section 2.2), and the
output pins (spec/00 section 5): what is computed from State and held nowhere. -/

namespace Sys2Proof.Machine

/-! ### PEU -/

/-- One element's state. -/
def Elems.get (x : Elems) : Element → Elem
  | .pf => x.pf | .pd => x.pd | .gf => x.gf | .gd => x.gd | .hs => x.hs | .hlp => x.hlp | .hlg => x.hlg

/-- The seven elements built by name. -/
def Elems.build (f : Element → Elem) : Elems := ⟨f .pf, f .pd, f .gf, f .gd, f .hs, f .hlp, f .hlg⟩

/-- The table order (spec/02 R17). -/
def elementOrder : List Element := [.pf, .pd, .gf, .gd, .hs, .hlp, .hlg]

/-- Timing present (spec/02 R38). -/
def Elems.timingPresent (x : Elems) : Bool := elementOrder.any fun e => (x.get e).st == .timing || (x.get e).st == .held

/-- All quiet (spec/02 R38). -/
def Elems.allQuiet (x : Elems) : Bool := elementOrder.all fun e => (x.get e).st == .quiet || (x.get e).st == .disabled

/-- The next trip number (spec/02 R19). -/
def nextTripNumber (shots : Nat) : Nat := min 4 (shots + 1)

/-- An element is armed (spec/02 R19, R20). -/
def armed (g : Page) (trip : Nat) (mode : EffMode) (e : Element) : Bool :=
  match e with
  | .hlp | .hlg => (elemSettings g e).enable && mode != .none
  | .pf | .pd | .gf | .gd | .hs => (elemSettings g e).enable && entryLists (shotEntry g trip) e

/-! ### ACT and SEQ -/

/-- A trip pulse whose timer has reached its 120 ms: the coil is off, and the next capacitor measurement ends the pulse (spec/04 R74, log 49). -/
def Act.spent (a : Act) : Bool := a.state == .tripPulse && a.pulseMs == some tripPulseMs

/-- Trip ready (spec/04 R82). -/
def Act.tripReady (a : Act) : Bool := tripMinimum ≤ a.cap

/-- Recharge demand (spec/04 R82). -/
def Act.rechargeDemand (a : Act) : Bool := a.cap < closePermit

/-- The effective trips-to-lockout (spec/03 R42). -/
def tripsToLockout (s : State) : Nat :=
  if s.tag.table.mode ≠ .none ∨ s.orl.limit = true ∨ s.seq.manual = true then 1 else s.sst.group.tripsToLockout

/-- The reserve level bars a close that is not LOCAL (spec/04 R76, spec/06 R120). -/
def reserveBars (l : Level) : Bool := l == .conserve || l == .exhausted

/-- Close permission: the refusal, or none when the pulse may begin (spec/04 R76). -/
def closeRefusal (o : Origin) (s : State) : Option Res :=
  if s.act.state ≠ .idle then some .busy
  else if s.act.mech = true then some .mechFail
  else if s.act.position = .unknown then some .positionUnknown
  else if s.act.position = .closed then some .notLockedOut
  else if s.tag.table.tags.any (·.mode == .noClose) then some .tagNoClose
  else if s.tag.table.tags.any (·.mode == .noReclose) ∧ o ≠ .loc then some .tagNoReclose
  else if reserveBars s.bcu.level ∧ o ≠ .loc then some .conserve
  else if s.act.cap < closePermit then some .lowEnergy
  else none

/-- SEQ applies a selection at once here (spec/03 R65). -/
def settled (s : State) : Bool :=
  s.seq.state == .lockout || s.seq.state == .mechFail || (s.seq.state == .closed && s.peu.allQuiet)

/-- The number of leading shot-table entries that list an enabled fast element (spec/03 R60). -/
def fastEntries (g : Page) : Nat :=
  (([1, 2, 3, 4].map fun t => armed g t .none .pf || armed g t .none .gf).takeWhile id).length

/-- What a fault departure needs to be a coordination step (spec/03 R60). -/
def coordinates (s : State) : Bool :=
  (s.seq.state == .closed || s.seq.state == .reclaim) && s.sst.group.coordination && !s.seq.manual &&
  s.lsu.source.line == .live && decide (s.seq.shots < fastEntries s.sst.group)

/-! ### BCU -/

/-- SEQ's states in which the test load may be applied (spec/06 R128). -/
def SeqState.calm (x : SeqState) : Bool := x == .closed || x == .lockout

/-- The conditions of a resumption (spec/06 R130). -/
def mayResume (s : State) : Bool := s.seq.state.calm && !s.act.rechargeDemand && s.bcu.meas.supply

/-- A test is in progress (spec/06 R124). -/
def TestState.inProgress (t : TestState) : Bool := t == .settling || t == .loaded

/-- The checks of a test start, in order (spec/06 R125). -/
def testRefusal (s : State) : Option Res :=
  if s.bcu.test ≠ .idle then some .busy
  else if s.bcu.meas.supply = false ∨ s.bcu.soc < 80 ∨ s.bcu.level ≠ .normal then some .conserve
  else if s.seq.state.calm = false then some .busy
  else if s.act.rechargeDemand = true then some .lowEnergy
  else none

/-- The wear limit (spec/07 R142). -/
def Orl.anyWorn (o : Orl) : Bool := o.wearA.percent == 100 || o.wearB.percent == 100 || o.wearC.percent == 100

/-- The greatest percent used (spec/08 R158). -/
def Orl.highestPercent (o : Orl) : Nat := max o.wearA.percent (max o.wearB.percent o.wearC.percent)

/-! ### Store, starts -/

/-- The buffer is COMMITTING (spec/09 R173). -/
def Staging.isCommitting : Staging → Bool
  | .committing _ _ _ => true
  | _ => false

/-- The write queue is empty with no write in flight; a page write counts as one (spec/06 R123, log 20). -/
def Sst.drained (x : Sst) : Bool := x.queue.isEmpty && x.inFlight.isNone && !x.staging.isCommitting

/-- A pulse is in progress. -/
def ActState.pulsing (a : ActState) : Bool := a == .tripPulse || a == .closePulse

/-- The blocks have been started: starting or running (spec/09 R180). -/
def Stage.started : Stage → Bool
  | .starting _ => true
  | .running => true
  | .stopped => false
  | .startDelay _ => false

/-- The receiver discards frames (spec/10 R183). -/
def State.deaf (s : State) : Bool :=
  s.restarting.isSome || (match s.stage with
    | .stopped => true
    | .startDelay _ => true
    | .starting .warm => true
    | .starting .cold => false
    | .running => false)

/-! ### Output pins (spec/00 section 5) -/

/-- TRIPD (spec/04 R71): off at 120 ms, before the measurement that is the voltage after (R74, log 49). -/
def State.tripDrive (s : State) : Bool := s.act.state == .tripPulse && !s.act.spent

/-- CLOSED, the close coil stage drive (spec/04 R71). -/
def State.closeDrive (s : State) : Bool := s.act.state == .closePulse

/-- BDIS, high connects (spec/06 R123). -/
def State.batteryConnect (s : State) : Bool := s.bcu.connected

/-- What the charger stage does (spec/06 R112): nothing, current up to a limit in milliamperes, or a voltage held in millivolts within
that limit. -/
inductive ChargerOutput | off | current (limit : Nat) | voltage (held : Int) (limit : Nat)
  deriving DecidableEq, Repr

/-- The charger's regulation (spec/06 R112): the bulk limit of the capacity in force, the setpoints of the latest measurement (R111). -/
def State.chargerOutput (s : State) : ChargerOutput :=
  let limit := bulkLimit s.sst.globalPage.capacity
  match s.bcu.charger with
  | .noSupply => .off
  | .bulk => .current limit
  | .absorb => .voltage s.bcu.absorbSp limit
  | .float => .voltage s.bcu.floatSp limit
  | .test => .off
  | .fault => .off

/-- CHGD: the output is on in BULK, ABSORB and FLOAT (spec/06 R112). -/
def State.chargerDrive (s : State) : Bool := s.chargerOutput != .off

/-- TLD (spec/06 R124). -/
def State.testLoadDrive (s : State) : Bool := s.bcu.test == .loaded

/-- CAPC (spec/04 R83). -/
def State.converterDrive (s : State) : Bool := s.act.converter == .full || s.act.converter == .topup

/-- RTE (spec/08 R157). -/
def State.transmitEnable (s : State) : Bool := s.rcc.tx.isSome

end Sys2Proof.Machine
end

