-- ==== Sys2Proof/Machine/Encode.lean ====
section
/-! DEFINITION. The bytes the part sends: field sizes and codes of spec/10 R190 and R191, the check, frames and packets. Where R191
leaves a size or place open the model's reading is in log 23. -/

namespace Sys2Proof.Machine

/-! ### Numbers and the check -/

/-- One byte. -/
def be1 (n : Nat) : Bytes := [BitVec.ofNat 8 n]

/-- Two bytes, most significant first. -/
def be2 (n : Nat) : Bytes := [BitVec.ofNat 8 (n / 256), BitVec.ofNat 8 n]

/-- Four bytes, most significant first. -/
def be4 (n : Nat) : Bytes := be2 (n / 65536) ++ be2 n

/-- A signed value in two bytes, two's complement (R190). -/
def sbe2 (x : Int) : Bytes := be2 (x % 65536).toNat

/-- A two-valued field (R191). -/
def flag (b : Bool) : Bytes := be1 (if b then 1 else 0)

/-- The number in a list of bytes, most significant first. -/
def beNat : Bytes → Nat
  | [] => 0
  | b :: rest => b.toNat * 256 ^ rest.length + beNat rest

/-- One bit of the check: generator 0x1021, most significant bit first. -/
def crcBit (c : BitVec 16) : BitVec 16 := if c.msb then (c <<< 1) ^^^ 0x1021#16 else c <<< 1

/-- One byte of the check. -/
def crcByte (c : BitVec 16) (b : Byte) : BitVec 16 :=
  crcBit (crcBit (crcBit (crcBit (crcBit (crcBit (crcBit (crcBit (c ^^^ (b.setWidth 16 <<< 8)))))))))

/-- The check over some bytes, initial value 0xFFFF (spec/08 R167). -/
def crc16 (bs : Bytes) : BitVec 16 := bs.foldl crcByte 0xFFFF#16

/-- The check as two bytes. -/
def crcBytes (bs : Bytes) : Bytes := be2 (crc16 bs).toNat

/-- A presence mask: bit i is set when the ith field that may be absent is present (R190, R191). -/
def maskOf (present : List Bool) : Bytes :=
  be2 (present.foldr (fun b n => (if b then 1 else 0) + 2 * n) 0)

/-- An optional field at its size, zeros when absent. -/
def opt1 (x : Option Nat) : Bytes := be1 (x.getD 0)
def opt2 (x : Option Nat) : Bytes := be2 (x.getD 0)
def opt4 (x : Option Nat) : Bytes := be4 (x.getD 0)

/-! ### Codes (R190): the order the manual first lists the names -/

def Res.code : Res → Nat
  | .ok => 0 | .refreshed => 1 | .deferredInFlight => 2 | .alreadyOpen => 3 | .notLockedOut => 4 | .busy => 5 | .badField => 6
  | .unknownKind => 7 | .refusedLocal => 8 | .authority => 9 | .crewMismatch => 10 | .notFound => 11 | .tableFull => 12
  | .notOpen => 13 | .tagNoClose => 14 | .tagNoReclose => 15 | .lowEnergy => 16 | .conserve => 17 | .mechFail => 18
  | .positionUnknown => 19 | .activeBusy => 20 | .inUse => 21 | .notStaged => 22 | .invalid => 23 | .gone => 24
  | .notPermitted => 25

def Origin.code : Origin → Nat
  | .auto => 0 | .loc => 1 | .link => 2 | .radio => 3

def TripReq.code : TripReq → Nat
  | .element e => e.index | .command _ => 7 | .exhaustion => 8

/-- The kind of a request of the trip in flight (spec/03 R47, R67). -/
def TripReq.kindCode : TripReq → Nat
  | .element _ => 0 | .command _ => 1 | .exhaustion => 2

def TripReq.authority : TripReq → Option Nat
  | .command a => some a.rank | _ => none

def TripReq.isElement : TripReq → Bool
  | .element _ => true | _ => false

def PulseOutcome.code : PulseOutcome → Nat
  | .done => 0 | .noMove => 1 | .cut => 2

def PulseKind.code : PulseKind → Nat
  | .trip => 0 | .close => 1

def Cause.code : Cause → Nat
  | .shots => 0 | .tag => 1 | .commandOpen => 2 | .externalOpen => 3 | .sourceTimeout => 4 | .energy => 5 | .conserve => 6
  | .loadLive => 7 | .restart => 8 | .mechCleared => 9 | .exhaustion => 10

def SeqState.code : SeqState → Nat
  | .closed => 0 | .reclaim => 1 | .tripping => 2 | .deadTime => 3 | .recloseHold => 4 | .reclosing => 5 | .closing => 6
  | .lockout => 7 | .mechFail => 8

def HoldReason.code : HoldReason → Nat
  | .source => 0 | .energy => 1

def TagMode.code : TagMode → Nat
  | .noReclose => 0 | .noClose => 1

def EffMode.code : EffMode → Nat
  | .none => 0 | .noReclose => 1 | .noClose => 2

def RemovalCause.code : RemovalCause → Nat
  | .removed => 0 | .forced => 1 | .expired => 2

def TestOutcome.code : TestOutcome → Nat
  | .pass => 0 | .fail => 1 | .abandoned => 2 | .cancelled => 3

def StartKind.code : StartKind → Nat
  | .cold => 0 | .warm => 1

def Phase.code : Phase → Nat
  | .a => 0 | .b => 1 | .c => 2

def LineState.code : LineState → Nat
  | .unknown => 0 | .live => 1 | .dead => 2

def ElemState.code : ElemState → Nat
  | .disabled => 0 | .quiet => 1 | .timing => 2 | .held => 3 | .resetting => 4 | .operated => 5

def ActState.code : ActState → Nat
  | .idle => 0 | .tripPulse => 1 | .closePulse => 2 | .tripHeld => 3

def Position.code : Position → Nat
  | .isOpen => 0 | .closed => 1 | .unknown => 2

def ContactState.code : ContactState → Nat
  | .made => 0 | .notMade => 1

def Converter.code : Converter → Nat
  | .stopped => 0 | .paused => 1 | .full => 2 | .topup => 3 | .off => 4

def Charger.code : Charger → Nat
  | .noSupply => 0 | .bulk => 1 | .absorb => 2 | .float => 3 | .test => 4 | .fault => 5

def Shutdown.code : Shutdown → Nat
  | .tripWait => 0 | .writeWait => 1

def TestState.code : TestState → Nat
  | .idle => 0 | .settling => 1 | .loaded => 2 | .suspended => 3

def TestOrigin.code : TestOrigin → Nat
  | .request => 0 | .schedule => 1

def Chan.code : Chan → Nat
  | .silent => 0 | .searching => 1 | .synced => 2

/-- The class codes of spec/08 R167. -/
def Class.code : Class → Nat
  | .lockout => 0 | .mech => 1 | .trip => 2 | .tag => 3 | .restart => 4 | .source => 5 | .battery => 6 | .test => 7 | .coord => 8
  | .group => 9 | .status => 10

/-! ### Record bodies (R190) -/

/-- The code of a record's kind, TRIP 0 to WEAR 13. -/
def RecBody.kindCode : RecBody → Nat
  | .trip _ _ _ => 0 | .close _ _ _ _ _ => 1 | .lockout _ _ => 2 | .mechFail _ => 3 | .tagPlaced _ => 4 | .tagRemoved _ _ _ => 5
  | .sourceLost => 6 | .sourceRestored => 7 | .battery _ _ _ => 8 | .test _ _ _ => 9 | .coordination _ => 10
  | .groupChange _ _ => 11 | .restart _ _ _ => 12 | .wear _ _ => 13

/-- The report class of a kind, absent for CLOSE and WEAR (spec/07 R138). -/
def RecBody.reportClass : RecBody → Option Class
  | .lockout _ _ => some .lockout
  | .mechFail _ => some .mech
  | .trip _ _ _ => some .trip
  | .tagPlaced _ => some .tag
  | .tagRemoved _ _ _ => some .tag
  | .restart _ _ _ => some .restart
  | .sourceLost => some .source
  | .sourceRestored => some .source
  | .battery _ _ _ => some .battery
  | .test _ _ _ => some .test
  | .coordination _ => some .coord
  | .groupChange _ _ => some .group
  | .close _ _ _ _ _ => none
  | .wear _ _ => none

/-- A tag record. -/
def encodeTag (t : Tag) : Bytes :=
  be2 t.number ++ be2 t.crew ++ be1 t.mode.code ++ be1 t.auth.rank ++ opt4 t.placedAt ++ opt2 t.left

/-- The presence of a kind's optional fields, in the order of R135. -/
def RecBody.presence : RecBody → List Bool
  | .trip sp fault pp => [sp.cause.authority.isSome, fault.isSome, pp.held.isSome]
  | .tagPlaced t => [t.placedAt.isSome, t.left.isSome]
  | .tagRemoved t _ a => [t.placedAt.isSome, t.left.isSome, a.isSome]
  | .test _ r mv => [r.isSome, mv.isSome]
  | .restart _ oldest newest => [oldest.isSome, newest.isSome]
  | _ => []

/-- Four fault magnitudes, zeros when absent. -/
def encodeMags (m : Option Mags) : Bytes :=
  match m with
  | some x => be2 x.a ++ be2 x.b ++ be2 x.c ++ be2 x.n
  | none => be2 0 ++ be2 0 ++ be2 0 ++ be2 0

/-- The fields of a kind, in the order of R135. -/
def RecBody.fields : RecBody → Bytes
  | .trip sp fault pp =>
    be1 sp.cause.code ++ opt1 sp.cause.authority ++ be1 sp.shots ++ encodeMags fault ++ be2 pp.ia ++ be2 pp.ib ++ be2 pp.ic ++
    be1 pp.outcome.code ++ be1 pp.pulse ++ opt4 pp.held ++ be2 pp.before ++ be2 pp.after
  | .close o out pulse before after => be1 o.code ++ be1 out.code ++ be1 pulse ++ be2 before ++ be2 after
  | .lockout c n => be1 c.code ++ be1 n
  | .mechFail p => be1 p.code
  | .tagPlaced t => encodeTag t
  | .tagRemoved t c a => encodeTag t ++ be1 c.code ++ opt1 (a.map Authority.rank)
  | .sourceLost => []
  | .sourceRestored => []
  | .battery l soc mv => be1 l.rank ++ be1 soc ++ be2 mv
  | .test out r mv => be1 out.code ++ opt2 r ++ opt2 mv
  | .coordination n => be1 n
  | .groupChange old new => be1 old ++ be1 new
  | .restart k oldest newest => be1 k.code ++ opt4 oldest ++ opt4 newest
  | .wear p percent => be1 p.code ++ be1 percent

/-- A record body. -/
def encodeRecord (r : Record) : Bytes :=
  be4 r.number ++ be1 r.body.kindCode ++ be4 r.time ++ flag r.valid ++ maskOf r.body.presence ++ r.body.fields

/-! ### Frames (R182) -/

/-- The bytes of a frame on the line. -/
def frameBytes (f : Frame) : Bytes :=
  let inner := be1 f.body.length ++ [f.kind, f.tag] ++ f.body
  0xD2#8 :: inner ++ crcBytes inner

/-- A RECORD notice (R188). -/
def recordNotice (r : Record) : Frame := ⟨0xF0#8, 0#8, be4 r.number ++ be1 r.body.kindCode, true⟩

/-- A READY notice (R188). -/
def readyNotice (k : StartKind) : Frame := ⟨0xF1#8, 0#8, be1 k.code, true⟩

/-- The reply to a received frame (R182, R184). A kind of 0x80 or above plus 0x80 is taken modulo 256: DESIGN CHOICE, log 57. -/
def replyFrame (f : RxFrame) (res : Res) (body : Bytes) : Frame := ⟨f.kind + 0x80#8, f.tag, be1 res.code ++ body, false⟩

/-- The body bytes a frame may carry (R182). -/
def bodyTop : Nat := 96

/-- One entry more on a page that is still open, where it fits; one that does not fit closes the page (R186). -/
def pageEntry (room : Nat) (page : Bytes × Bool) (entry : Bytes) : Bytes × Bool :=
  if page.2 && page.1.length + entry.length ≤ room then (page.1 ++ entry, true) else (page.1, false)

/-- A paged list after some bytes of body, the result byte included: total, start index and the whole entries that fit (R186, R191). -/
def pagedList (used : Nat) (start : Nat) (entries : List Bytes) : Bytes :=
  be1 entries.length ++ be1 start ++ ((entries.drop start).foldl (pageEntry (bodyTop - used - 2)) ([], true)).1

/-! ### The sections of the state reply (R186), after the result byte -/

/-- SEQ (spec/03 R67). -/
def seqSection (s : State) : Bytes :=
  let q := s.seq
  let head := be1 q.state.code ++ be1 q.shots ++ be1 (tripsToLockout s) ++ flag q.manual ++ opt1 (q.cause.map Cause.code) ++
    opt1 q.pendingGroup ++ opt1 q.deadNo ++ opt4 q.deadLeft ++ opt1 (q.holdReason.map HoldReason.code) ++ opt4 q.holdLeft ++
    opt4 q.reclaimLeft ++ flag (q.reclaimLeft.isSome && s.peu.timing)
  let kinds := (q.trip.getD []).map TripReq.kindCode
  maskOf [q.cause.isSome, q.pendingGroup.isSome, q.deadNo.isSome, q.deadLeft.isSome, q.holdReason.isSome, q.holdLeft.isSome,
    q.reclaimLeft.isSome, q.reclaimLeft.isSome, q.trip.isSome] ++ head ++ be1 (min 255 kinds.length) ++
  (kinds.take (bodyTop - 4 - head.length)).flatMap be1

/-- One element of the PEU section. -/
def encodeElem (x : Elem) : Bytes := flag (x.st != .disabled) ++ be1 x.st.code ++ be4 x.acc

/-- PEU (spec/02 R40). Armed, state and accumulator are sent element by element: DEDUCED, log 23. -/
def peuSection (p : Peu) : Bytes :=
  be1 p.nextTrip ++ elementOrder.flatMap (fun e => encodeElem (p.elems.get e)) ++ flag p.detector ++ flag p.timing ++ flag p.allQuiet

/-- ACT (spec/04 R87). -/
def actSection (a : Act) : Bytes :=
  let held := if a.state = .tripHeld then a.heldMs else none
  let origin := if a.state = .closePulse then a.origin else none
  maskOf [a.pulseMs.isSome, held.isSome, origin.isSome, a.openC.stable.isSome, a.closedC.stable.isSome] ++
  be1 a.state.code ++ opt1 a.pulseMs ++ opt4 held ++ opt1 (origin.map Origin.code) ++ be1 a.position.code ++
  opt1 (a.openC.stable.map ContactState.code) ++ opt1 (a.closedC.stable.map ContactState.code) ++ flag a.mech

/-- One tag of the TAG section (spec/05 R105). -/
def encodeTagEntry (t : TagTable) (x : Tag) : Bytes :=
  maskOf [x.left.isSome] ++ be1 (t.slotOf x.number) ++ be2 x.number ++ be2 x.crew ++ be1 x.mode.code ++ be1 x.auth.rank ++ opt2 x.left

/-- TAG (spec/05 R105). -/
def tagSection (t : TagTable) (start : Nat) : Bytes :=
  let head := be1 t.mode.code ++ be1 t.tags.length ++ be2 t.next
  head ++ pagedList (1 + head.length) start (t.sorted.map (encodeTagEntry t))

/-- One entry of the test history (spec/06 R132). -/
def encodeTestResult (x : TestResult) : Bytes :=
  maskOf [x.r.isSome, x.mv.isSome] ++ be1 x.outcome.code ++ opt2 x.r ++ opt2 x.mv ++ be2 x.loadMs ++ be4 x.time ++ flag x.valid

/-- BCU (spec/06 R133). The schedule countdown takes 2 bytes, by the bound that R126 and the test interval give it: DESIGN CHOICE, log 23. -/
def bcuSection (b : Bcu) (start : Nat) : Bytes :=
  let load := if b.test = .idle then none else some b.loadMs
  let susp := if b.test = .suspended then some b.suspMs else none
  let head := maskOf [b.shutdown.isSome, load.isSome, susp.isSome, b.origin.isSome, b.countdown.isSome] ++
    be1 b.charger.code ++ be1 b.level.rank ++ opt1 (b.shutdown.map Shutdown.code) ++ be1 b.test.code ++ opt2 load ++ opt4 susp ++
    opt1 (b.origin.map TestOrigin.code) ++ opt2 b.countdown
  head ++ pagedList (1 + head.length) start (b.history.map encodeTestResult)

/-- ORL (spec/07 R148). -/
def orlSection (o : Orl) : Bytes :=
  maskOf [o.ring.head?.isSome, o.ring.getLast?.isSome] ++ opt4 (o.ring.head?.map (·.number)) ++
  opt4 (o.ring.getLast?.map (·.number)) ++ be4 o.next ++ be4 o.wearA.count ++ be4 o.wearB.count ++ be4 o.wearC.count ++
  be1 o.wearA.percent ++ be1 o.wearB.percent ++ be1 o.wearC.percent ++ flag o.limit ++ be4 o.opCount ++ be4 o.time ++ flag o.valid

/-- One entry of the RCC section (spec/08 R166). -/
def encodeEntry (e : Entry) : Bytes :=
  maskOf [e.record.isSome, e.seqNo.isSome] ++ be1 e.cls.code ++ be1 e.cls.priority ++ opt4 e.record ++
  be1 (if e.await then 1 else 0) ++ be1 e.tries ++ opt1 e.seqNo

/-- RCC (spec/08 R166). That the pending reply's command id and result, two values of one field, share one bit of the mask, and
that the status countdown takes 2 bytes by the bound that R155 gives it, are DESIGN CHOICES, log 23. -/
def rccSection (r : Rcc) (station start : Nat) : Bytes :=
  let head := maskOf [r.lastFrame.isSome, r.lastId.isSome, r.pending.isSome, r.statusLeft.isSome] ++
    be1 r.chan.code ++ be1 station ++ opt2 r.lastFrame ++ be1 r.missCount ++ be1 r.nextSeq ++ be2 r.lost ++ opt1 r.lastId ++
    opt1 (r.pending.map (·.id)) ++ opt1 (r.pending.map (·.res.code)) ++ opt2 r.statusLeft
  head ++ pagedList (1 + head.length) start (r.outbox.map encodeEntry)

/-- A staging target: the kind and number bytes of STAGE_OPEN (spec/10 R185), number 0 for the global page and two zero bytes when
absent. R181 and R191 give the field no encoding: DESIGN CHOICE, log 23. -/
def encodeTarget : Option Target → Bytes
  | some (.group n) => be1 0 ++ be1 n
  | some .global => be1 1 ++ be1 0
  | some (.curve n) => be1 2 ++ be1 n
  | none => be1 0 ++ be1 0

/-- The content of the staging buffer, if any. -/
def Staging.buf : Staging → Option StageBuf
  | .empty => none
  | .opened b => some b
  | .committing b _ _ => some b

/-- The code of a buffer state (spec/09 R173). -/
def Staging.code : Staging → Nat
  | .empty => 0 | .opened _ => 1 | .committing _ _ _ => 2

/-- SST (spec/09 R181). R191 does not code loaded and unloaded: 1 and 0 are a DESIGN CHOICE, log 23. -/
def sstSection (x : Sst) : Bytes :=
  maskOf [x.staging.buf.isSome, x.staging.buf.isSome] ++ be1 x.active ++ flag x.held.isSome ++ be1 x.staging.code ++
  encodeTarget (x.staging.buf.map (·.target)) ++ opt1 (x.staging.buf.map (·.pointer)) ++
  ([4, 5, 6, 7, 8, 9, 10, 11].flatMap fun n => flag (curveLoaded x.curves n)) ++ be1 x.queue.length

/-- The measurement reply: R16, R87 and R133 in turn (R191). -/
def measureReply (s : State) : Bytes :=
  let m := s.lsu.meas
  let full := fullCount s.sst.globalPage.capacity
  be2 m.a ++ be2 m.b ++ be2 m.c ++ be2 m.n ++ be2 m.vs ++ be2 m.vl ++ flag m.satA ++ flag m.satB ++ flag m.satC ++ flag m.satN ++
  flag m.satVs ++ flag m.satVl ++ flag m.valid ++ be1 s.lsu.source.line.code ++ be1 s.lsu.load.line.code ++ be1 s.lsu.winLen ++
  be2 s.act.cap ++ flag s.act.tripReady ++ flag s.act.rechargeDemand ++ be1 s.act.converter.code ++
  be2 s.bcu.meas.mv ++ sbe2 s.bcu.meas.ma ++ sbe2 s.bcu.meas.temp ++ flag s.bcu.meas.supply ++ be2 s.bcu.absorbSp.toNat ++
  be2 s.bcu.floatSp.toNat ++ be4 s.bcu.charge ++ be4 full ++ be1 s.bcu.soc

/-- The identity (R189): vendor 0x4A4B, part 460; revision and scaling are the factory's (log 17). -/
def identity : Bytes :=
  be2 0x4A4B ++ be2 460 ++ be1 (Config.dieRevision % 255 + 1) ++ be2 Config.inputScaling.toNat

/-! ### Radio packets (spec/08 R167) -/

/-- A packet from its type, station and body. -/
def packet (type station : Nat) (body : Bytes) : Bytes :=
  let inner := be1 (2 + body.length) ++ be1 type ++ be1 station ++ body
  0xB6#8 :: inner ++ crcBytes inner

/-- The status body. -/
def statusBody (s : State) : Bytes :=
  be1 s.act.position.code ++ be1 s.seq.state.code ++ be1 s.seq.shots ++ be1 s.bcu.level.rank ++ be1 s.bcu.soc ++
  be1 s.tag.table.tags.length ++ be1 s.orl.highestPercent ++ be1 s.sst.active ++ be2 s.rcc.lost

/-- A REPLY packet. -/
def replyPacket (station : Nat) (r : RadioReply) : Bytes :=
  packet 0x22 station (be1 r.id ++ be1 r.res.code ++ be1 r.detail)

/-- A packet is at most 200 bytes. -/
def packetTop : Nat := 200

/-- The report body of an entry under a form. -/
def reportBody (e : Entry) (seqNo form : Nat) (content : Bytes) : Bytes :=
  be1 seqNo ++ be1 form ++ be1 e.cls.code ++ be1 e.cls.priority ++ opt4 e.record ++ content

/-- A REPORT packet of an entry sent under a sequence number (R158, R167). The form is RECORD where the ring holds the entry's record
number and GAP where it does not, which is R158's comparison with the oldest retained number until the numbers pass 4,294,967,295; from then
on it is a DESIGN CHOICE, log 67. -/
def reportPacket (s : State) (e : Entry) (seqNo : Nat) : Bytes :=
  let station := s.sst.globalPage.stationId
  match e.record with
  | none => packet 0x21 station (reportBody e seqNo 2 (statusBody s))
  | some n =>
    match s.orl.ring.find? (·.number == n) with
    | some r =>
      let whole := packet 0x21 station (reportBody e seqNo 0 (encodeRecord r))
      if whole.length ≤ packetTop then whole else packet 0x21 station (reportBody e seqNo 1 [])
    | none => packet 0x21 station (reportBody e seqNo 1 [])

end Sys2Proof.Machine
end

