-- ==== Sys2Proof/Machine/Ops.lean ====
section
/-! DEFINITION. The operations that several commands share: retained writes, frames and notices, records and reports, replies,
clearing and group application at the PEU, the load test's ends, and SEQ's entries to a state. Each is State → State and none touches
the queue of commands. -/

namespace Sys2Proof.Machine

/-! ### Retained writes (spec/09 R178) -/

/-- When nothing is in flight and no commit is in progress, the lowest pending item starts; after a supply loss nothing starts (R179). -/
def Sst.kick (x : Sst) : Sst :=
  if x.inFlight.isSome || x.staging.isCommitting || x.lost then x
  else match x.queue with
    | [] => x
    | i :: rest => { x with queue := rest, inFlight := some i }

/-- A block hands the SST an item's value as it now stands. -/
def queueWrite (i : RetItem) (s : State) : State :=
  { s with sst := { s.sst with queue := insertWrite i s.sst.queue }.kick }

/-! ### Frames (spec/10 R187) -/

/-- A frame placed on the transmit list. -/
def placeFrame (f : Frame) (s : State) : State := { s with hlc := { s.hlc with tx := s.hlc.tx ++ [f] } }

/-- Notices that wait at most. -/
def noticeTop : Nat := 32

/-- The place below which an immediate BUSY answer finds a free place: 40 less the one kept for the reply (log 18). -/
def busyTop : Nat := 39

/-- A notice placed when fewer than 32 wait, also where 40 frames wait already: R187's table goes before its sentence of up to 40 frames.
DESIGN CHOICE, log 18. -/
def placeNotice (f : Frame) (s : State) : State :=
  { s with hlc := { s.hlc with tx := if s.hlc.tx.countP Frame.notice < noticeTop then s.hlc.tx ++ [f] else s.hlc.tx } }

/-- The current request's reply: it ends the request (spec/10 R184). -/
def hostReply (res : Res) (body : Bytes) (s : State) : State :=
  { s with hlc := { s.hlc with
      tx := match s.hlc.current with
        | some f => s.hlc.tx ++ [replyFrame f res body]
        | none => s.hlc.tx
      current := none } }

/-- An owner's result for a radio command (spec/08 R162, R164; log 22). -/
def radioResult (id : Nat) (res : Res) (detail : Nat) (s : State) : State :=
  { s with rcc := { s.rcc with
      pending := some ⟨id, res, detail⟩
      stored := if s.rcc.lastId = some id then some (res, detail) else s.rcc.stored } }

/-- An owner's answer to whoever asked: the host's reply carries its own fields, a radio reply its detail. -/
def answer (src : Src) (res : Res) (detail : Nat) (body : Bytes) (s : State) : State :=
  match src with
  | .host => hostReply res body s
  | .radio id => radioResult id res detail s

/-! ### Records (spec/07 R136 to R138) -/

/-- An entry of the outbox for a record or a STATUS request (spec/08 R154 to R156, R160). -/
def report (cls : Class) (record : Option Nat) (s : State) : State :=
  let e : Entry := ⟨cls, record, false, 0, none, none, s.rcc.nextOrder⟩
  { s with rcc := { s.rcc with
      outbox := (arrive e s.rcc.outbox).1
      lost := lostUp s.rcc.lost (arrive e s.rcc.outbox).2
      nextOrder := s.rcc.nextOrder + 1 } }

/-- The top of the record numbers (R134). -/
def numberTop : Nat := 4294967295

/-- The number after a record number (R136), within 1..4,294,967,295 also after the top, where it is a free value (log 16). -/
def recordAfter (n : Nat) : Nat := if n < numberTop then n + 1 else Config.recordNumberAfterTop % numberTop + 1

/-- The ring holds at most 64 records (R136). -/
def ringTop : Nat := 64

/-- A record as ORL numbers and stamps it now (R136). -/
def stamp (body : RecBody) (s : State) : Record := ⟨s.orl.next, body, s.orl.time, s.orl.valid⟩

/-- A record added as the newest; of 64 the oldest goes (R136). -/
def addToRing (r : Record) (s : State) : State :=
  { s with orl := { s.orl with ring := lastN ringTop (s.orl.ring ++ [r]), next := recordAfter s.orl.next } }

/-- The report of a record, for the kinds that are reported (R138). -/
def reportRecord (r : Record) (s : State) : State :=
  match r.body.reportClass with
  | some c => report c (some r.number) s
  | none => s

/-- A numbered and stamped record: ring, retained write, notice, report (R136). -/
def enterRecord (r : Record) (s : State) : State :=
  let s1 := addToRing r s
  reportRecord r (placeNotice (recordNotice r) (queueWrite (.ring s1.orl.ring s1.orl.next) s1))

/-- A record complete now (R136). -/
def completeNow (body : RecBody) (s : State) : State := enterRecord (stamp body s) s

/-- The start's record has not been completed yet (spec/07 R140). -/
def Stage.isStarting : Stage → Bool
  | .starting _ => true
  | _ => false

/-- Something waits for the RESTART record (log 11). -/
def hold (x : Held) (s : State) : State := { s with orl := { s.orl with waiting := s.orl.waiting ++ [x] } }

/-- A record handed to ORL. Before the RESTART record, which is the first after every start, it waits with the stamp of this moment
(R134, R140, log 11). -/
def complete (body : RecBody) (s : State) : State :=
  if s.stage.isStarting then hold (.record body s.orl.time s.orl.valid) s else completeNow body s

/-- Several records, in order. -/
def completeAll (bodies : List RecBody) (s : State) : State := bodies.foldl (fun t b => complete b t) s

/-! ### PEU between updates (spec/02 R34, R35) -/

/-- The elements replaced and the two indications set from them (R38). -/
def Peu.withElems (p : Peu) (x : Elems) : Peu := { p with elems := x, timing := x.timingPresent, allQuiet := x.allQuiet }

/-- A clearing of one element (R34). -/
def Elem.clear (x : Elem) : Elem := if x.st = .disabled then ⟨.disabled, 0⟩ else ⟨.quiet, 0⟩

/-- A group application at one element (R35). -/
def Elem.apply (x : Elem) : Elem := if x.st = .operated then x else x.clear

/-- SEQ clears the elements (R34). -/
def clearElements (s : State) : State :=
  { s with peu := s.peu.withElems (.build fun e => (s.peu.elems.get e).clear) }

/-- A new active group, or new content of it, reaches the elements (R35). -/
def applyToElements (s : State) : State :=
  { s with peu := s.peu.withElems (.build fun e => (s.peu.elems.get e).apply) }

/-! ### Load test (spec/06 section 6.6) -/

/-- A charger in TEST leaves it (R115). -/
def Bcu.chargerAfterTest (b : Bcu) : Charger :=
  match b.charger with
  | .test => if b.meas.supply then .bulk else .noSupply
  | c => c

/-- A suspension (R129): only a test in progress is suspended. -/
def Bcu.suspend (b : Bcu) : Bcu :=
  if b.test.inProgress then { b with test := .suspended, settleMs := 0, suspMs := 0, charger := b.chargerAfterTest } else b

/-- The charger enters TEST, but for one in FAULT (R115). -/
def Bcu.chargerToTest (b : Bcu) : Bcu :=
  match b.charger with
  | .fault => b
  | _ => { b with charger := .test, absorbTime := 0, floatLow := 0, resync := 0 }

/-- The test enters SETTLING (R127). -/
def Bcu.settle (b : Bcu) : Bcu :=
  { b with test := .settling, settleMs := 0, suspMs := 0, baseline := none }.chargerToTest

/-- A test starts: SETTLING with an origin; the countdown is absent until it ends (R125, R126). -/
def Bcu.startTest (b : Bcu) (o : TestOrigin) : Bcu :=
  { b.settle with origin := some o, loadMs := 0, countdown := none }

/-- A suspended test resumes when it may (R130). -/
def resumeTest (s : State) : State :=
  { s with bcu := if s.bcu.test = .suspended ∧ mayResume s = true then s.bcu.settle else s.bcu }

/-- The test returns to IDLE (R124, R128 steps 2 and 6). -/
def Bcu.testIdle (b : Bcu) : Bcu :=
  { b with test := .idle, loadMs := 0, settleMs := 0, suspMs := 0, baseline := none, origin := none, charger := b.chargerAfterTest }

/-- The test history holds the last 4 results (R132). -/
def historyTop : Nat := 4

/-- A test that ends while the part runs (R132). -/
def endTest (outcome : TestOutcome) (r mv : Option Nat) (s : State) : State :=
  let result : TestResult := ⟨outcome, r, mv, s.bcu.loadMs, s.orl.time, s.orl.valid⟩
  let s1 := complete (.test outcome r mv) { s with bcu := s.bcu.testIdle }
  let h := lastN historyTop (s1.bcu.history ++ [result])
  queueWrite (.history h) { s1 with bcu := { s1.bcu with history := h, countdown := testCountdown s1.sst.globalPage } }

/-! ### SEQ's states (spec/03) -/

/-- SEQ takes a state and tells the BCU at once (spec/06 R129, R130). -/
def seqTo (x : SeqState) (s : State) : State :=
  let s1 := { s with seq := { s.seq with state := x } }
  if x.calm then resumeTest s1 else { s1 with bcu := s1.bcu.suspend }

/-- The dead, reclaim and hold timers stopped and discarded, with what belongs to them. -/
def Seq.stopTimers (q : Seq) : Seq :=
  { q with deadNo := none, deadLeft := none, holdReason := none, holdLeft := none, reclaimLeft := none }

/-- stopTimers in a State. -/
def stopTimers (s : State) : State := { s with seq := s.seq.stopTimers }

/-- The value of retained item 1: the lockout state and cause (spec/09 R178). -/
def lockoutItem (s : State) : RetItem := .lockout (if s.seq.state = .lockout then s.seq.cause else none)

/-- Held content of the active group replaces its working copy (spec/09 R176). -/
def takeHeld (s : State) : State :=
  match s.sst.held with
  | some p => applyToElements { s with sst := { s.sst with group := p, held := none } }
  | none => s

/-- A group is applied (R65). Held content is discarded (spec/09 R176). -/
def applyGroup (g : Nat) (s : State) : State :=
  let s1 := applyToElements { s with sst := { s.sst with active := g, group := s.sst.store.groups.getD g deliveredGroup, held := none } }
  let s2 := queueWrite (.activeGroup g) (complete (.groupChange s.sst.active g) s1)
  { s2 with seq := { s2.seq with pendingGroup := none } }

/-- At the moments of R65 the pending group is applied, and without one held content is taken (log 33). -/
def applyPending (s : State) : State :=
  match s.seq.pendingGroup with
  | some g => applyGroup g s
  | none => takeHeld s

/-- The entry to LOCKOUT (R43). -/
def enterLockout (c : Cause) (s : State) : State :=
  let s1 := clearElements (stopTimers s)
  let s2 := seqTo .lockout { s1 with seq := { s1.seq with manual := false, cause := some c } }
  let s3 := complete (.lockout c s2.seq.shots) s2
  applyPending (queueWrite (lockoutItem s3) s3)

/-- The entry to MECH_FAIL (R49, R50). Leaving LOCKOUT makes the cause absent and queues the write (section 3.2), before a pending group is
applied: DESIGN CHOICE, log 61. -/
def enterMechFail (s : State) : State :=
  let s1 := seqTo .mechFail { s with seq := { s.seq.stopTimers with cause := none } }
  applyPending (if s.seq.state = .lockout then queueWrite (lockoutItem s1) s1 else s1)

/-- The entry to RECLAIM with its timer started (R59). -/
def enterReclaim (s : State) : State :=
  let s1 := seqTo .reclaim (stopTimers s)
  { s1 with seq := { s1.seq with reclaimLeft := some s1.sst.group.reclaimMs } }

/-- A close by hand or found done: counter 0, flag set, RECLAIM (R62, R53). -/
def enterReclaimByHand (s : State) : State :=
  enterReclaim { s with seq := { s.seq with shots := 0, manual := true } }

/-- The entry to CLOSED: counter 0, flag clear, a pending group applied if all quiet (R59, R64). -/
def enterClosed (s : State) : State :=
  let s1 := seqTo .closed { s with seq := { s.seq.stopTimers with shots := 0, manual := false, cause := none } }
  if s1.peu.allQuiet then applyPending s1 else s1

/-- The held CLOSE reply is sent (R58). -/
def answerHeldClose (res : Res) (s : State) : State :=
  match s.seq.heldClose with
  | some src => answer src res 0 [] { s with seq := { s.seq with heldClose := none } }
  | none => s

/-! ### The mechanism-failure flag (spec/04 R81) -/

/-- The flag takes a value; a change queues its write. -/
def setMech (f : Bool) (s : State) : State :=
  if s.act.mech = f then s else queueWrite (.mech f) { s with act := { s.act with mech := f } }

end Sys2Proof.Machine
end

