-- ==== Sys2Proof/Machine/Actuator.lean ====
section
/-! DEFINITION. Pulses from their beginning to their completion (spec/04), with what a completion does at SEQ (spec/03 R48 to R50,
R56, R58) and at ORL (spec/07 R137, R141, R144). -/

namespace Sys2Proof.Machine

/-! ### Wear and operations (spec/07) -/

/-- A phase's percent and threshold formed again (R142). -/
def PhaseWear.form (budget : Nat) (w : PhaseWear) : PhaseWear :=
  { w with percent := wearPercent budget w.count, mark := markAfter (wearPercent budget w.count) w.mark }

/-- The percents, thresholds and wear limit formed again (R142). -/
def Orl.form (budget : Nat) (o : Orl) : Orl :=
  let o1 := { o with wearA := o.wearA.form budget, wearB := o.wearB.form budget, wearC := o.wearC.form budget }
  { o1 with limit := o1.anyWorn }

/-- The WEAR records of a forming, phase A first (R142). -/
def Orl.formRecords (budget : Nat) (o : Orl) : List RecBody :=
  wearRecords .a (wearPercent budget o.wearA.count) o.wearA.mark ++
  wearRecords .b (wearPercent budget o.wearB.count) o.wearB.mark ++
  wearRecords .c (wearPercent budget o.wearC.count) o.wearC.mark

/-- One interruption added to a phase (R141). -/
def PhaseWear.add (amps : Nat) (w : PhaseWear) : PhaseWear := { w with count := min wearTop (w.count + wearUnits amps) }

/-- The interruption of a trip added to the three phases: DONE outcomes only (R141). -/
def Orl.addWear (p : PulsePart) (o : Orl) : Orl :=
  if p.outcome = .done then { o with wearA := o.wearA.add p.ia, wearB := o.wearB.add p.ib, wearC := o.wearC.add p.ic } else o

/-- The three counts as retained item 6. -/
def Orl.counts (o : Orl) : WearCounts := ⟨o.wearA.count, o.wearB.count, o.wearC.count⟩

/-- One operation counted (R144): a counter at its top is held there. -/
def countOperation (s : State) : State :=
  if s.orl.opCount = 4294967295 then s
  else queueWrite (.opCount (s.orl.opCount + 1)) { s with orl := { s.orl with opCount := s.orl.opCount + 1 } }

/-- What ORL does with the pulse part of a trip: wear, percents, limit and operation count (R141, R142, R144). The wear counts' write
comes before the counter's: DESIGN CHOICE, log 61. -/
def takeInterruption (p : PulsePart) (s : State) : State :=
  if p.outcome = .done then
    let o := (s.orl.addWear p).form s.sst.globalPage.wearBudget
    let s1 := queueWrite (.wear o.counts) { s with orl := o }
    if 0 < p.pulse then countOperation s1 else s1
  else s

/-- The WEAR records that follow this trip's TRIP record (R142). -/
def interruptionRecords (p : PulsePart) (s : State) : List RecBody :=
  if p.outcome = .done then (s.orl.addWear p).formRecords s.sst.globalPage.wearBudget else []

/-- The TRIP record of two parts; the capture is taken for an element cause and emptied in either case (R137). -/
def completeTrip (sp : SeqPart) (pp : PulsePart) (s : State) : State :=
  complete (.trip sp (if sp.cause.isElement then s.orl.capture else none) pp)
    { s with orl := { s.orl with capture := none, part := none } }

/-- A part of a TRIP record: the first is kept, the second completes the record (R137). -/
def handPart (p : TripPart) (s : State) : State :=
  match s.orl.part, p with
  | some (.pulse pp), .sequence sp => completeTrip sp pp s
  | some (.sequence sp), .pulse pp => completeTrip sp pp s
  | _, _ => { s with orl := { s.orl with part := some p } }

/-! ### SEQ at a close completion (spec/03 R56, R58; spec/04 R79) -/

/-- SEQ takes a close completion. In the states that await none it has no effect (log 31). DONE in RECLOSING clears the manual-close
flag, whatever the tags (R56): of SEQ's own flag SEQ's chapter states the outcome (spec/00 section 1.2), beside what spec/05 R96 says of a
NO_CLOSE tag accepted DEFERRED_IN_FLIGHT. DEDUCED, log 50. -/
def seqCloseCompletion (o : PulseOutcome) (s : State) : State :=
  match s.seq.state with
  | .reclosing =>
    match o with
    | .done => enterReclaim { s with seq := { s.seq with manual := false } }
    | .noMove => enterLockout .mechCleared (complete (.mechFail .close) s)
    | .cut => s
  | .closing =>
    match o with
    | .done => answerHeldClose .ok (enterReclaimByHand s)
    | .noMove => answerHeldClose .mechFail (enterLockout .mechCleared (complete (.mechFail .close) s))
    | .cut => s
  | .tripping =>
    match o with
    | .done => answerHeldClose .ok s
    | .noMove => answerHeldClose .mechFail (complete (.mechFail .close) s)
    | .cut => answerHeldClose .ok s
  | .closed | .reclaim | .deadTime | .recloseHold | .lockout | .mechFail => s

/-! ### SEQ at a trip completion (spec/03 R47 to R50) -/

/-- Where SEQ goes after a trip completion. -/
inductive AfterTrip | lockout (c : Cause) | dead | mechFail | failedAgain | stay
  deriving DecidableEq, Repr

/-- The requests joined to the trip in flight. -/
def Seq.requests (q : Seq) : List TripReq := q.trip.getD []

/-- Steps 1 and 2 of R48: on DONE the elements are cleared, and in TRIPPING a trip of element requests alone is counted. -/
def countTrip (o : PulseOutcome) (s : State) : State :=
  match o with
  | .done =>
    let s1 := clearElements s
    if s.seq.state = .tripping ∧ s.seq.requests.all TripReq.isElement = true then
      { s1 with seq := { s1.seq with shots := min 4 (s1.seq.shots + 1) } }
    else s1
  | _ => s

/-- The decision of R48 to R50, with L_eff as formed at this moment. -/
def afterTrip (o : PulseOutcome) (s : State) : AfterTrip :=
  match s.seq.state, o with
  | .tripping, .done =>
    if s.seq.requests.any (· == .exhaustion) then .lockout .exhaustion
    else if s.seq.requests.any (!TripReq.isElement ·) then .lockout .commandOpen
    else if s.seq.manual = true ∨ tripsToLockout s ≤ s.seq.shots then .lockout .shots
    else .dead
  | .tripping, .noMove => .mechFail
  | .lockout, .noMove => .mechFail
  | .mechFail, .noMove => .failedAgain
  | _, _ => .stay

/-- The entry to DEAD_TIME (R48, R51). -/
def enterDeadTime (s : State) : State :=
  let s1 := seqTo .deadTime (stopTimers s)
  { s1 with seq := { s1.seq with deadNo := some s1.seq.shots, deadLeft := some (s1.sst.group.deadTime s1.seq.shots) } }

/-- The decision carried out. -/
def carryOut (d : AfterTrip) (s : State) : State :=
  match d with
  | .lockout c => enterLockout c s
  | .dead => enterDeadTime s
  | .mechFail => enterMechFail (complete (.mechFail .trip) s)
  | .failedAgain => complete (.mechFail .trip) s
  | .stay => s

/-- SEQ's notice that the exhaustion trip has ended (R46; spec/06 R122). -/
def exhaustionTripEnded (s : State) : State :=
  { s with bcu := { s.bcu with shutdown := if s.bcu.shutdown = some .tripWait then some .writeWait else s.bcu.shutdown } }

/-- SEQ's part of the TRIP record (R48 step 3). -/
def handSeqPart (s : State) : State :=
  match s.seq.requests with
  | [] => s
  | r :: _ => handPart (.sequence ⟨r, s.seq.shots⟩) s

/-- A trip completion at SEQ and ORL. ORL takes ACT's part before SEQ takes the completion or after SEQ has formed its decision; the
decision is carried out once the TRIP record is complete (R48, spec/07 R137 and section 7.9.1, log 7, log 14). -/
def tripCompletion (o : PulseOutcome) (pp : PulsePart) (partFirst : Bool) (s : State) : State :=
  let requests := s.seq.requests
  let wear := interruptionRecords pp s
  let s1 := if partFirst then handPart (.pulse pp) (takeInterruption pp s) else s
  let s2 := countTrip o s1
  let d := afterTrip o s2
  let s3 := handSeqPart s2
  let s4 := if partFirst then s3 else handPart (.pulse pp) (takeInterruption pp s3)
  let s5 := completeAll wear s4
  let s6 := carryOut d { s5 with seq := { s5.seq with trip := none } }
  if requests.any (· == .exhaustion) then exhaustionTripEnded s6 else s6

/-! ### Closes at ACT (spec/04 R76 to R80) -/

/-- A close pulse begins (R78). -/
def beginClose (o : Origin) (s : State) : State :=
  { s with act := { s.act with
      state := .closePulse, pulseMs := some 0, before := some s.act.cap, origin := some o, heldMs := none, converter := .paused } }

/-- ACT back in IDLE, one pulse more counted (log 49); the converter takes the state the latest measurement gives (R83). -/
def Act.toIdle (a : Act) : Act :=
  { a with state := .idle, pulseMs := none, before := none, origin := none, heldMs := none, converter := converterFrom a.cap,
           pulses := a.pulses + 1 }

/-- The CLOSE record of the pulse in progress (R80). -/
def closeRecord (a : Act) (o : PulseOutcome) (pulse after : Nat) : RecBody :=
  .close (a.origin.getD .auto) o pulse (a.before.getD 0) after

/-- ORL takes a CLOSE record: a DONE close is an operation (spec/07 R144). The record, with its ring write, comes before the counter's
write: DESIGN CHOICE, log 61. -/
def handCloseRecord (b : RecBody) (o : PulseOutcome) (s : State) : State :=
  let s1 := complete b s
  if o = .done then countOperation s1 else s1

/-- A close pulse ends DONE or NO_MOVE (R78, R80, log 15). Which measurement is the voltage after R78 and R80 do not say; the model takes
the one the event carries: DESIGN CHOICE, log 49. -/
def endClose (o : PulseOutcome) (pulse : Nat) (fin : PulseEnd) (s : State) : State :=
  let b := closeRecord s.act o pulse (clampVolts fin.capAfter)
  let s1 := { s with act := s.act.toIdle }
  let s2 := if o = .noMove then setMech true s1 else s1
  if fin.partFirst then seqCloseCompletion o (handCloseRecord b o s2) else handCloseRecord b o (seqCloseCompletion o s2)

/-- A trip cuts the close in progress: record, then completion (R79, log 15). -/
def cutClose (s : State) : State :=
  let b := closeRecord s.act .cut (s.act.pulseMs.getD 0) s.act.cap
  seqCloseCompletion .cut (handCloseRecord b .cut { s with act := { s.act.toIdle with converter := .paused } })

/-! ### Trips at ACT (spec/04 R72 to R75) -/

/-- A trip pulse begins; a held-since count is kept for the record (R74, R73). -/
def beginTrip (s : State) : State :=
  { s with act := { s.act with
      state := .tripPulse, pulseMs := some 0, before := some s.act.cap, origin := none, converter := .paused } }

/-- A trip is held for want of energy (R73). -/
def holdTrip (s : State) : State :=
  { s with act := { s.act with
      state := .tripHeld, pulseMs := none, before := none, origin := none, heldMs := some 0, converter := converterFrom s.act.cap } }

/-- The capacitor test of a trip from IDLE (R72). -/
def startTrip (s : State) : State :=
  if s.act.tripReady then beginTrip { s with act := { s.act with heldMs := none } } else holdTrip s

/-- A trip request from SEQ (R72). -/
def actTrip (s : State) : State :=
  match s.act.state with
  | .idle => startTrip s
  | .closePulse => startTrip (cutClose s)
  | .tripPulse => s
  | .tripHeld => s

/-- ACT's part of the TRIP record (R75). -/
def pulsePart (s : State) (o : PulseOutcome) (pulse before after : Nat) : PulsePart :=
  { outcome := o, pulse := pulse, held := s.act.heldMs, before := before, after := after,
    ia := s.lsu.meas.a, ib := s.lsu.meas.b, ic := s.lsu.meas.c }

/-- A trip pulse ends DONE or NO_MOVE (R74, R75). -/
def endTrip (o : PulseOutcome) (pulse : Nat) (fin : PulseEnd) (s : State) : State :=
  let pp := pulsePart s o pulse (s.act.before.getD 0) (clampVolts fin.capAfter)
  let s1 := { s with act := s.act.toIdle }
  tripCompletion o pp fin.partFirst (if o = .noMove then setMech true s1 else s1)

/-- A held trip ends DONE because the breaker opened: a pulse of 0 ms (R73). -/
def endHeldTrip (fin : PulseEnd) (s : State) : State :=
  let pp := pulsePart s .done 0 s.act.cap s.act.cap
  tripCompletion .done pp fin.partFirst { s with act := s.act.toIdle }

end Sys2Proof.Machine
end

