-- ==== Sys2Proof/Machine/Sequencer.lean ====
section
/-! DEFINITION. What SEQ does with each event it takes (spec/03 R44 to R66): trips, opens, closes, the reclose decision, coordination,
tags, position changes and group selections. -/

namespace Sys2Proof.Machine

/-! ### Trips and opens -/

/-- A request joined to the trip in flight (R47). -/
def joinTrip (r : TripReq) (s : State) : State :=
  { s with seq := { s.seq with trip := some (s.seq.requests ++ [r]) } }

/-- A trip handed to ACT with SEQ entering TRIPPING (R44). -/
def tripNow (r : TripReq) (s : State) : State :=
  actTrip (seqTo .tripping { s with seq := { s.seq.stopTimers with trip := some [r] } })

/-- A fresh trip attempt from LOCKOUT or MECH_FAIL, joined to one in flight (R44, R47). SEQ stays in its state. A trip that SEQ hands to
ACT never finds the test load on the battery (spec/06 R129): a load test in progress in LOCKOUT is suspended as the trip is handed over.
That row is not in R129's table: DESIGN CHOICE, log 51. -/
def tripAttempt (r : TripReq) (s : State) : State :=
  match s.seq.trip with
  | none => actTrip { s with seq := { s.seq with trip := some [r] }, bcu := s.bcu.suspend }
  | some _ => joinTrip r s

/-- A trip request at SEQ (R44, R46). -/
def seqTrip (r : TripReq) (s : State) : State :=
  match s.seq.state with
  | .closed | .reclaim | .reclosing | .closing | .deadTime | .recloseHold => tripNow r s
  | .tripping => joinTrip r s
  | .lockout | .mechFail => tripAttempt r s

/-- An OPEN command at SEQ (R45). -/
def seqOpen (a : Authority) (src : Src) (s : State) : State :=
  match s.seq.state with
  | .closed | .reclaim | .reclosing | .closing | .tripping | .mechFail => answer src .ok 0 [] (seqTrip (.command a) s)
  | .deadTime | .recloseHold => answer src .ok 0 [] (enterLockout .commandOpen s)
  | .lockout =>
    if s.act.position = .isOpen then answer src .alreadyOpen 0 [] s
    else answer src .ok 0 [] (seqTrip (.command a) s)

/-! ### Commanded closes (R57) -/

/-- A commanded close whose pulse begins. -/
def commandedClose (a : Authority) (src : Src) (s : State) : State :=
  let s1 := beginClose a.origin s
  let s2 := seqTo .closing
    { s1 with seq := { s1.seq with shots := 0, manual := true, cause := none, heldClose := some src } }
  queueWrite (lockoutItem s2) s2

/-- A CLOSE command at SEQ (R57). -/
def seqClose (a : Authority) (src : Src) (s : State) : State :=
  match s.seq.state with
  | .mechFail => answer src .mechFail 0 [] s
  | .lockout =>
    match closeRefusal a.origin s with
    | some r => answer src r 0 [] s
    | none => commandedClose a src s
  | .closed | .reclaim | .tripping | .deadTime | .recloseHold | .reclosing | .closing => answer src .notLockedOut 0 [] s

/-! ### The reclose decision (R52 to R55) -/

/-- The energy-hold limit (R41). -/
def energyHoldMs : Nat := 30000

/-- The outcome of the dead-time-end checks. -/
inductive DeadEnd | lockout (c : Cause) | holdSource | close
  deriving DecidableEq, Repr

/-- Check 4 of R52. -/
def sourceCheck (s : State) : DeadEnd :=
  if s.sst.group.liveSource = true ∧ s.lsu.source.line ≠ .live then
    if s.sst.group.sourceWaitMs = 0 then .lockout .sourceTimeout else .holdSource
  else .close

/-- The checks of R52, in order; a source seen LIVE needs no check 4 (R54). -/
def deadEndChecks (withSource : Bool) (s : State) : DeadEnd :=
  if tripsToLockout s ≤ s.seq.shots then .lockout .shots
  else if reserveBars s.bcu.level then .lockout .conserve
  else if s.lsu.load.line = .live then .lockout .loadLive
  else if withSource then sourceCheck s
  else .close

/-- The entry to RECLOSE_HOLD with a reason and its timer (R54, R55). -/
def enterHold (r : HoldReason) (ms : Nat) (s : State) : State :=
  seqTo .recloseHold
    { s with seq := { s.seq with deadNo := none, deadLeft := none, holdReason := some r, holdLeft := some ms } }

/-- What SEQ does with ACT's refusal of an automatic close (R53, R55). BUSY is not met (log 30). -/
def autoRefused (r : Res) (s : State) : State :=
  match r with
  | .lowEnergy => if s.seq.state = .recloseHold ∧ s.seq.holdReason = some .energy then s else enterHold .energy energyHoldMs s
  | .tagNoClose => enterLockout .tag s
  | .tagNoReclose => enterLockout .tag s
  | .conserve => enterLockout .conserve s
  | .mechFail => enterLockout .mechCleared s
  | .positionUnknown => enterLockout .externalOpen s
  | .notLockedOut => enterReclaimByHand s
  | _ => s

/-- SEQ asks ACT for an automatic close (R53). -/
def autoClose (s : State) : State :=
  match closeRefusal .auto s with
  | none => seqTo .reclosing (stopTimers (beginClose .auto s))
  | some r => autoRefused r s

/-- The outcome of the checks carried out (R52). -/
def deadEnd (d : DeadEnd) (s : State) : State :=
  match d with
  | .lockout c => enterLockout c s
  | .holdSource => enterHold .source s.sst.group.sourceWaitMs s
  | .close => autoClose s

/-- The dead timer's end (R52). -/
def deadTimeEnd (s : State) : State :=
  let s1 := { s with seq := { s.seq with deadLeft := some 0 } }
  deadEnd (deadEndChecks true s1) s1

/-- The source side becomes LIVE (R54). -/
def seqSourceLive (s : State) : State :=
  if s.seq.state = .recloseHold ∧ s.seq.holdReason = some .source then deadEnd (deadEndChecks false s) s else s

/-- The energy-ready event (R55). -/
def seqEnergyReady (s : State) : State :=
  if s.seq.state = .recloseHold ∧ s.seq.holdReason = some .energy then deadEnd (deadEndChecks true s) s else s

/-- The hold timer's end (R54, R55). -/
def holdEnd (s : State) : State :=
  match s.seq.holdReason with
  | some .source => enterLockout .sourceTimeout s
  | some .energy => enterLockout .energy s
  | none => s

/-! ### Coordination, tags, position -/

/-- A fault departure at SEQ (R60). -/
def seqDeparture (s : State) : State :=
  if coordinates s then
    let s1 := enterReclaim { s with seq := { s.seq with shots := s.seq.shots + 1 } }
    complete (.coordination s1.seq.shots) s1
  else s

/-- A tag stored or refreshed (R61). -/
def seqTagAccepted (s : State) : State :=
  if s.seq.state = .deadTime ∨ s.seq.state = .recloseHold then enterLockout .tag s else s

/-- A position change that SEQ did not ask for (R62). A breaker closed by hand under a NO_CLOSE tag in MECH_FAIL leaves SEQ there with its
flag as it was (R62, R63), where spec/05 R96 speaks of RECLAIM with the flag set: SEQ's chapter states SEQ's outcome (spec/00 section 1.2).
DEDUCED, log 66. -/
def seqPosition (p : Position) (s : State) : State :=
  match s.seq.state, p with
  | .closed, .isOpen => if s.seq.trip = none then enterLockout .externalOpen s else s
  | .reclaim, .isOpen => if s.seq.trip = none then enterLockout .externalOpen s else s
  | .deadTime, .closed => enterReclaimByHand s
  | .recloseHold, .closed => enterReclaimByHand s
  | .deadTime, .unknown => enterLockout .externalOpen s
  | .recloseHold, .unknown => enterLockout .externalOpen s
  | .lockout, .closed =>
    if s.seq.trip = none then
      let s1 := enterReclaimByHand { s with seq := { s.seq with cause := none } }
      queueWrite (lockoutItem s1) s1
    else s
  | _, _ => s

/-! ### Groups (R65) -/

/-- A group selection at SEQ: applied, held pending, or of the active group. -/
def seqSelect (g : Nat) (src : Src) (s : State) : State :=
  if g = s.sst.active then answer src .ok 0 (be1 0) { s with seq := { s.seq with pendingGroup := none } }
  else if settled s then answer src .ok 0 (be1 0) (applyGroup g s)
  else answer src .ok 1 (be1 1) { s with seq := { s.seq with pendingGroup := some g } }

/-! ### Events that wait for the start (R66) -/

/-- SEQ takes an event. -/
def takeEvent (e : SeqEvent) (s : State) : State :=
  match e with
  | .trip r => seqTrip r s
  | .departure => seqDeparture s
  | .tagAccepted => seqTagAccepted s
  | .energyReady => seqEnergyReady s
  | .position p => seqPosition p s
  | .openCmd a src => seqOpen a src s
  | .closeCmd a src => seqClose a src s
  | .select g src => seqSelect g src s

/-- An event that reaches SEQ: held until the RESTART record is completed, then taken in order (R66). -/
def seqEvent (e : SeqEvent) (s : State) : State :=
  if s.seq.decided then takeEvent e s else { s with seq := { s.seq with events := s.seq.events ++ [e] } }

/-- MECH_FAIL_CLEAR from LOCAL (R64): the state and the result. -/
def mechFailCleared (s : State) : State × Res :=
  if s.act.state ≠ .idle then (s, .busy)
  else if s.seq.state = .mechFail then
    if s.act.position = .closed then (enterClosed (clearElements (setMech false s)), .ok)
    else (enterLockout .mechCleared (setMech false s), .ok)
  else (setMech false s, .ok)

end Sys2Proof.Machine
end

