-- ==== Sys2Proof/Machine/Protection.lean ====
section
/-! DEFINITION. The magnitude update: measurement set, elements, trip request, fault departure, pending group and line states
(spec/01 R2 to R15, spec/02 R19 to R38). -/

namespace Sys2Proof.Machine

/-! ### LSU -/

/-- The sample sets enter the windows and the measurement set is replaced (spec/01 R2, R3, R6, R9). -/
def Lsu.push (block : List SampleSet) (l : Lsu) : Lsu :=
  let w := lastN l.winLen (l.window ++ block.map limitSamples)
  let f := min l.winLen (l.fill + block.length)
  { l with window := w, fill := f, meas := if f = l.winLen then measure l.winLen w else .cleared }

/-- Both sides qualified at a full update (spec/01 R11 to R13); a filling window moves no run (R6). -/
def Lsu.qualifySides (l : Lsu) : Lsu :=
  if l.fill = l.winLen then
    { l with source := qualify l.liveV l.deadV l.meas.vs l.source, load := qualify l.liveV l.deadV l.meas.vl l.load }
  else l

/-- The LSU after a whole update. -/
def Lsu.update (block : List SampleSet) (l : Lsu) : Lsu := (l.push block).qualifySides

/-- One side. -/
def Lsu.side (l : Lsu) : Side → SideState
  | .source => l.source
  | .load => l.load

/-- A side with both runs at 0; its line state stays (spec/01 R8, R15). -/
def SideState.zeroRuns (x : SideState) : SideState := ⟨x.line, 0, 0⟩

/-- A window restart (spec/01 R8): line states and thresholds stay. -/
def Lsu.restart (frequency : Nat) (l : Lsu) : Lsu :=
  { l with winLen := windowLength frequency, window := [], fill := 0, meas := .cleared,
           source := l.source.zeroRuns, load := l.load.zeroRuns }

/-- New thresholds (spec/01 R15). -/
def Lsu.rethreshold (p : Page) (l : Lsu) : Lsu :=
  { l with liveV := liveVoltage p, deadV := deadVoltage p,
           source := l.source.zeroRuns, load := l.load.zeroRuns }

/-- The start of the LSU (spec/01 R7). -/
def Lsu.start (p : Page) : Lsu :=
  { Lsu.idle with winLen := windowLength p.frequency, liveV := liveVoltage p, deadV := deadVoltage p }

/-! ### PEU -/

/-- An arming change found at an update (spec/02 R21). -/
def Elem.arm (on : Bool) (x : Elem) : Elem :=
  if on then (if x.st = .disabled then ⟨.quiet, 0⟩ else x) else ⟨.disabled, 0⟩

/-- The computation of an armed element that is not OPERATED (spec/02 R24 to R33). -/
def Elem.compute (set : ElemSettings) (points : List (Nat × Nat)) (i : Nat) (x : Elem) : Elem :=
  if set.pickup ≤ i then
    let a := min accFull (x.acc + increment set points i)
    ⟨if a = accFull then .operated else .timing, a⟩
  else if dropout set.pickup ≤ i then
    ⟨if 0 < x.acc then .held else .quiet, x.acc⟩
  else if set.reset = 0 then ⟨.quiet, 0⟩
  else
    let a := x.acc - decrement set.reset
    ⟨if 0 < a then .resetting else .quiet, a⟩

/-- One element at one update: arming, then computation (spec/02 R23 steps 1 and 2). -/
def Elem.step (on : Bool) (set : ElemSettings) (points : List (Nat × Nat)) (i : Nat) (x : Elem) : Elem :=
  let y := x.arm on
  if on = true ∧ y.st ≠ .operated then y.compute set points i else y

/-- The magnitude an element measures (spec/02 R17). -/
def elementMagnitude (m : MeasSet) : Element → Nat
  | .pf | .pd | .hs | .hlp => m.maxPhase
  | .gf | .gd | .hlg => m.n

/-- What the PEU reads at an update. -/
structure PeuInputs where
  group : Page
  curves : List Page
  mode : EffMode
  shots : Nat
  meas : MeasSet
  deriving DecidableEq, Repr

/-- An element's arming at this update. -/
def PeuInputs.armed (x : PeuInputs) (e : Element) : Bool := Machine.armed x.group (nextTripNumber x.shots) x.mode e

/-- The elements after the arming of this update (spec/02 R21). -/
def PeuInputs.armedElems (x : PeuInputs) (p : Peu) : Elems := .build fun e => (p.elems.get e).arm (x.armed e)

/-- The elements after this update (spec/02 R23). -/
def PeuInputs.stepElems (x : PeuInputs) (p : Peu) : Elems :=
  .build fun e => (p.elems.get e).step (x.armed e) (elemSettings x.group e) (curvePoints x.curves (elemSettings x.group e).curve)
    (elementMagnitude x.meas e)

/-- The cause named by this update's trip request, if there is one (spec/02 R31). -/
def PeuInputs.cause (x : PeuInputs) (p : Peu) : Option Element :=
  elementOrder.find? fun e => ((x.stepElems p).get e).st == .operated && ((x.armedElems p).get e).st != .operated

/-- The fast elements (spec/02 R17). -/
def fastElements : List Element := [.pf, .gf]

/-- The fault-departure check (spec/02 R36). -/
def PeuInputs.departure (x : PeuInputs) (p : Peu) : Bool :=
  p.detector &&
  fastElements.any (fun e => x.armed e && decide (0 < ((x.armedElems p).get e).acc)) &&
  elementOrder.all (fun e => ((x.stepElems p).get e).st != .operated) &&
  fastElements.all (fun e => !x.armed e || decide (elementMagnitude x.meas e < dropout (elemSettings x.group e).pickup))

/-- The detector after the rearming check (spec/02 R37). -/
def PeuInputs.detector (x : PeuInputs) (p : Peu) : Bool :=
  (p.detector && !x.departure p) || fastElements.all (fun e => !x.armed e || ((x.stepElems p).get e).st == .quiet)

/-- The PEU after this update. -/
def PeuInputs.update (x : PeuInputs) (p : Peu) : Peu :=
  { elems := x.stepElems p, detector := x.detector p, nextTrip := nextTripNumber x.shots,
    timing := (x.stepElems p).timingPresent, allQuiet := (x.stepElems p).allQuiet }

/-- What the PEU reads in a state. -/
def peuInputs (s : State) : PeuInputs :=
  { group := s.sst.group, curves := s.sst.curves, mode := s.tag.table.mode, shots := s.seq.shots, meas := s.lsu.meas }

/-! ### The update -/

/-- ORL's capture at a PEU trip request (spec/07 R137). -/
def captureFault (s : State) : State :=
  match s.orl.capture with
  | some _ => s
  | none => { s with orl := { s.orl with capture := some ⟨s.lsu.meas.a, s.lsu.meas.b, s.lsu.meas.c, s.lsu.meas.n⟩ } }

/-- Step 3 of R23: the trip request. -/
def requestTrip (cause : Option Element) (s : State) : State :=
  match cause with
  | some e => seqEvent (.trip (.element e)) (captureFault s)
  | none => s

/-- The PEU's update with what it hands SEQ (spec/02 R23). -/
def peuUpdate (s : State) : State :=
  let x := peuInputs s
  let s1 := requestTrip (x.cause s.peu) { s with peu := x.update s.peu }
  if x.departure s.peu then seqEvent .departure s1 else s1

/-- In CLOSED with all quiet a pending group or held content is applied (spec/03 R65). -/
def applyWhenQuiet (s : State) : State :=
  if s.seq.state = .closed ∧ s.peu.allQuiet = true then applyPending s else s

/-- The SOURCE record of a source-side change (spec/01 R14). -/
def sourceRecord (old new : LineState) (s : State) : State :=
  match old, new with
  | .live, .dead => complete .sourceLost s
  | .dead, .live => complete .sourceRestored s
  | _, _ => s

/-- The line states of this update; SEQ learns of a source side that became LIVE (spec/01 R13, R14; spec/03 R54). -/
def lineUpdate (s : State) : State :=
  let l := s.lsu.qualifySides
  let s1 := sourceRecord s.lsu.source.line l.source.line { s with lsu := l }
  if l.source.line = .live ∧ s.lsu.source.line ≠ .live then seqSourceLive s1 else s1

/-- One magnitude update (spec/01 R3, R9, R10; order log 13). -/
def magnitudeUpdate (block : List SampleSet) (s : State) : State :=
  lineUpdate (applyWhenQuiet (peuUpdate { s with lsu := s.lsu.push block }))

/-- At this update the side's line state becomes x (spec/01 R13). -/
def sideBecomes (x : LineState) (side : Side) (block : List SampleSet) (s : State) : Bool :=
  ((s.lsu.update block).side side).line == x && (s.lsu.side side).line != x

/-- At this update an element operates (spec/02 R31). -/
def elementOperates (block : List SampleSet) (s : State) : Bool :=
  let t := { s with lsu := s.lsu.push block }
  ((peuInputs t).cause t.peu).isSome

end Sys2Proof.Machine
end

