-- ==== Sys2Proof/Machine/Tags.lean ====
section
/-! DEFINITION. Crew tags: placing, refreshing, removing and expiring (spec/05). -/

namespace Sys2Proof.Machine

/-- The mode of a mode byte (spec/08 R168, spec/10 R185). -/
def tagModeOf (m : Nat) : TagMode := if m = 1 then .noClose else .noReclose

/-- The expiry of its two bytes: 0 is none. -/
def expiryOf (e : Nat) : Option Nat := if e = 0 then none else some e

/-- A crew number outside 1..9999. -/
def badCrew (crew : Nat) : Bool := crew == 0 || 9999 < crew

/-- The field checks of R92. -/
def badPlacement (crew mode expiry : Nat) : Bool :=
  badCrew crew || 1 < mode || (expiry != 0 && (expiry < 15 || 1440 < expiry)) || (mode == 1 && expiry != 0)

/-- The table with a new tag: its number, the lowest empty slot, the next number (R89, R90). -/
def TagTable.store (t : TagTable) (x : Tag) : TagTable :=
  let n := freeNumber t 8 t.next
  { slots := fillSlot { x with number := n } t.slots, next := tagAfter n }

/-- The tag a placement asks for, not yet numbered (R94). -/
def newTag (a : Authority) (crew mode expiry : Nat) (s : State) : Tag :=
  { number := freeNumber s.tag.table 8 s.tag.table.next, crew := crew, mode := tagModeOf mode, auth := a,
    placedAt := if s.orl.valid then some s.orl.time else none, left := expiryOf expiry }

/-- The tag after a refresh (R95). -/
def refreshedTag (a : Authority) (expiry : Nat) (x : Tag) : Tag :=
  { x with auth := higher x.auth a, left := refreshLeft x.left (expiryOf expiry) }

/-- A tag stored or refreshed: SEQ is told, the record handed, the write queued (R94 steps 2 to 6, R95). -/
def acceptTag (t : TagTable) (x : Tag) (s : State) : State :=
  let s1 := seqEvent .tagAccepted { s with tag := { s.tag with table := t } }
  queueWrite (.tags t) (complete (.tagPlaced x) s1)

/-- TAG_PLACE: the state, the result, and the tag as now held (R92, R93). -/
def placeTag (a : Authority) (crew mode expiry : Nat) (s : State) : State × Res × Option Tag :=
  let t := s.tag.table
  if badPlacement crew mode expiry then (s, .badField, none)
  else if mode = 1 ∧ s.act.position ≠ .isOpen then (s, .notOpen, none)
  else match t.ofCrew crew (tagModeOf mode) with
    | some x =>
      let y := refreshedTag a expiry x
      (acceptTag (t.replace y) y s, .refreshed, some y)
    | none =>
      if 8 ≤ t.tags.length then (s, .tableFull, none)
      else
        let x := newTag a crew mode expiry s
        (acceptTag (t.store x) x s, if s.act.state = .closePulse then .deferredInFlight else .ok, some x)

/-- The reply fields of an accepted placement (R93). -/
def placedReply : Option Tag → Bytes
  | some x => maskOf [x.left.isSome] ++ be2 x.number ++ be1 x.auth.rank ++ opt2 x.left
  | none => []

/-- A removal, whatever its cause (R100). -/
def removeTag (x : Tag) (c : RemovalCause) (a : Option Authority) (s : State) : State :=
  let t := s.tag.table.remove x.number
  queueWrite (.tags t) (complete (.tagRemoved x c a) { s with tag := { s.tag with table := t } })

/-- TAG_REMOVE: the state and the result (R98). -/
def tagRemove (a : Authority) (number crew : Nat) (s : State) : State × Res :=
  if number = 0 ∨ badCrew crew = true then (s, .badField)
  else match s.tag.table.find number with
    | none => (s, .notFound)
    | some x =>
      if x.crew ≠ crew then (s, .crewMismatch)
      else if x.auth.rank < a.rank then (s, .authority)
      else (removeTag x .removed (some a) s, .ok)

/-- TAG_CLEAR: the state and the result (R99). -/
def tagClear (a : Authority) (number : Nat) (s : State) : State × Res :=
  if a ≠ .loc then (s, .authority)
  else if number = 0 then (s, .badField)
  else match s.tag.table.find number with
    | none => (s, .notFound)
    | some x => (removeTag x .forced (some a) s, .ok)

/-- The tag TAG_READ asks for (R104). -/
def readTag (selector value : Nat) (t : TagTable) : Option Tag :=
  if selector = 0 then (t.slots.getD value none) else t.find value

/-- The reply fields of TAG_READ (R104, log 23). -/
def tagReadReply (t : TagTable) (x : Option Tag) : Bytes :=
  match x with
  | some y => maskOf [y.placedAt.isSome, y.left.isSome] ++ flag true ++ be1 (t.slotOf y.number) ++ encodeTag y
  | none => maskOf [false, false] ++ flag false

/-- TAG_READ: the result and its fields (R104). -/
def tagReadAnswer (selector value : Nat) (t : TagTable) : Res × Bytes :=
  if 1 < selector ∨ (selector = 0 ∧ 7 < value) ∨ (selector = 1 ∧ value = 0) then (.badField, [])
  else (.ok, tagReadReply t (readTag selector value t))

/-- Every tag at 0 remaining minutes is removed, in ascending number (R101). -/
def expireTags (s : State) : State :=
  (s.tag.table.sorted.filter fun x => x.left == some 0).foldl (fun t x => removeTag x .expired none t) s

/-- A tag has remaining minutes. -/
def TagTable.counting (t : TagTable) : Bool := t.tags.any (·.left.isSome)

/-- The minute event at TAG (R101, R103). Whether a tag has remaining minutes at the 60th is judged once the minute is taken and the
expired tags are gone: DESIGN CHOICE, log 65. -/
def tagMinute (s : State) : State :=
  let m := (s.tag.minutes + 1) % 60
  let s1 := expireTags { s with tag := { table := s.tag.table.minute, minutes := m } }
  if m = 0 ∧ s1.tag.table.counting = true then queueWrite (.tags s1.tag.table) s1 else s1

end Sys2Proof.Machine
end

