-- ==== Sys2Proof/Machine/Battery.lean ====
section
/-! DEFINITION. Battery care: the measurement, the charger, the charge count, the reserve level, the shutdown and the load test
(spec/06). -/

namespace Sys2Proof.Machine

/-! ### One measurement inside the BCU -/

/-- The resynchronisation run (R117). -/
def resyncRun (capacity : Nat) (m : BattMeas) (b : Bcu) : Nat :=
  if b.charger = .float ∧ 0 ≤ m.ma ∧ m.ma < capacity * 10 then min 3600 (b.resync + 1) else 0

/-- The charge count after a measurement (R116, R117). -/
def chargeAfter (capacity : Nat) (m : BattMeas) (b : Bcu) : Nat :=
  if resyncRun capacity m b = 3600 then fullCount capacity else moveCharge (fullCount capacity) b.charge m.ma

/-- The count, its run and SoC (R116, R117). -/
def Bcu.chargeStep (capacity : Nat) (m : BattMeas) (b : Bcu) : Bcu :=
  { b with meas := m, charge := chargeAfter capacity m b, resync := resyncRun capacity m b,
           soc := socOf (fullCount capacity) (chargeAfter capacity m b) }

/-- The setpoints of the latest measurement (R111). -/
def Bcu.formSetpoints (b : Bcu) : Bcu :=
  { b with absorbSp := absorbSetpoint b.meas.temp, floatSp := floatSetpoint b.meas.temp }

/-- Where a charger whose clear run is complete goes (R114). -/
def Bcu.leaveFault (b : Bcu) : Bcu :=
  if b.test.inProgress then { b with charger := .test, absorbTime := 0, floatLow := 0, resync := 0 }
  else if b.meas.supply then { b with charger := .bulk }
  else { b with charger := .noSupply }

/-- The FAULT clear run after a measurement in FAULT (R114). -/
def Bcu.clearRun (b : Bcu) : Nat := if clearMeasurement b.meas then b.faultClear + 1 else 0

/-- The FLOAT low run after a measurement in FLOAT (R113). -/
def Bcu.lowFloatRun (b : Bcu) : Nat := if (b.meas.mv : Int) < b.floatSp - 600 then b.floatLow + 1 else 0

/-- The charger outside the fault condition (R113, R114). -/
def Bcu.chargerMove (capacity : Nat) (b : Bcu) : Bcu :=
  match b.charger with
  | .noSupply => if b.meas.supply then { b with charger := .bulk } else b
  | .bulk =>
    if b.meas.supply = false then { b with charger := .noSupply }
    else if b.absorbSp ≤ b.meas.mv then { b with charger := .absorb, absorbTime := 0 }
    else b
  | .absorb =>
    if b.meas.supply = false then { b with charger := .noSupply }
    else if b.meas.ma < capacity * 10 ∨ 14400 ≤ b.absorbTime + 1 then
      { b with charger := .float, floatLow := 0, absorbTime := min 14400 (b.absorbTime + 1) }
    else { b with absorbTime := b.absorbTime + 1 }
  | .float =>
    if b.meas.supply = false then { b with charger := .noSupply }
    else if 60 ≤ b.lowFloatRun then { b with charger := .bulk, floatLow := 60 }
    else { b with floatLow := b.lowFloatRun }
  | .test => b
  | .fault => if 600 ≤ b.clearRun then { b with faultClear := 600 }.leaveFault else { b with faultClear := b.clearRun }

/-- The charger at a measurement: the fault check, then the move (R113, R114). -/
def Bcu.chargerStep (capacity : Nat) (b : Bcu) : Bcu :=
  if faultCondition b.meas then { b with charger := .fault, faultClear := 0 } else b.chargerMove capacity

/-- The three voltage runs (R119). -/
def Bcu.runs (b : Bcu) : Bcu :=
  { b with lowRun := if b.meas.mv < 23000 then min 10 (b.lowRun + 1) else 0,
           recRun := if b.meas.mv < 23000 then 0 else min 60 (b.recRun + 1),
           exhRun := if b.meas.mv < 21000 ∧ b.meas.supply = false then min 10 (b.exhRun + 1) else 0 }

/-- The level after the runs; during a shutdown none is formed (R119, R123). -/
def Bcu.levelNow (b : Bcu) : Level :=
  if b.shutdown.isSome then b.level else nextLevel b.level b.soc b.lowRun b.recRun b.exhRun

/-! ### A level change (R120 to R123) -/

/-- The channel falls SILENT (spec/08 R149). -/
def goSilent (s : State) : State :=
  { s with rcc := { s.rcc with chan := .silent, frameMs := none, outbox := returnAwait false s.rcc.outbox } }

/-- The R and loaded voltage of a reading against the baseline (R128, R131). -/
def endLoaded (outcome : TestOutcome) (r : TestReading) (s : State) : State :=
  endTest outcome (resistance (s.bcu.baseline.getD ⟨0, 0⟩) r) (some r.mv) s

/-- A change of level away from NORMAL ends a test (R131). -/
def endTestByLevel (r : TestReading) (s : State) : State :=
  match s.bcu.test with
  | .loaded => endLoaded .fail (clampReading r) s
  | .settling => endTest .abandoned none none s
  | .suspended => endTest .abandoned none none s
  | .idle => s

/-- The exhaustion shutdown begins (R122). -/
def beginShutdown (s : State) : State :=
  if s.sst.globalPage.tripOnExhaustion = true ∧ s.act.position ≠ .isOpen then
    seqEvent (.trip .exhaustion) { s with bcu := { s.bcu with shutdown := some .tripWait, tripWaitMs := 0 } }
  else { s with bcu := { s.bcu with shutdown := some .writeWait } }

/-- A change of level, in the order of R120. The fall to SILENT at EXHAUSTED (spec/08 R149), which R120 does not place, comes after the
count's write and before a test's end: DESIGN CHOICE, log 52. -/
def changeLevel (l : Level) (r : TestReading) (s : State) : State :=
  let s1 := { s with bcu := { s.bcu with level := l, charge := if l = .exhausted then 0 else s.bcu.charge } }
  let s2 := complete (.battery l s.bcu.soc s.bcu.meas.mv) s1
  let s3 := queueWrite (.charge s1.bcu.charge) s2
  let s4 := if l = .exhausted then goSilent s3 else s3
  let s5 := if s.bcu.level = .normal then endTestByLevel r s4 else s4
  if l = .exhausted then beginShutdown s5 else s5

/-! ### The measurement (R110) -/

/-- Count, setpoints, and a suspension when the supply is absent, before the charger moves (R110). -/
def measureCharge (m : BattMeas) (s : State) : State :=
  let cap := s.sst.globalPage.capacity
  let b := (s.bcu.chargeStep cap (clampMeas m)).formSetpoints
  let b1 := if b.meas.supply then b else b.suspend
  { s with bcu := b1.chargerStep cap }

/-- Every 600th measurement the count's write is queued (R118, log 19). -/
def countMeasurement (s : State) : State :=
  let n := (s.bcu.measCount + 1) % 600
  let s1 := { s with bcu := { s.bcu with measCount := n } }
  if n = 0 then queueWrite (.charge s.bcu.charge) s1 else s1

/-- The voltage runs and the reserve level (R119, R120). -/
def gradeReserve (r : TestReading) (s : State) : State :=
  let s1 := { s with bcu := s.bcu.runs }
  if s1.bcu.levelNow = s1.bcu.level then s1 else changeLevel s1.bcu.levelNow r s1

/-- One battery measurement (R110). The 600th measurement's write (R118) is queued before the level is graded, with the count as it
stands then: DESIGN CHOICE, log 60. `r` is the test reading taken if a level change ends a loaded test (R131). -/
def battMeasure (m : BattMeas) (r : TestReading) (s : State) : State :=
  resumeTest (gradeReserve r (countMeasurement (measureCharge m s)))

/-! ### The load test -/

/-- The scheduled test is due (R126). -/
def scheduledTest (s : State) : State :=
  match testRefusal s with
  | none => { s with bcu := s.bcu.startTest .schedule }
  | some _ => { s with bcu := { s.bcu with countdown := some 60 } }

/-- The minute event at the BCU (R126). -/
def bcuMinute (s : State) : State :=
  match s.bcu.countdown with
  | none => s
  | some n =>
    if n ≤ 1 then scheduledTest { s with bcu := { s.bcu with countdown := some 0 } }
    else { s with bcu := { s.bcu with countdown := some (n - 1) } }

/-- The baseline is taken and the load applied (R127). -/
def applyLoad (r : TestReading) (s : State) : State :=
  { s with bcu := { s.bcu with test := .loaded, settleMs := 0, baseline := some (clampReading r) } }

/-- The load time is complete (R128). -/
def completeTest (r : TestReading) (s : State) : State :=
  let s1 := { s with bcu := { s.bcu with loadMs := 30000 } }
  let x := clampReading r
  endLoaded (testOutcome s.sst.globalPage.rLimit (s.bcu.baseline.getD ⟨0, 0⟩) x) x s1

/-- BATTERY_TEST_CANCEL: whether no test was running (R131). -/
def cancelTest (s : State) : State :=
  if s.bcu.test = .idle then s else endTest .cancelled none none s

end Sys2Proof.Machine
end

