-- ==== Sys2Proof/Machine/Records.lean ====
section
/-! DEFINITION. The time base and its minute events, reading records, wear resets, and STATUS requests (spec/07 R139, R143 to R147;
spec/08 R155). -/

namespace Sys2Proof.Machine

/-- The top of the time base (R145). -/
def timeTop : Nat := 4294967295

/-- A setting of the time; the second count stays (R145, R146). -/
def setTime (t : Nat) (s : State) : State := { s with orl := { s.orl with time := t, valid := true } }

/-- A beacon's time: taken when the time base is invalid or differs by more than 2 s (R147). -/
def beaconTime (t : Nat) (s : State) : State :=
  if s.orl.valid = true ∧ s.orl.time ≤ t + 2 ∧ t ≤ s.orl.time + 2 then s else setTime t s

/-- A STATUS request acts: absorbed by a WAITING STATUS entry, else an entry is made (spec/08 R155). -/
def makeStatus (s : State) : State :=
  if s.rcc.outbox.any (fun e => e.cls == .status && !e.await) then s else report .status none s

/-- A STATUS request. Before the RESTART entry, which is the first made after every start, it waits (spec/08 R165, log 11). -/
def statusRequest (s : State) : State := if s.stage.isStarting then hold .status s else makeStatus s

/-- The minute event at the RCC (spec/08 R155). -/
def rccMinute (s : State) : State :=
  match s.rcc.statusLeft with
  | none => s
  | some n =>
    if n ≤ 1 then statusRequest { s with rcc := { s.rcc with statusLeft := statusCountdown s.sst.globalPage } }
    else { s with rcc := { s.rcc with statusLeft := some (n - 1) } }

/-- A minute event, to TAG, then the BCU, then the RCC (R145, log 27). -/
def minuteEvent (s : State) : State := rccMinute (bcuMinute (tagMinute s))

/-- The time advanced by n seconds, held at its top (R145). -/
def advanceTime (n : Nat) (s : State) : State :=
  { s with orl := { s.orl with time := if s.orl.time + n ≤ timeTop then s.orl.time + n else max s.orl.time timeTop } }

/-- The minute in progress runs to its end: the seconds it lacks pass, the second count returns to 0, the minute event is raised. -/
def completeMinute (s : State) : State :=
  let s1 := advanceTime (60 - s.orl.sec) s
  minuteEvent { s1 with orl := { s1.orl with sec := 0 } }

/-- One second of running time (R145). -/
def runSecond (s : State) : State :=
  if 59 ≤ s.orl.sec then completeMinute s
  else
    let s1 := advanceTime 1 s
    { s1 with orl := { s1.orl with sec := s.orl.sec + 1 } }

/-- RECORD_READ (R139). Once the record numbers have passed 4,294,967,295 a number may be at or above the next one and stand in the ring:
that R139's first row goes before the others, and that every missing number below the next one is GONE, is a DESIGN CHOICE, log 67. -/
def recordReadAnswer (n : Nat) (o : Orl) : Res × Bytes :=
  if n = 0 then (.badField, [])
  else if o.next ≤ n then (.notFound, [])
  else match o.ring.find? (·.number == n) with
    | some r => (.ok, encodeRecord r)
    | none => match o.ring.head? with
      | some r => (.gone, be4 r.number)
      | none => (.notFound, [])

/-- One phase of ORL. -/
def Orl.phase (o : Orl) : Phase → PhaseWear
  | .a => o.wearA | .b => o.wearB | .c => o.wearC

/-- A phase's count set to 0 (R143). -/
def Orl.resetPhase (o : Orl) : Phase → Orl
  | .a => { o with wearA := { o.wearA with count := 0 } }
  | .b => { o with wearB := { o.wearB with count := 0 } }
  | .c => { o with wearC := { o.wearC with count := 0 } }

/-- The percents formed again outside a trip, with their WEAR records (R142). -/
def formWear (s : State) : State :=
  let budget := s.sst.globalPage.wearBudget
  completeAll (s.orl.formRecords budget) { s with orl := s.orl.form budget }

/-- The phase of a phase byte (spec/10 R185). -/
def phaseOf (n : Nat) : Option Phase :=
  match n with
  | 0 => some .a | 1 => some .b | 2 => some .c | _ => none

/-- WEAR_RESET accepted (R143). -/
def resetWear (p : Phase) (s : State) : State :=
  let o := s.orl.resetPhase p
  formWear (queueWrite (.wear o.counts) { s with orl := o })

end Sys2Proof.Machine
end

