-- ==== Sys2Proof/Machine/Settings.lean ====
section
/-! DEFINITION. Staging, commits, group selection and the retained writes' ends (spec/09). -/

namespace Sys2Proof.Machine

/-! ### Staging (R173, R174) -/

/-- The target of a STAGE_OPEN (spec/10 R185); the number of the global page is not read (log 23). -/
def targetOf (kind number : Nat) : Option Target :=
  match kind with
  | 0 => if number ≤ 3 then some (.group number) else none
  | 1 => some .global
  | 2 => if 4 ≤ number ∧ number ≤ 11 then some (.curve number) else none
  | _ => none

/-- STAGE_OPEN (R173). R173 gives its two refusals no explicit order: the target is tested first, DESIGN CHOICE, log 62. -/
def stageOpen (kind number : Nat) (s : State) : State × Res × Bytes :=
  match targetOf kind number, s.sst.staging with
  | none, _ => (s, .badField, [])
  | some _, .committing _ _ _ => (s, .busy, [])
  | some t, .empty => ({ s with sst := { s.sst with staging := .opened ⟨t, s.sst.store.page t, 0⟩ } }, .ok, flag false)
  | some t, .opened _ => ({ s with sst := { s.sst with staging := .opened ⟨t, s.sst.store.page t, 0⟩ } }, .ok, flag true)

/-- The buffer after an accepted load: the field replaced, the pointer stepped from the last field to 0 (R174). -/
def StageBuf.load (b : StageBuf) (value : Nat) (advance : Bool) : StageBuf :=
  { b with page := b.page.set b.pointer value,
           pointer := if advance then (if b.pointer = b.target.lastField then 0 else b.pointer + 1) else b.pointer }

/-- STAGE_LOAD (R174). The state of the buffer is tested before the advance byte (spec/10 R185): DESIGN CHOICE, log 63. -/
def stageLoad (value : Int) (advance : Nat) (s : State) : State × Res :=
  match s.sst.staging with
  | .empty => (s, .notStaged)
  | .committing _ _ _ => (s, .busy)
  | .opened b =>
    if 1 < advance ∨ fieldOk b.target b.pointer value = false then (s, .badField)
    else ({ s with sst := { s.sst with staging := .opened (b.load value.toNat (advance == 1)) } }, .ok)

/-- STAGE_SEEK (R174). -/
def stageSeek (field : Nat) (s : State) : State × Res :=
  match s.sst.staging with
  | .empty => (s, .notStaged)
  | .committing _ _ _ => (s, .busy)
  | .opened b =>
    if b.target.lastField < field then (s, .badField)
    else ({ s with sst := { s.sst with staging := .opened { b with pointer := field } } }, .ok)

/-- STAGE_READ (R174). The spec gives the field's value no size: 4 bytes for every field are a DESIGN CHOICE, log 23. -/
def stageReadAnswer (x : Staging) : Res × Bytes :=
  match x with
  | .empty => (.notStaged, [])
  | .committing _ _ _ => (.busy, [])
  | .opened b => (.ok, be1 b.pointer ++ be4 (b.page.field b.pointer))

/-! ### Commit (R175, R176) -/

/-- Checks 4 to 6 of R175. -/
def commitBusy (t : Target) (s : State) : Option Res :=
  match t with
  | .group n => if n = s.sst.active ∧ settled s = false then some .activeBusy else none
  | .global => if s.seq.state ≠ .lockout then some .activeBusy else none
  | .curve n =>
    if namesCurve s.sst.group n = true ∨ (s.sst.held.any fun p => namesCurve p n) = true then some .inUse else none

/-- COMMIT: none when the buffer enters COMMITTING, else the refusal with its bytes (R175). -/
def commitRefusal (s : State) : Option (Res × Bytes) :=
  match s.sst.staging with
  | .empty => some (.notStaged, [])
  | .committing _ _ _ => some (.busy, [])
  | .opened b =>
    match firstBad s.sst.store.curves b.target b.page with
    | some i => some (.invalid, be1 i)
    | none => (commitBusy b.target s).map fun r => (r, [])

/-- The buffer enters COMMITTING; the page write waits for a write in flight (R176). -/
def beginCommit (s : State) : State :=
  match s.sst.staging with
  | .opened b => { s with sst := { s.sst with staging := .committing b true s.sst.inFlight.isNone } }
  | _ => s

/-- The station id changes (spec/08 R149). -/
def stationChanged (id : Nat) (s : State) : State :=
  let chan : Chan := if id = 0 ∨ s.bcu.level = .exhausted then .silent else .searching
  { s with rcc := { s.rcc with chan := chan, frameMs := none, outbox := returnAwait false s.rcc.outbox } }

/-- The capacity changes: the count is rescaled (spec/06 R118). -/
def rescaleCharge (capacity : Nat) (s : State) : State :=
  let c := s.bcu.soc * fullCount capacity / 100
  queueWrite (.charge c) { s with bcu := { s.bcu with charge := c, resync := 0 } }

/-- The LSU at a global commit (spec/01 R8, R15). -/
def lsuGlobal (old new : Page) (l : Lsu) : Lsu :=
  let l1 := if old.frequency ≠ new.frequency then l.restart new.frequency else l
  if old.nominal ≠ new.nominal ∨ old.liveThreshold ≠ new.liveThreshold ∨ old.deadThreshold ≠ new.deadThreshold then
    l1.rethreshold new
  else l1

/-- The blocks act on the fields of the global page that changed (R176). -/
def globalEffects (old new : Page) (s : State) : State :=
  let s1 := { s with lsu := lsuGlobal old new s.lsu }
  let s2 := if old.capacity ≠ new.capacity then rescaleCharge new.capacity s1 else s1
  let s3 := if old.testInterval ≠ new.testInterval ∧ s2.bcu.test = .idle then
      { s2 with bcu := { s2.bcu with countdown := testCountdown new } } else s2
  let s4 := if old.wearBudget ≠ new.wearBudget then formWear s3 else s3
  let s5 := if old.stationId ≠ new.stationId then stationChanged new.stationId s4 else s4
  if old.statusInterval ≠ new.statusInterval then
    { s5 with rcc := { s5.rcc with statusLeft := statusCountdown new } }
  else s5

/-- The working copy at a commit's completion (R176). A curve is replaced at once, also where a group that names it was selected by radio
after the commit's acceptance, although R18 (spec/02) has the curve of an active group fixed: DESIGN CHOICE, log 58. -/
def replaceWorking (t : Target) (p : Page) (s : State) : State :=
  match t with
  | .group n =>
    if n = s.sst.active then
      if settled s then applyToElements { s with sst := { s.sst with group := p, held := none } }
      else { s with sst := { s.sst with held := some p } }
    else s
  | .global => globalEffects s.sst.globalPage p { s with sst := { s.sst with globalPage := p } }
  | .curve n => { s with sst := { s.sst with curves := s.sst.curves.set (n - 4) p } }

/-- The group a target names. -/
def Target.groupNo : Target → Option Nat
  | .group n => some n
  | _ => none

/-- The selections that waited on the commit reach SEQ, in order (R177). -/
def releaseSelections (t : Target) (waiting : List Src) (s : State) : State :=
  match t.groupNo with
  | some g => waiting.foldl (fun x src => seqEvent (.select g src) x) s
  | none => s

/-- A commit completes, in the order of R176. -/
def completeCommit (b : StageBuf) (reply : Bool) (s : State) : State :=
  let p := storedPage b.target b.page
  let s1 := { s with sst := { s.sst with store := s.sst.store.withPage b.target p } }
  let s2 := replaceWorking b.target p s1
  let s3 := { s2 with sst := { s2.sst with staging := .empty, waiting := [] }.kick }
  let s4 := if reply then hostReply .ok [] s3 else s3
  releaseSelections b.target s.sst.waiting s4

/-! ### Selection (R177) -/

/-- The buffer is COMMITTING a group. -/
def Staging.commitsGroup (x : Staging) (g : Nat) : Bool :=
  match x with
  | .committing b _ _ => b.target == .group g
  | _ => false

/-- GROUP_SELECT at the SST (R177). While a selection waits on the commit of its group, one of another group is handed to SEQ at once, ahead
of it: DESIGN CHOICE between two sentences of R177, log 56. -/
def selectGroup (g : Nat) (src : Src) (s : State) : State :=
  if 3 < g then answer src .badField 0 [] s
  else if s.sst.staging.commitsGroup g then { s with sst := { s.sst with waiting := s.sst.waiting ++ [src] } }
  else seqEvent (.select g src) s

/-! ### Writes (R178) -/

/-- A page write waits for the write in flight (R176). -/
def Staging.begun : Staging → Staging
  | .committing b reply _ => .committing b reply true
  | x => x

/-- A retained write ends: the store has the value, and a waiting page write or the next pending write starts. -/
def completeWrite (i : RetItem) (s : State) : State :=
  { s with sst := { s.sst with store := s.sst.store.withItem i, inFlight := none, staging := s.sst.staging.begun }.kick }

end Sys2Proof.Machine
end

