-- ==== Sys2Proof/Machine/Radio.lean ====
section
/-! DEFINITION. The radio channel: beacons, acknowledgements, remote commands, beacon misses and the station's slot (spec/08). -/

namespace Sys2Proof.Machine

/-! ### The beacon (R168) -/

/-- A command as a beacon carries it. -/
structure RadioCmd where
  station : Nat
  id : Nat
  kind : Nat
  fields : Bytes
  deriving DecidableEq, Repr

/-- A valid beacon. -/
structure Beacon where
  frame : Nat
  time : Nat
  acks : List (Nat × Nat)
  cmds : List RadioCmd
  deriving DecidableEq, Repr

/-- n acknowledgement pairs and what follows them. -/
def parseAcks : Nat → Bytes → Option (List (Nat × Nat) × Bytes)
  | 0, bs => some ([], bs)
  | n + 1, a :: b :: rest =>
    match parseAcks n rest with
    | some (acks, more) => some ((a.toNat, b.toNat) :: acks, more)
    | none => none
  | _ + 1, _ => none

/-- n commands and what follows them. -/
def parseCmds : Nat → Bytes → Option (List RadioCmd × Bytes)
  | 0, bs => some ([], bs)
  | n + 1, st :: id :: kind :: len :: rest =>
    if rest.length < len.toNat then none
    else match parseCmds n (rest.drop len.toNat) with
      | some (cmds, more) => some (⟨st.toNat, id.toNat, kind.toNat, rest.take len.toNat⟩ :: cmds, more)
      | none => none
  | _ + 1, _ => none

/-- The commands of a beacon, which end its body. -/
def parseTail (frame time : Nat) (acks : List (Nat × Nat)) : Bytes → Option Beacon
  | count :: rest =>
    if 2 < count.toNat then none
    else match parseCmds count.toNat rest with
      | some (cmds, []) => some ⟨frame, time, acks, cmds⟩
      | _ => none
  | [] => none

/-- The body of a beacon, from its type byte to the byte before the check. -/
def parseBody : Bytes → Option Beacon
  | type :: f1 :: f2 :: t1 :: t2 :: t3 :: t4 :: acks :: rest =>
    if type.toNat ≠ 0x20 ∨ 15 < acks.toNat then none
    else match parseAcks acks.toNat rest with
      | some (pairs, more) => parseTail (beNat [f1, f2]) (beNat [t1, t2, t3, t4]) pairs more
      | none => none
  | _ => none

/-- A packet taken as a beacon: start, length, check, then the layout (R168, R169). -/
def parseBeacon (bs : Bytes) : Option Beacon :=
  match bs with
  | start :: len :: rest =>
    let inner := len :: rest.take len.toNat
    if start = 0xB6#8 ∧ rest.length = len.toNat + 2 ∧ rest.drop len.toNat = crcBytes inner then
      parseBody (rest.take len.toNat)
    else none
  | _ => none

/-! ### Acknowledgement (R159, R160) -/

/-- The entry in AWAIT_ACK. -/
def Rcc.awaiting (r : Rcc) : Option Entry := r.outbox.find? (·.await)

/-- An acknowledged entry is removed; a STATUS entry takes its carried lost count with it. -/
def Rcc.acknowledged (e : Entry) (r : Rcc) : Rcc :=
  { r with outbox := r.outbox.eraseP (·.await), lost := if e.cls = .status then r.lost - e.carried.getD 0 else r.lost }

/-- An entry that was not acknowledged: at the fourth try one of priority 1..3 is removed and counted lost. A STATUS entry at its fourth
try goes so and leaves another WAITING STATUS entry as it is: DESIGN CHOICE between two sentences of R159, log 53. -/
def Rcc.unacknowledged (e : Entry) (r : Rcc) : Rcc :=
  if 0 < e.cls.priority ∧ 4 ≤ e.tries + 1 then { r with outbox := r.outbox.eraseP (·.await), lost := lostUp r.lost true }
  else { r with outbox := returnAwait true r.outbox }

/-- Step 3 of R151. -/
def Rcc.resolve (station : Nat) (acks : List (Nat × Nat)) (r : Rcc) : Rcc :=
  match r.awaiting with
  | none => r
  | some e =>
    if acks.any (fun x => x.1 == station && some x.2 == e.seqNo) then r.acknowledged e else r.unacknowledged e

/-! ### Remote commands (R161 to R164) -/

/-- The field length of a command kind (R168). -/
def commandLength : Nat → Option Nat
  | 1 => some 0 | 2 => some 0 | 3 => some 5 | 4 => some 4 | 5 => some 1 | 6 => some 0 | 7 => some 4
  | _ => none

/-- The refusal of checks 3 to 6, in order. -/
def commandRefusal (c : RadioCmd) (s : State) : Option Res :=
  if s.hlc.key = .loc then some .refusedLocal
  else if s.sst.globalPage.remotePermitted = false then some .notPermitted
  else match commandLength c.kind with
    | none => some .unknownKind
    | some n => if c.fields.length ≠ n then some .badField else none

/-- A refusal becomes the pending reply and changes no last command id (R161). -/
def refuseCommand (id : Nat) (r : Res) (s : State) : State :=
  { s with rcc := { s.rcc with pending := some ⟨id, r, 0⟩ } }

/-- A repeated command: the stored result, if the owner has given it, becomes the pending reply (R163). -/
def repeatCommand (id : Nat) (s : State) : State :=
  match s.rcc.stored with
  | some (r, d) => { s with rcc := { s.rcc with pending := some ⟨id, r, d⟩ } }
  | none => s

/-- The number in some of a command's field bytes. -/
def RadioCmd.num (c : RadioCmd) (at' n : Nat) : Nat := beNat ((c.fields.drop at').take n)

/-- A command goes to its owner with authority RADIO (R162). -/
def ownCommand (c : RadioCmd) (s : State) : State :=
  let src : Src := .radio c.id
  match c.kind with
  | 1 => seqEvent (.openCmd .radio src) s
  | 2 => seqEvent (.closeCmd .radio src) s
  | 3 =>
    let x := placeTag .radio (c.num 0 2) (c.num 2 1) (c.num 3 2) s
    radioResult c.id x.2.1 0 x.1
  | 4 =>
    let x := tagRemove .radio (c.num 0 2) (c.num 2 2) s
    radioResult c.id x.2 0 x.1
  | 5 => selectGroup (c.num 0 1) src s
  | 6 => radioResult c.id .ok 0 (statusRequest s)
  | _ => radioResult c.id .ok 0 (setTime (c.num 0 4) s)

/-- A command executed (R162). -/
def executeCommand (c : RadioCmd) (s : State) : State :=
  ownCommand c { s with rcc := { s.rcc with lastId := some c.id, stored := none } }

/-- A command checked, in the order of R161. -/
def takeCommand (c : RadioCmd) (s : State) : State :=
  if c.id = 0 then refuseCommand c.id .badField s
  else if s.rcc.lastId = some c.id then repeatCommand c.id s
  else match commandRefusal c s with
    | some r => refuseCommand c.id r s
    | none => executeCommand c s

/-- Step 4 of R151: the first command addressed to this station. -/
def takeCommands (cmds : List RadioCmd) (s : State) : State :=
  match cmds.find? (·.station == s.sst.globalPage.stationId) with
  | some c => takeCommand c s
  | none => s

/-- Step 1 of R151: SYNCED, the timing fixed at 400 ms after the start of slot 0. -/
def Rcc.sync (frame : Nat) (r : Rcc) : Rcc :=
  { r with chan := .synced, frameMs := some 400, beaconSeen := true, missTested := false, slotTaken := false, missCount := 0,
           lastFrame := some frame }

/-- A valid beacon (R151). -/
def takeBeacon (b : Beacon) (s : State) : State :=
  let s1 := beaconTime b.time { s with rcc := s.rcc.sync b.frame }
  let s2 := { s1 with rcc := s1.rcc.resolve s1.sst.globalPage.stationId b.acks }
  takeCommands b.cmds s2

/-! ### Beacon misses (R152) -/

/-- A beacon miss: the fourth loses the channel. -/
def Rcc.miss (r : Rcc) : Rcc :=
  let n := min 4 (r.missCount + 1)
  { r with missCount := n, outbox := returnAwait false r.outbox,
           chan := if n = 4 then .searching else r.chan, frameMs := if n = 4 then none else r.frameMs }

/-- The end of slot 0 (R150, R152): of this frame when its test has not been made, else of the next. The beacon mark serves one test; a
frame without a beacon opens the station's slot again (log 26). -/
def Rcc.endSlotZero (r : Rcc) : Rcc :=
  let ms := if r.missTested then 500 else max 500 (r.frameMs.getD 0)
  let r1 := { r with frameMs := some ms, missTested := true, beaconSeen := false }
  if r.beaconSeen then r1 else { r1 with slotTaken := false }.miss

/-! ### The station's slot (R157, R158) -/

/-- The head of the outbox under a reserve level (R153). -/
def Rcc.head (level : Level) (r : Rcc) : Option Entry :=
  r.outbox.find? fun e => !e.await && permitted level e.cls.priority

/-- An entry at the start of its transmission (R158). -/
def sentEntry (lost seqNo : Nat) (e : Entry) : Entry :=
  { e with await := true, seqNo := some seqNo, carried := if e.cls = .status then some lost else none }

/-- The first entry that satisfies p replaced. -/
def replaceFirst (p : Entry → Bool) (f : Entry → Entry) : List Entry → List Entry
  | [] => []
  | e :: rest => if p e then f e :: rest else e :: replaceFirst p f rest

/-- The outbox and sequence number when an entry is sent (R158). -/
def Rcc.send (level : Level) (e : Entry) (r : Rcc) : Rcc :=
  { r with outbox := replaceFirst (fun x => !x.await && permitted level x.cls.priority)
             (sentEntry r.lost (e.seqNo.getD r.nextSeq)) r.outbox
           nextSeq := if e.seqNo.isSome then r.nextSeq else (r.nextSeq + 1) % 256 }

/-- A report sent (R158). -/
def sendReport (e : Entry) (s : State) : State :=
  let p := reportPacket s e (e.seqNo.getD s.rcc.nextSeq)
  { s with rcc := { s.rcc.send s.bcu.level e with tx := some p } }

/-- The packet of a slot with a clear channel (R157): at EXHAUSTED none. -/
def slotPacket (s : State) : State :=
  if s.bcu.level = .exhausted then s
  else match s.rcc.pending with
    | some r => { s with rcc := { s.rcc with pending := none, tx := some (replyPacket s.sst.globalPage.stationId r) } }
    | none =>
      match s.rcc.head s.bcu.level with
      | some e => sendReport e s
      | none => s

/-- The time up to the start of the own slot (R150): the ends of slot 0 that it passes are tested on the way, that of this frame if it
has not been, and that of the next frame when this frame's slot has begun without the command (log 26). -/
def Rcc.toOwnSlot (station : Nat) (r : Rcc) : Rcc :=
  let r1 := if r.missTested then r else r.endSlotZero
  if r1.frameMs.any (500 * station < ·) then r1.endSlotZero else r1

/-- The station's own slot begins (R157): an occupied channel skips it. -/
def useSlot (carrier : Bool) (s : State) : State :=
  let s1 := { s with rcc := { s.rcc with slotTaken := true, frameMs := some (500 * s.sst.globalPage.stationId) } }
  if carrier then s1 else slotPacket s1

/-- The station's own slot, once in a frame, in SYNCED alone (R150, R157). -/
def takeSlot (carrier : Bool) (s : State) : State :=
  let s1 := { s with rcc := s.rcc.toOwnSlot s.sst.globalPage.stationId }
  if s1.rcc.chan = .synced then useSlot carrier s1 else s1

end Sys2Proof.Machine
end

