-- ==== Sys2Proof/Machine/HostLink.lean ====
section
/-! DEFINITION. The host link: the receiver, the receive queue, the requests' codes and bodies, and serving one request at a time
(spec/10). -/

namespace Sys2Proof.Machine

/-! ### Codes and bodies (R185) -/

/-- A request whose body must have n bytes. -/
def sized (body : Bytes) (n : Nat) (r : Request) : Request := if body.length = n then r else .badLength

/-- The number in n bytes of a body from a place. -/
def field (body : Bytes) (at' n : Nat) : Nat := beNat ((body.drop at').take n)

/-- A four-byte number as signed. -/
def signed4 (n : Nat) : Int := if n < 2147483648 then n else (n : Int) - 4294967296

/-- The request of a kind and a body (R184 steps 2 and 3, R185). -/
def parseRequest (kind : Byte) (body : Bytes) : Request :=
  match kind.toNat with
  | 0x01 => sized body 0 .identify
  | 0x02 => sized body 0 .readMeasure
  | 0x03 => sized body 2 (.readState (field body 0 1) (field body 1 1))
  | 0x10 => sized body 0 .openBreaker
  | 0x11 => sized body 0 .closeBreaker
  | 0x12 => sized body 0 .mechFailClear
  | 0x20 => sized body 5 (.tagPlace (field body 0 2) (field body 2 1) (field body 3 2))
  | 0x21 => sized body 4 (.tagRemove (field body 0 2) (field body 2 2))
  | 0x22 => sized body 2 (.tagClear (field body 0 2))
  | 0x23 => sized body 3 (.tagRead (field body 0 1) (field body 1 2))
  | 0x30 => sized body 4 (.recordRead (field body 0 4))
  | 0x31 => sized body 1 (.wearReset (field body 0 1))
  | 0x32 => sized body 4 (.timeSet (field body 0 4))
  | 0x40 => sized body 0 .testStart
  | 0x41 => sized body 0 .testCancel
  | 0x50 => sized body 2 (.stageOpen (field body 0 1) (field body 1 1))
  | 0x51 => sized body 5 (.stageLoad (signed4 (field body 0 4)) (field body 4 1))
  | 0x52 => sized body 1 (.stageSeek (field body 0 1))
  | 0x53 => sized body 0 .stageRead
  | 0x54 => sized body 0 .commit
  | 0x55 => sized body 1 (.groupSelect (field body 0 1))
  | 0x60 => sized body 0 .restart
  | _ => .unknownKind

/-! ### Serving a request (R184) -/

/-- The authority of a request from the debounced key switch (R184). -/
def keyAuthority : Key → Authority
  | .loc => .loc
  | .remote => .link

/-- MECH_FAIL_CLEAR (spec/03 R64). -/
def serveMechFailClear (a : Authority) (s : State) : State :=
  if a ≠ .loc then hostReply .authority [] s
  else hostReply (mechFailCleared s).2 [] (mechFailCleared s).1

/-- TAG_PLACE (spec/05 R93). -/
def serveTagPlace (a : Authority) (crew mode expiry : Nat) (s : State) : State :=
  let x := placeTag a crew mode expiry s
  hostReply x.2.1 (placedReply x.2.2) x.1

/-- WEAR_RESET (spec/07 R143). The rule gives its two refusals no order: the authority is tested first, DESIGN CHOICE, log 55. -/
def serveWearReset (a : Authority) (phase : Nat) (s : State) : State :=
  if a ≠ .loc then hostReply .authority [] s
  else match phaseOf phase with
    | none => hostReply .badField [] s
    | some p => hostReply .ok (be4 (s.orl.phase p).count) (resetWear p s)

/-- BATTERY_TEST_START (spec/06 R125). -/
def serveTestStart (s : State) : State :=
  match testRefusal s with
  | some r => hostReply r [] s
  | none => hostReply .ok [] { s with bcu := s.bcu.startTest .request }

/-- COMMIT (spec/09 R175): an accepted commit is answered at its completion. -/
def serveCommit (s : State) : State :=
  match commitRefusal s with
  | some r => hostReply r.1 r.2 s
  | none => beginCommit s

/-- RESTART (spec/09 R180, spec/10 R183): the reply is placed, waiting frames are discarded, the charge count is kept as it stands
(spec/06 R118). -/
def serveRestart (s : State) : State :=
  if s.act.state ≠ .idle ∨ s.sst.staging.isCommitting = true then hostReply .busy [] s
  else
    let s1 := hostReply .ok [] s
    { s1 with restarting := some s.bcu.charge, hlc := { s1.hlc with queue := [], rx := [] } }

/-- READ_STATE (R186). -/
def stateSection (sect start : Nat) (s : State) : Option Bytes :=
  match sect with
  | 0 => some (seqSection s)
  | 1 => some (peuSection s.peu)
  | 2 => some (actSection s.act)
  | 3 => some (tagSection s.tag.table start)
  | 4 => some (bcuSection s.bcu start)
  | 5 => some (orlSection s.orl)
  | 6 => some (rccSection s.rcc s.sst.globalPage.stationId start)
  | 7 => some (sstSection s.sst)
  | _ => none

/-- READ_STATE (R186). -/
def serveReadState (sect start : Nat) (s : State) : State :=
  match stateSection sect start s with
  | some b => hostReply .ok b s
  | none => hostReply .badField [] s

/-- The current request at its owner. -/
def serve (a : Authority) (r : Request) (s : State) : State :=
  match r with
  | .identify => hostReply .ok identity s
  | .readMeasure => hostReply .ok (measureReply s) s
  | .readState sect start => serveReadState sect start s
  | .openBreaker => seqEvent (.openCmd a .host) s
  | .closeBreaker => seqEvent (.closeCmd a .host) s
  | .mechFailClear => serveMechFailClear a s
  | .tagPlace crew mode expiry => serveTagPlace a crew mode expiry s
  | .tagRemove number crew => hostReply (tagRemove a number crew s).2 [] (tagRemove a number crew s).1
  | .tagClear number => hostReply (tagClear a number s).2 [] (tagClear a number s).1
  | .tagRead selector value =>
    hostReply (tagReadAnswer selector value s.tag.table).1 (tagReadAnswer selector value s.tag.table).2 s
  | .recordRead n => hostReply (recordReadAnswer n s.orl).1 (recordReadAnswer n s.orl).2 s
  | .wearReset phase => serveWearReset a phase s
  | .timeSet t => hostReply .ok [] (setTime t s)
  | .testStart => serveTestStart s
  | .testCancel => hostReply .ok (flag (s.bcu.test == .idle)) (cancelTest s)
  | .stageOpen kind number => hostReply (stageOpen kind number s).2.1 (stageOpen kind number s).2.2 (stageOpen kind number s).1
  | .stageLoad value advance => hostReply (stageLoad value advance s).2 [] (stageLoad value advance s).1
  | .stageSeek f => hostReply (stageSeek f s).2 [] (stageSeek f s).1
  | .stageRead => hostReply (stageReadAnswer s.sst.staging).1 (stageReadAnswer s.sst.staging).2 s
  | .commit => serveCommit s
  | .groupSelect g => selectGroup g .host s
  | .restart => serveRestart s
  | .unknownKind => hostReply .unknownKind [] s
  | .badLength => hostReply .badField [] s

/-! ### The queue and the current request (R183, R184) -/

/-- The oldest waiting frame becomes the current request and is served. -/
def serveNext (s : State) : State :=
  match s.hlc.queue with
  | [] => s
  | f :: rest =>
    serve (keyAuthority s.hlc.key) f.req { s with hlc := { s.hlc with queue := rest, current := some f } }

/-- A frame is taken when none is current and requests are served (R183; from READY on, spec/09 R180). -/
def mayServe (s : State) : Bool := s.stage == .running && s.restarting.isNone && s.hlc.current.isNone

/-- Requests served while one can be taken, at most n of them (log 29). -/
def pumpFor : Nat → State → State
  | 0, s => s
  | n + 1, s => if mayServe s then pumpFor n (serveNext s) else s

/-- All that can be served: at most the four that wait and one that has just arrived (log 29). -/
def pump (s : State) : State := pumpFor 5 s

/-- Frames that wait at most (R183). -/
def queueTop : Nat := 4

/-- A received frame joins the queue, or is answered BUSY (R183, R187). -/
def queueFrame (f : RxFrame) (s : State) : State :=
  if s.hlc.queue.length < queueTop then { s with hlc := { s.hlc with queue := s.hlc.queue ++ [f] } }
  else if s.hlc.tx.length < busyTop then placeFrame (replyFrame f .busy []) s
  else s

/-- A received frame (R183, R184): discarded in a start and from an accepted RESTART on. -/
def receive (f : RxFrame) (s : State) : State := if s.deaf then s else pump (queueFrame f s)

/-! ### The receiver (R182) -/

/-- The longest body. -/
def lengthTop : Nat := 96

/-- The start byte. -/
def startByte : Byte := 0xD2#8

/-- A frame of a kind, a tag and a body. -/
def rxFrame (kind tag : Byte) (body : Bytes) : RxFrame := ⟨kind, tag, parseRequest kind body⟩

/-- What the receiver finds in the bytes it holds: hunting goes on one byte later, more bytes are needed, or a frame passed. -/
inductive Scan | hunt (rest : Bytes) | wait | frame (f : RxFrame) (rest : Bytes)
  deriving DecidableEq, Repr

/-- A candidate from the byte after its start byte (R182). -/
def scanFrame (after : Bytes) : Scan :=
  match after with
  | len :: kind :: tag :: rest =>
    let n := len.toNat
    if lengthTop < n then .hunt (kind :: tag :: rest)
    else if rest.length < n + 2 then .wait
    else if (rest.drop n).take 2 = crcBytes (len :: kind :: tag :: rest.take n) then
      .frame (rxFrame kind tag (rest.take n)) (rest.drop (n + 2))
    else .hunt after
  | len :: rest => if lengthTop < len.toNat then .hunt rest else .wait
  | [] => .wait

/-- One look at the bytes held. -/
def scan (bs : Bytes) : Scan :=
  match bs with
  | [] => .wait
  | b :: rest => if b = startByte then scanFrame rest else .hunt rest

/-- The bytes held are looked at until more are needed; every look but the last drops a byte, which bounds them (R182). -/
def receiveBytes : Nat → Bytes → State → State
  | 0, bs, s => { s with hlc := { s.hlc with rx := bs } }
  | n + 1, bs, s =>
    match scan bs with
    | .hunt rest => receiveBytes n rest s
    | .wait => { s with hlc := { s.hlc with rx := bs } }
    | .frame f rest => receiveBytes n rest (receive f s)

/-- Bytes on HRX (R182, R183). -/
def feed (bytes : Bytes) (s : State) : State :=
  if s.deaf then s else receiveBytes (s.hlc.rx.length + bytes.length + 1) (s.hlc.rx ++ bytes) s

end Sys2Proof.Machine
end

