-- ==== Sys2Proof/Machine/Starts.lean ====
section
/-! DEFINITION. The starts and stops of the part (spec/09 R179, R180): the start of each block, the start reading and what follows it,
and the loss of supply. -/

namespace Sys2Proof.Machine

/-! ### The blocks are started (spec/09 R180 steps 2 and 3) -/

/-- A phase's wear at the start of ORL (spec/07 R142). -/
def PhaseWear.start (budget count : Nat) : PhaseWear :=
  ⟨count, wearPercent budget count, markOf (wearPercent budget count)⟩

/-- The start of ORL (spec/07 R140): a warm start keeps ring, counts and time. -/
def startOrl (k : StartKind) (st : Store) (o : Orl) : Orl :=
  let budget := st.globalPage.wearBudget
  let kept : Orl := match k with
    | .cold =>
      { Orl.idle with ring := st.ring, next := st.next, opCount := st.opCount,
                      wearA := ⟨st.wear.a, 0, .none⟩, wearB := ⟨st.wear.b, 0, .none⟩, wearC := ⟨st.wear.c, 0, .none⟩ }
    | .warm => o
  let o1 := { kept with wearA := .start budget kept.wearA.count, wearB := .start budget kept.wearB.count,
                        wearC := .start budget kept.wearC.count, sec := 0, capture := none, part := none, waiting := [] }
  { o1 with limit := o1.anyWorn }

/-- The start of the RCC (spec/08 R165): an entry in AWAIT_ACK returns, as it does already when a warm start begins. -/
def startRcc (k : StartKind) (p : Page) (r : Rcc) : Rcc :=
  let kept : Rcc := match k with
    | .cold => Rcc.idle
    | .warm => { Rcc.idle with outbox := returnAwait false r.outbox, lost := r.lost, nextSeq := r.nextSeq,
                               nextOrder := r.nextOrder, lastId := r.lastId, stored := r.stored }
  { kept with chan := if p.stationId = 0 then .silent else .searching, statusLeft := statusCountdown p }

/-- The charge count at the start of the BCU (spec/06 R118). -/
def startCharge (k : StartKind) (st : Store) (running : Nat) : Nat :=
  match k with
  | .warm => running
  | .cold => match st.charge with
    | some c => min (fullCount st.globalPage.capacity) c
    | none => fullCount st.globalPage.capacity * 50 / 100

/-- The start of the BCU with its first measurement, which moves no charge (spec/06 R110 to R116, R118, R121, R123 to R126, R132). -/
def startBcu (k : StartKind) (st : Store) (m : BattMeas) (running : Nat) : Bcu :=
  let p := st.globalPage
  let c := startCharge k st running
  let soc := socOf (fullCount p.capacity) c
  let b := { Bcu.idle true with charge := c, soc := soc, meas := clampMeas m, level := startLevel soc, measCount := 1,
                                history := st.history, countdown := testCountdown p }
  (b.formSetpoints.chargerStep p.capacity).runs

/-- The start of ACT with its first measurement (spec/04 R86). -/
def startAct (st : Store) (volts pulses : Nat) : Act :=
  { Act.idle (clampVolts volts) pulses with mech := st.mech, converter := converterFrom (clampVolts volts) }

/-- The start of the HLC's key switch: the position at the end of the start delay (spec/10 R184). -/
def startHlc (k : Key) : Hlc := { Hlc.idle with key := k, keyRaw := k, keyRun := 20 }

/-- The retained items are loaded and the blocks started. A loss of supply is not forgotten (R179). -/
def startBlocks (k : StartKind) (inp : StartInputs) (s : State) : State :=
  let st := s.sst.store
  { s with stage := .starting k, restarting := none, lsu := .start st.globalPage, peu := .fresh, seq := .undecided,
           act := startAct st inp.cap s.act.pulses, tag := ⟨st.tags, 0⟩, bcu := startBcu k st inp.batt s.bcu.charge,
           orl := startOrl k st s.orl, rcc := startRcc k st.globalPage s.rcc,
           sst := { Sst.idle st with lost := s.sst.lost, lostMs := s.sst.lostMs }, hlc := startHlc inp.key }

/-! ### The start reading (spec/03 R66, spec/07 R140, spec/10 R188) -/

/-- The state and cause SEQ starts with (R66). -/
def startDecision (p : Position) (mech : Bool) (lockout : Option Cause) : SeqState × Option Cause :=
  if mech then (.mechFail, none)
  else match p with
    | .isOpen => (.lockout, some (lockout.getD .restart))
    | .closed => (.closed, none)
    | .unknown => (.lockout, some .restart)

/-- SEQ decides, without clearing elements and without a record, and queues its write (R66). -/
def decideStart (p : Position) (s : State) : State :=
  let d := startDecision p s.act.mech s.sst.store.lockout
  let s1 := seqTo d.1 { s with seq := { s.seq with cause := d.2 } }
  queueWrite (lockoutItem s1) s1

/-- What waited for the RESTART record: a record takes its number now and keeps its stamp (log 11). -/
def release (x : Held) (s : State) : State :=
  match x with
  | .record body time valid => enterRecord ⟨s.orl.next, body, time, valid⟩ s
  | .status => makeStatus s

/-- READY, the RESTART record, and then what waited for it, in order (spec/07 R140, spec/08 R165, spec/10 R188, log 11). -/
def announceStart (k : StartKind) (s : State) : State :=
  let waiting := s.orl.waiting
  let body : RecBody := .restart k (s.orl.ring.head?.map (·.number)) (s.orl.ring.getLast?.map (·.number))
  let s1 := { placeNotice (readyNotice k) s with stage := .running }
  waiting.foldl (fun t x => release x t) (completeNow body { s1 with orl := { s1.orl with waiting := [] } })

/-- The events held for SEQ are taken in order (R66). -/
def takeHeldEvents (s : State) : State :=
  s.seq.events.foldl (fun t e => takeEvent e t) { s with seq := { s.seq with decided := true, events := [] } }

/-- The start reading and the end of the start. -/
def startReading (k : StartKind) (p : Position) (s : State) : State :=
  let s1 := { s with act := { s.act with position := p, startRead := true } }
  pump (takeHeldEvents (announceStart k (decideStart p s1)))

/-! ### Contacts (spec/04 R68 to R70, R73, R74, R78) -/

/-- One contact read for ms milliseconds. -/
def readContact (c : Contact) (x : ContactState) (ms : Nat) (a : Act) : Act :=
  match c with
  | .openContact => { a with openC := debounce a.openC x ms }
  | .closedContact => { a with closedC := debounce a.closedC x ms }

/-- The position of two debounced contacts, if both have a state. -/
def Act.decoded (a : Act) : Option Position :=
  match a.openC.stable, a.closedC.stable with
  | some o, some c => some (decodePosition o c)
  | _, _ => none

/-- The pulse or held trip that a change to a position ends. -/
def endByPosition (p : Position) (fin : PulseEnd) (s : State) : State :=
  match s.act.state, p with
  | .tripPulse, .isOpen => endTrip .done (s.act.pulseMs.getD 0) fin s
  | .tripHeld, .isOpen => endHeldTrip fin s
  | .closePulse, .closed => endClose .done (s.act.pulseMs.getD 0) fin s
  | _, _ => s

/-- A position change: it may end a pulse, and SEQ is told (R69). R69 lets SEQ take the completion and the change in either order; here it
takes the completion first: DESIGN CHOICE, log 54. -/
def changePosition (p : Position) (fin : PulseEnd) (s : State) : State :=
  seqEvent (.position p) (endByPosition p fin { s with act := { s.act with position := p } })

/-- A position formed from the contacts: the start reading, or a change, or nothing new. -/
def takePosition (p : Position) (fin : PulseEnd) (s : State) : State :=
  match s.stage with
  | .starting k => startReading k p s
  | _ => if p = s.act.position then s else pump (changePosition p fin s)

/-- A contact's reading (R68). -/
def contactRead (c : Contact) (x : ContactState) (ms : Nat) (fin : PulseEnd) (s : State) : State :=
  let s1 := { s with act := readContact c x ms s.act }
  match s1.act.decoded with
  | some p => takePosition p fin s1
  | none => s1

/-! ### The capacitor (spec/04 R82 to R84, R73, R74) -/

/-- A held trip is released at the trip minimum (R73). -/
def releaseHeld (s : State) : State :=
  if s.act.state = .tripHeld ∧ s.act.tripReady = true then beginTrip s else s

/-- A trip pulse at its 120 ms ends NO_MOVE at the next measurement, which is the first at or after the coil turned off and so its voltage
after (R74). Of R137's two orders the model takes ACT's part first here: DESIGN CHOICE, log 49. -/
def endSpent (volts : Nat) (s : State) : State :=
  if s.act.spent then endTrip .noMove tripPulseMs ⟨volts, true⟩ s else s

/-- Recharge demand set suspends a load test; cleared it may resume one (spec/06 R129, R130). -/
def rechargeReview (before : Bool) (s : State) : State :=
  if before = false ∧ s.act.rechargeDemand = true then { s with bcu := s.bcu.suspend }
  else if before = true ∧ s.act.rechargeDemand = false then resumeTest s
  else s

/-- One capacitor measurement (R82): converter, the end of a trip pulse at its 120 ms, held trip, recharge demand, energy-ready event. The
order of these is the model's: DESIGN CHOICE, log 59. -/
def measureCap (volts : Nat) (s : State) : State :=
  let v := clampVolts volts
  let before := s.act.rechargeDemand
  let s1 := { s with act := { s.act with cap := v, converter := converterStep s.act.converter v } }
  let s2 := rechargeReview before (releaseHeld (endSpent v s1))
  if before = true ∧ s1.act.rechargeDemand = false then seqEvent .energyReady s2 else s2

/-! ### Stops and losses (spec/06 R123; spec/09 R179, R180) -/

/-- Who waits is not the host. -/
def Src.isRadio : Src → Bool
  | .host => false
  | .radio _ => true

/-- A held event that a host request left is discarded with the request (spec/10 R183). -/
def SeqEvent.fromHost : SeqEvent → Bool
  | .openCmd _ .host => true
  | .closeCmd _ .host => true
  | .select _ .host => true
  | _ => false

/-- A commit whose host has gone sends no reply (R179). -/
def Staging.mute : Staging → Staging
  | .committing b _ w => .committing b false w
  | x => x

/-- The logic supply is lost (R179, spec/10 R183, log 24). -/
def loseSupply (s : State) : State :=
  { s with sst := { s.sst with lost := true, lostMs := 0, staging := s.sst.staging.mute, waiting := s.sst.waiting.filter Src.isRadio }
           hlc := { s.hlc with queue := [], current := none }
           seq := { s.seq with heldClose := s.seq.heldClose.filter Src.isRadio, events := s.seq.events.filter (!SeqEvent.fromHost ·) } }

/-- The store with the retained write in flight completed. -/
def Sst.written (x : Sst) : Store :=
  match x.inFlight with
  | some i => x.store.withItem i
  | none => x.store

/-- The store with the page write in progress completed, if one has begun. -/
def Sst.paged (x : Sst) (st : Store) : Store :=
  match x.staging with
  | .committing b _ true => st.withPage b.target (storedPage b.target b.page)
  | _ => st

/-- The store when the running state ends: a write in flight may have landed (log 21). A retained write in flight at a loss of supply
has, for the hold-up completes it (R179, spec/07 R140). -/
def Sst.landed (land : Bool) (x : Sst) : Store :=
  let st := if land || x.lost then x.written else x.store
  if land then x.paged st else st

/-- What the outside would settle about a pulse that the part ends with no measurement to come: the voltage after is a free value, ACT's
part comes first (log 28, log 49). -/
def quietEnd (s : State) : PulseEnd := ⟨Config.voltageAfter s.act.pulses, true⟩

/-- A pulse in progress run to its end of itself, with its completion handed on (spec/04 R74, R78). -/
def runOutPulse (s : State) : State :=
  match s.act.state with
  | .tripPulse => endTrip .noMove tripPulseMs (quietEnd s) s
  | .closePulse => endClose .noMove closePulseMs (quietEnd s) s
  | .idle => s
  | .tripHeld => s

/-- The hold-up ends: a write in flight has completed, a page write has not, and the part stops (R179). -/
def holdUpEnd (s : State) : State :=
  .blank .stopped s.sst.written s.bcu.connected s.act.cap s.act.pulses s.pending

/-- The running state ends and a cold start begins (R180). -/
def beginCold (land : Bool) (s : State) : State :=
  .blank (.startDelay .cold) (s.sst.landed land) s.bcu.connected s.act.cap s.act.pulses s.pending

/-- A cold start. One that follows a loss of supply finds the pulse that the hold-up supply has completed (spec/04 R86, log 45). -/
def coldStart (land : Bool) (s : State) : State := beginCold land (if s.sst.lost then runOutPulse s else s)

/-- The hold-up supply, which lasts 200 ms at least, keeps a pulse to its end (R179, spec/04 R74, R78). -/
def holdUpOver (s : State) : Bool := s.sst.lost && decide (200 ≤ s.sst.lostMs) && !s.act.state.pulsing

/-- A warm start begins; what it keeps stays in place until the blocks are started (R180; spec/06 R118; spec/07 R140; spec/08 R165). -/
def warmStart (s : State) : State :=
  let b : State := .blank (.startDelay .warm) s.sst.store s.bcu.connected s.act.cap s.act.pulses s.pending
  { b with orl := { s.orl with sec := 0, capture := none, part := none, waiting := [] },
           bcu := { b.bcu with charge := s.restarting.getD s.bcu.charge, soc := s.bcu.soc },
           rcc := { Rcc.idle with outbox := returnAwait false s.rcc.outbox, lost := s.rcc.lost, nextSeq := s.rcc.nextSeq,
                                  nextOrder := s.rcc.nextOrder, lastId := s.rcc.lastId, stored := s.rcc.stored } }

/-- The reply of an accepted RESTART waits on the transmit list (spec/10 R187, log 25). -/
def restartReplyWaits (s : State) : Bool := s.hlc.tx.any fun f => f.kind == 0xE0#8

/-- The warm start may begin (R180). After a loss of supply the next start is a cold one (R179). -/
def warmReady (s : State) : Bool :=
  s.stage == .running && !s.sst.lost && s.restarting.isSome && s.sst.drained && s.act.state == .idle && !restartReplyWaits s

/-- The part may stop (spec/06 R123). -/
def stopReady (s : State) : Bool :=
  s.stage.started && s.bcu.shutdown == some .writeWait && s.sst.drained && !s.act.state.pulsing

/-- The part stops at exhaustion: the disconnect opens and running state is lost (spec/06 R123). -/
def stopPart (s : State) : State := .blank .stopped s.sst.store false s.act.cap s.act.pulses s.pending

/-! ### The key switch (spec/10 R184) -/

/-- The key switch read for ms milliseconds (log 8). -/
def readKey (x : Key) (ms : Nat) (h : Hlc) : Hlc :=
  let run := if h.keyRaw = x then min 20 (h.keyRun + ms) else min 20 ms
  { h with keyRaw := x, keyRun := run, key := if run = 20 then x else h.key }

/-! ### Running time (log 1) -/

/-- A timer run down by one millisecond. -/
def down (x : Option Nat) : Option Nat := x.map (· - 1)

/-- A count run up by one millisecond and held at its top. -/
def upTo (top n : Nat) : Nat := min top (n + 1)

/-- One millisecond at ACT (spec/04 R71). -/
def Act.tick (a : Act) : Act :=
  { a with pulseMs := match a.state with
             | .tripPulse => a.pulseMs.map (upTo tripPulseMs)
             | .closePulse => a.pulseMs.map (upTo closePulseMs)
             | .idle => a.pulseMs
             | .tripHeld => a.pulseMs
           heldMs := if a.state = .tripHeld then a.heldMs.map (· + 1) else a.heldMs
           startMs := if a.startRead then a.startMs else upTo 100 a.startMs }

/-- One millisecond at SEQ; reclaim is suspended while the PEU times (spec/03 R59). -/
def Seq.tick (timing : Bool) (q : Seq) : Seq :=
  { q with deadLeft := down q.deadLeft, holdLeft := down q.holdLeft,
           reclaimLeft := if timing then q.reclaimLeft else down q.reclaimLeft }

/-- One millisecond at the BCU (spec/06 R122, R124). -/
def Bcu.tick (b : Bcu) : Bcu :=
  { b with settleMs := if b.test = .settling then upTo 5000 b.settleMs else b.settleMs
           loadMs := if b.test = .loaded then upTo 30000 b.loadMs else b.loadMs
           suspMs := if b.test = .suspended then upTo 600000 b.suspMs else b.suspMs
           tripWaitMs := if b.shutdown = some .tripWait then upTo 30000 b.tripWaitMs else b.tripWaitMs }

/-- One millisecond of the frame timing (spec/08 R150). -/
def Rcc.tick (r : Rcc) : Rcc :=
  { r with frameMs := r.frameMs.map fun n => (n + 1) % 8000,
           missTested := if r.frameMs = some 7999 then false else r.missTested }

/-- One millisecond since a loss of supply (R179). -/
def Sst.tick (x : Sst) : Sst := { x with lostMs := if x.lost then x.lostMs + 1 else x.lostMs }

/-- One millisecond of running time. In the start delay the hold-up alone is counted. -/
def tick (s : State) : State :=
  let s1 := { s with sst := s.sst.tick }
  if s.stage.started then
    { s1 with act := s.act.tick, seq := s.seq.tick s.peu.timing, bcu := s.bcu.tick, rcc := s.rcc.tick }
  else s1

end Sys2Proof.Machine
end

