-- ==== Sys2Proof/Machine/Events.lean ====
section
/-! DEFINITION. The meanings of the commands that are not host requests: one definition per row of spec/opcode_table.json. A command
that names the end of a count takes that count to its end (log 3); one that meets a state in which its event cannot happen changes
nothing (log 4). -/

namespace Sys2Proof.Machine

/-- The three outcomes at this machine. -/
abbrev Result := Host.Outcome State Fault Refusal

/-- An event that can happen only where a condition holds (log 4). -/
def happens (can : Bool) (after : State) (s : State) : Result := .next (if can then after else s)

/-- An event of a block that has been started (spec/09 R180). -/
def whenStarted (after : State) (s : State) : Result := happens s.stage.started after s

/-! ### Starts and supply (spec/09 R179, R180; spec/06 R123) -/

/-- COLD_START (R180). -/
def execColdStart (landed : Bool) (s : State) : Result := .next (coldStart landed s)

/-- START_DELAY_END (R180). -/
def execStartDelayEnd (inp : StartInputs) (s : State) : Result :=
  match s.stage with
  | .startDelay k => .next (startBlocks k inp s)
  | .stopped => .next s
  | .starting _ => .next s
  | .running => .next s

/-- WARM_START (R180). -/
def execWarmStart (s : State) : Result := happens (warmReady s) (warmStart s) s

/-- SUPPLY_LOSS (R179): the part runs on the hold-up supply. -/
def execSupplyLoss (s : State) : Result := happens (s.stage != .stopped && !s.sst.lost) (loseSupply s) s

/-- HOLD_UP_END (R179): not before 200 ms after the loss, nor in a pulse. -/
def execHoldUpEnd (s : State) : Result := happens (holdUpOver s) (holdUpEnd s) s

/-- PART_STOP (spec/06 R123). -/
def execPartStop (s : State) : Result := happens (stopReady s) (stopPart s) s

/-! ### The line (spec/01, spec/02; occasions log 2) -/

/-- A magnitude update, whole, where its occasion is met; a block that is not 16 sample sets is no update (log 5). -/
def updateWhen (can : Bool) (block : List SampleSet) (s : State) : Result :=
  if blockOk block then whenStarted (if can then pump (magnitudeUpdate block s) else s) s else .fault .blockLength

/-- MAGNITUDE_UPDATE (spec/01 R3). -/
def execMagnitudeUpdate (block : List SampleSet) (s : State) : Result := updateWhen true block s

/-- LIVE_QUALIFIED (spec/01 R13). -/
def execLiveQualified (side : Side) (block : List SampleSet) (s : State) : Result :=
  updateWhen (sideBecomes .live side block s) block s

/-- DEAD_QUALIFIED (spec/01 R13). -/
def execDeadQualified (side : Side) (block : List SampleSet) (s : State) : Result :=
  updateWhen (sideBecomes .dead side block s) block s

/-- ELEMENT_OPERATE (spec/02 R31). -/
def execElementOperate (block : List SampleSet) (s : State) : Result :=
  updateWhen (elementOperates block s) block s

/-! ### SEQ's timers (spec/03 R52, R54, R55, R59) -/

/-- DEAD_TIMER_EXPIRY (R52). -/
def execDeadTimerExpiry (s : State) : Result :=
  happens (s.seq.state == .deadTime) (deadTimeEnd s) s

/-- HOLD_TIMER_EXPIRY (R54, R55). -/
def execHoldTimerExpiry (s : State) : Result :=
  happens (s.seq.state == .recloseHold) (holdEnd s) s

/-- RECLAIM_TIMER_EXPIRY (R59): a timer suspended by the PEU does not expire. -/
def execReclaimTimerExpiry (s : State) : Result :=
  happens (s.seq.state == .reclaim && !s.peu.timing) (enterClosed s) s

/-! ### ACT (spec/04) -/

/-- CONTACT_DEBOUNCED (R68 to R70). -/
def execContactDebounced (contact : Contact) (reading : ContactState) (ms : Nat) (fin : PulseEnd) (s : State) : Result :=
  whenStarted (contactRead contact reading ms fin s) s

/-- START_READING_TIMEOUT (R70). -/
def execStartReadingTimeout (s : State) : Result :=
  match s.stage with
  | .starting k => .next (startReading k .unknown s)
  | .stopped => .next s
  | .startDelay _ => .next s
  | .running => .next s

/-- CAPACITOR_MEASUREMENT (R82 to R84). -/
def execCapacitorMeasurement (volts : Nat) (s : State) : Result := whenStarted (measureCap volts s) s

/-- TRIP_PULSE_TIMEOUT (R74). -/
def execTripPulseTimeout (fin : PulseEnd) (s : State) : Result :=
  happens (s.act.state == .tripPulse) (pump (endTrip .noMove tripPulseMs fin s)) s

/-- CLOSE_PULSE_TIMEOUT (R78). -/
def execClosePulseTimeout (fin : PulseEnd) (s : State) : Result :=
  happens (s.act.state == .closePulse) (pump (endClose .noMove closePulseMs fin s)) s

/-! ### Time (spec/07 R145; occasions log 2) -/

/-- The time base runs in a warm start's start delay too, where no minute is raised (R145, log 34). -/
def execTimeBaseSecond (s : State) : Result :=
  match s.stage with
  | .starting _ => .next (runSecond s)
  | .running => .next (runSecond s)
  | .startDelay .warm => .next (advanceTime 1 s)
  | .startDelay .cold => .next s
  | .stopped => .next s

/-- MINUTE_EVENT (R145). -/
def execMinuteEvent (s : State) : Result := whenStarted (completeMinute s) s

/-- TAG_EXPIRY (spec/05 R101): the minute event at which a tag expires, one restored with 0 remaining minutes among them. That such a tag
expires at the next minute event, so that the command is that event where it is the only one, is a DESIGN CHOICE, log 64. -/
def execTagExpiry (s : State) : Result :=
  happens (s.stage.started && s.tag.table.tags.any (·.left.any (· ≤ 1))) (completeMinute s) s

/-- TAG_HOURLY_WRITE (spec/05 R103): the 60th minute event, with a tag that counts on after it. Where the only tag that counts has one
minute left it does nothing: DESIGN CHOICE, log 65. -/
def execTagHourlyWrite (s : State) : Result :=
  happens (s.stage.started && s.tag.minutes == 59 && s.tag.table.tags.any (fun x => x.left.any (2 ≤ ·))) (completeMinute s) s

/-- SCHEDULED_TEST_DUE (spec/06 R126): the minute event at which the countdown reaches 0. -/
def execScheduledTestDue (s : State) : Result :=
  happens (s.stage.started && s.bcu.countdown == some 1) (completeMinute s) s

/-- STATUS_INTERVAL_DUE (spec/08 R155): the minute event at which the countdown reaches 0. -/
def execStatusIntervalDue (s : State) : Result :=
  happens (s.stage.started && s.rcc.statusLeft == some 1) (completeMinute s) s

/-! ### The battery (spec/06; occasions log 2) -/

/-- A battery measurement, whole, where its occasion is met. -/
def measureWhen (can : Bool) (m : BattMeas) (r : TestReading) (s : State) : Result :=
  whenStarted (if can then pump (battMeasure m r s) else s) s

/-- BATTERY_MEASUREMENT (R110). -/
def execBatteryMeasurement (m : BattMeas) (r : TestReading) (s : State) : Result := measureWhen true m r s

/-- ABSORB_TIME_LIMIT (R113): the measurement at which the ABSORB time reaches 14,400. -/
def execAbsorbTimeLimit (m : BattMeas) (r : TestReading) (s : State) : Result :=
  measureWhen (s.bcu.charger == .absorb && s.bcu.absorbTime == 14399 && m.supply && !faultCondition (clampMeas m)) m r s

/-- FLOAT_LOW_RUN_LIMIT (R113): the measurement at which the FLOAT low run reaches 60. -/
def execFloatLowRunLimit (m : BattMeas) (r : TestReading) (s : State) : Result :=
  measureWhen (s.bcu.charger == .float && s.bcu.floatLow == 59 && m.supply && !faultCondition (clampMeas m) &&
    decide (((clampMeas m).mv : Int) < floatSetpoint (clampMeas m).temp - 600)) m r s

/-- FAULT_CLEAR_RUN_COMPLETE (R114): the measurement at which the FAULT clear run reaches 600. -/
def execFaultClearRunComplete (m : BattMeas) (r : TestReading) (s : State) : Result :=
  measureWhen (s.bcu.charger == .fault && s.bcu.faultClear == 599 && clearMeasurement (clampMeas m)) m r s

/-- RESYNC_RUN_COMPLETE (R117): a measurement at which the run stands at 3,600. -/
def execResyncRunComplete (m : BattMeas) (r : TestReading) (s : State) : Result :=
  measureWhen (resyncRun s.sst.globalPage.capacity (clampMeas m) s.bcu == 3600) m r s

/-- CHARGE_COUNT_WRITE (R118): every 600th measurement. -/
def execChargeCountWrite (m : BattMeas) (r : TestReading) (s : State) : Result :=
  measureWhen (s.bcu.measCount == 599) m r s

/-- TRIP_WAIT_TIMEOUT (R122): with ACT in TRIP_PULSE the BCU goes on waiting. -/
def execTripWaitTimeout (s : State) : Result :=
  happens (s.bcu.shutdown == some .tripWait)
    { s with bcu := { s.bcu with tripWaitMs := 30000, shutdown := some (if s.act.state = .tripHeld then .writeWait else .tripWait) } } s

/-- SETTLING_COMPLETE (R127). -/
def execSettlingComplete (r : TestReading) (s : State) : Result :=
  happens (s.bcu.test == .settling) (applyLoad r s) s

/-- LOAD_TEST_COMPLETE (R128). -/
def execLoadTestComplete (r : TestReading) (s : State) : Result :=
  happens (s.bcu.test == .loaded) (completeTest r s) s

/-- TEST_ABANDON_TIMEOUT (R130). -/
def execTestAbandonTimeout (s : State) : Result :=
  happens (s.bcu.test == .suspended) (endTest .abandoned none none s) s

/-! ### The radio (spec/08) -/

/-- RADIO_PACKET_RECEIVED (R169): in SILENT no beacon is taken (R149). -/
def execRadioPacketReceived (bytes : Bytes) (s : State) : Result :=
  match parseBeacon bytes with
  | some b => happens (s.stage.started && s.rcc.chan != .silent) (pump (takeBeacon b s)) s
  | none => .next s

/-- BEACON_MISS_CHECK (R152). -/
def execBeaconMissCheck (s : State) : Result :=
  happens (s.rcc.chan == .synced) { s with rcc := s.rcc.endSlotZero } s

/-- OWN_SLOT_START (R157). -/
def execOwnSlotStart (carrier : Bool) (s : State) : Result :=
  happens (s.rcc.chan == .synced && !s.rcc.slotTaken && s.rcc.tx.isNone) (takeSlot carrier s) s

/-- RADIO_TRANSMIT_END (R157). -/
def execRadioTransmitEnd (s : State) : Result := .next { s with rcc := { s.rcc with tx := none } }

/-! ### The store (spec/09) -/

/-- COMMIT_COMPLETE (R176): the end of a page write that has begun. -/
def execCommitComplete (s : State) : Result :=
  match s.sst.staging with
  | .committing b reply true => .next (pump (completeCommit b reply s))
  | .committing _ _ false => .next s
  | .opened _ => .next s
  | .empty => .next s

/-- RETAINED_WRITE_COMPLETE (R178). -/
def execRetainedWriteComplete (s : State) : Result :=
  match s.sst.inFlight with
  | some i => .next (completeWrite i s)
  | none => .next s

/-! ### The host line (spec/10) -/

/-- HOST_FRAME_RECEIVED (R182, R183). -/
def execHostFrameReceived (bytes : Bytes) (s : State) : Result := .next (feed bytes s)

/-- FRAME_BYTE_TIMEOUT (R182): a frame that lacks a byte is discarded. -/
def execFrameByteTimeout (s : State) : Result := .next { s with hlc := { s.hlc with rx := [] } }

/-- KEY_SWITCH_DEBOUNCED (R184). -/
def execKeySwitchDebounced (reading : Key) (ms : Nat) (s : State) : Result :=
  whenStarted { s with hlc := readKey reading ms s.hlc } s

/-- HOST_FRAME_TRANSMITTED (R187): the oldest frame has gone out. -/
def execHostFrameTransmitted (s : State) : Result :=
  match s.hlc.tx with
  | f :: rest => .next { s with hlc := { s.hlc with tx := rest, htx := frameBytes f } }
  | [] => .next s

end Sys2Proof.Machine
end

