-- ==== Sys2Proof/Machine/Requests.lean ====
section
/-! DEFINITION. The meanings of the 22 host requests (spec/10 R185). A request command is the arrival of its checked frame with the
kind of R185 and the sender's tag (spec/10 R183, R184; log 6): it is discarded, queued, answered BUSY, or served at its owner. -/

namespace Sys2Proof.Machine

/-- IDENTIFY, kind 0x01 (spec/10 R189). -/
def execIdentify (tag : Byte) (s : State) : Result :=
  .next (receive ⟨0x01#8, tag, .identify⟩ s)

/-- READ_MEASURE, kind 0x02 (spec/01 R16, spec/04 R87, spec/06 R133). -/
def execReadMeasure (tag : Byte) (s : State) : Result :=
  .next (receive ⟨0x02#8, tag, .readMeasure⟩ s)

/-- READ_STATE, kind 0x03 (spec/10 R186). -/
def execReadState (tag : Byte) (sect : Byte) (start : Byte) (s : State) : Result :=
  .next (receive ⟨0x03#8, tag, .readState sect.toNat start.toNat⟩ s)

/-- OPEN, kind 0x10 (spec/03 R45). -/
def execHostOpen (tag : Byte) (s : State) : Result :=
  .next (receive ⟨0x10#8, tag, .openBreaker⟩ s)

/-- CLOSE, kind 0x11 (spec/03 R57). -/
def execHostClose (tag : Byte) (s : State) : Result :=
  .next (receive ⟨0x11#8, tag, .closeBreaker⟩ s)

/-- MECH_FAIL_CLEAR, kind 0x12 (spec/03 R64). -/
def execMechFailClear (tag : Byte) (s : State) : Result :=
  .next (receive ⟨0x12#8, tag, .mechFailClear⟩ s)

/-- TAG_PLACE, kind 0x20 (spec/05 R92, R93). -/
def execTagPlace (tag : Byte) (crew : BitVec 16) (mode : Byte) (expiry : BitVec 16) (s : State) : Result :=
  .next (receive ⟨0x20#8, tag, .tagPlace crew.toNat mode.toNat expiry.toNat⟩ s)

/-- TAG_REMOVE, kind 0x21 (spec/05 R98). -/
def execTagRemove (tag : Byte) (number : BitVec 16) (crew : BitVec 16) (s : State) : Result :=
  .next (receive ⟨0x21#8, tag, .tagRemove number.toNat crew.toNat⟩ s)

/-- TAG_CLEAR, kind 0x22 (spec/05 R99). -/
def execTagClear (tag : Byte) (number : BitVec 16) (s : State) : Result :=
  .next (receive ⟨0x22#8, tag, .tagClear number.toNat⟩ s)

/-- TAG_READ, kind 0x23 (spec/05 R104). -/
def execTagRead (tag : Byte) (selector : Byte) (value : BitVec 16) (s : State) : Result :=
  .next (receive ⟨0x23#8, tag, .tagRead selector.toNat value.toNat⟩ s)

/-- RECORD_READ, kind 0x30 (spec/07 R139). -/
def execRecordRead (tag : Byte) (number : BitVec 32) (s : State) : Result :=
  .next (receive ⟨0x30#8, tag, .recordRead number.toNat⟩ s)

/-- WEAR_RESET, kind 0x31 (spec/07 R143). -/
def execWearReset (tag : Byte) (phase : Byte) (s : State) : Result :=
  .next (receive ⟨0x31#8, tag, .wearReset phase.toNat⟩ s)

/-- TIME_SET, kind 0x32 (spec/07 R146). -/
def execTimeSet (tag : Byte) (time : BitVec 32) (s : State) : Result :=
  .next (receive ⟨0x32#8, tag, .timeSet time.toNat⟩ s)

/-- BATTERY_TEST_START, kind 0x40 (spec/06 R125). -/
def execBatteryTestStart (tag : Byte) (s : State) : Result :=
  .next (receive ⟨0x40#8, tag, .testStart⟩ s)

/-- BATTERY_TEST_CANCEL, kind 0x41 (spec/06 R131). -/
def execBatteryTestCancel (tag : Byte) (s : State) : Result :=
  .next (receive ⟨0x41#8, tag, .testCancel⟩ s)

/-- STAGE_OPEN, kind 0x50 (spec/09 R173). -/
def execStageOpen (tag : Byte) (kind : Byte) (number : Byte) (s : State) : Result :=
  .next (receive ⟨0x50#8, tag, .stageOpen kind.toNat number.toNat⟩ s)

/-- STAGE_LOAD, kind 0x51 (spec/09 R174). -/
def execStageLoad (tag : Byte) (value : BitVec 32) (advance : Byte) (s : State) : Result :=
  .next (receive ⟨0x51#8, tag, .stageLoad (signed4 value.toNat) advance.toNat⟩ s)

/-- STAGE_SEEK, kind 0x52 (spec/09 R174). -/
def execStageSeek (tag : Byte) (number : Byte) (s : State) : Result :=
  .next (receive ⟨0x52#8, tag, .stageSeek number.toNat⟩ s)

/-- STAGE_READ, kind 0x53 (spec/09 R174). -/
def execStageRead (tag : Byte) (s : State) : Result :=
  .next (receive ⟨0x53#8, tag, .stageRead⟩ s)

/-- COMMIT, kind 0x54 (spec/09 R175). -/
def execCommit (tag : Byte) (s : State) : Result :=
  .next (receive ⟨0x54#8, tag, .commit⟩ s)

/-- GROUP_SELECT, kind 0x55 (spec/09 R177). -/
def execGroupSelect (tag : Byte) (group : Byte) (s : State) : Result :=
  .next (receive ⟨0x55#8, tag, .groupSelect group.toNat⟩ s)

/-- RESTART, kind 0x60 (spec/09 R180). -/
def execRestart (tag : Byte) (s : State) : Result :=
  .next (receive ⟨0x60#8, tag, .restart⟩ s)

end Sys2Proof.Machine
end

