-- ==== Sys2Proof/Machine/Due.lean ====
section
/-! DEFINITION. The part's own events that are due when nothing is commanded: those whose count stands at its end and that need
nothing from outside (log 1, log 28), and taking the command at the front of the queue. -/

namespace Sys2Proof.Machine

/-- SEQ's timers at their end. -/
def seqDue (s : State) : Option Instr :=
  if s.seq.state = .deadTime ∧ s.seq.deadLeft = some 0 then some .deadTimerExpiry
  else if s.seq.state = .recloseHold ∧ s.seq.holdLeft = some 0 then some .holdTimerExpiry
  else if s.seq.state = .reclaim ∧ s.seq.reclaimLeft = some 0 ∧ s.peu.timing = false then some .reclaimTimerExpiry
  else none

/-- ACT's counts at their end. A trip pulse at its 120 ms is not among them: it waits for the next capacitor measurement (log 49). -/
def actDue (s : State) : Option Instr :=
  if s.act.state = .closePulse ∧ s.act.pulseMs = some closePulseMs then some (.closePulseTimeout (quietEnd s))
  else if s.stage.isStarting = true ∧ s.act.startMs = 100 then some .startReadingTimeout
  else none

/-- The BCU's counts at their end. -/
def bcuDue (s : State) : Option Instr :=
  if s.bcu.shutdown = some .tripWait ∧ s.bcu.tripWaitMs = 30000 ∧ s.act.state = .tripHeld then some .tripWaitTimeout
  else if s.bcu.test = .suspended ∧ s.bcu.suspMs = 600000 then some .testAbandonTimeout
  else none

/-- The end of a slot 0 not yet tested. -/
def rccDue (s : State) : Option Instr :=
  if s.rcc.chan = .synced ∧ s.rcc.missTested = false ∧ (s.rcc.frameMs.any (500 ≤ ·)) = true then some .beaconMissCheck else none

/-- A stop or a warm start that may begin. -/
def stopDue (s : State) : Option Instr :=
  if stopReady s then some .partStop else if warmReady s then some .warmStart else none

/-- The part's own event that is due (log 28). -/
def due (s : State) : Option Instr :=
  (((seqDue s).or (actDue s)).or (bcuDue s)).or ((rccDue s).or (stopDue s))

end Sys2Proof.Machine
end

