-- ==== Sys2Proof/Machine/Dispatch.lean ====
section
/-! DEFINITION. One arm per command: what each does to everything but the queue. -/

namespace Sys2Proof.Machine

def exec (i : Instr) (s : State) : Host.Outcome State Fault Refusal :=
  match i with
  | .coldStart landed => Sys2Proof.Machine.execColdStart landed s
  | .startDelayEnd inp => Sys2Proof.Machine.execStartDelayEnd inp s
  | .warmStart => Sys2Proof.Machine.execWarmStart s
  | .supplyLoss => Sys2Proof.Machine.execSupplyLoss s
  | .holdUpEnd => Sys2Proof.Machine.execHoldUpEnd s
  | .magnitudeUpdate block => Sys2Proof.Machine.execMagnitudeUpdate block s
  | .liveQualified side block => Sys2Proof.Machine.execLiveQualified side block s
  | .deadQualified side block => Sys2Proof.Machine.execDeadQualified side block s
  | .elementOperate block => Sys2Proof.Machine.execElementOperate block s
  | .deadTimerExpiry => Sys2Proof.Machine.execDeadTimerExpiry s
  | .holdTimerExpiry => Sys2Proof.Machine.execHoldTimerExpiry s
  | .reclaimTimerExpiry => Sys2Proof.Machine.execReclaimTimerExpiry s
  | .contactDebounced contact reading ms fin => Sys2Proof.Machine.execContactDebounced contact reading ms fin s
  | .startReadingTimeout => Sys2Proof.Machine.execStartReadingTimeout s
  | .capacitorMeasurement volts => Sys2Proof.Machine.execCapacitorMeasurement volts s
  | .tripPulseTimeout fin => Sys2Proof.Machine.execTripPulseTimeout fin s
  | .closePulseTimeout fin => Sys2Proof.Machine.execClosePulseTimeout fin s
  | .minuteEvent => Sys2Proof.Machine.execMinuteEvent s
  | .tagExpiry => Sys2Proof.Machine.execTagExpiry s
  | .tagHourlyWrite => Sys2Proof.Machine.execTagHourlyWrite s
  | .batteryMeasurement m r => Sys2Proof.Machine.execBatteryMeasurement m r s
  | .absorbTimeLimit m r => Sys2Proof.Machine.execAbsorbTimeLimit m r s
  | .floatLowRunLimit m r => Sys2Proof.Machine.execFloatLowRunLimit m r s
  | .faultClearRunComplete m r => Sys2Proof.Machine.execFaultClearRunComplete m r s
  | .resyncRunComplete m r => Sys2Proof.Machine.execResyncRunComplete m r s
  | .chargeCountWrite m r => Sys2Proof.Machine.execChargeCountWrite m r s
  | .tripWaitTimeout => Sys2Proof.Machine.execTripWaitTimeout s
  | .partStop => Sys2Proof.Machine.execPartStop s
  | .scheduledTestDue => Sys2Proof.Machine.execScheduledTestDue s
  | .settlingComplete r => Sys2Proof.Machine.execSettlingComplete r s
  | .loadTestComplete r => Sys2Proof.Machine.execLoadTestComplete r s
  | .testAbandonTimeout => Sys2Proof.Machine.execTestAbandonTimeout s
  | .radioPacketReceived bytes => Sys2Proof.Machine.execRadioPacketReceived bytes s
  | .beaconMissCheck => Sys2Proof.Machine.execBeaconMissCheck s
  | .ownSlotStart carrier => Sys2Proof.Machine.execOwnSlotStart carrier s
  | .radioTransmitEnd => Sys2Proof.Machine.execRadioTransmitEnd s
  | .statusIntervalDue => Sys2Proof.Machine.execStatusIntervalDue s
  | .commitComplete => Sys2Proof.Machine.execCommitComplete s
  | .retainedWriteComplete => Sys2Proof.Machine.execRetainedWriteComplete s
  | .hostFrameReceived bytes => Sys2Proof.Machine.execHostFrameReceived bytes s
  | .frameByteTimeout => Sys2Proof.Machine.execFrameByteTimeout s
  | .keySwitchDebounced reading ms => Sys2Proof.Machine.execKeySwitchDebounced reading ms s
  | .hostFrameTransmitted => Sys2Proof.Machine.execHostFrameTransmitted s
  | .identify tag => Sys2Proof.Machine.execIdentify tag s
  | .readMeasure tag => Sys2Proof.Machine.execReadMeasure tag s
  | .readState tag sect start => Sys2Proof.Machine.execReadState tag sect start s
  | .hostOpen tag => Sys2Proof.Machine.execHostOpen tag s
  | .hostClose tag => Sys2Proof.Machine.execHostClose tag s
  | .mechFailClear tag => Sys2Proof.Machine.execMechFailClear tag s
  | .tagPlace tag crew mode expiry => Sys2Proof.Machine.execTagPlace tag crew mode expiry s
  | .tagRemove tag number crew => Sys2Proof.Machine.execTagRemove tag number crew s
  | .tagClear tag number => Sys2Proof.Machine.execTagClear tag number s
  | .tagRead tag selector value => Sys2Proof.Machine.execTagRead tag selector value s
  | .recordRead tag number => Sys2Proof.Machine.execRecordRead tag number s
  | .wearReset tag phase => Sys2Proof.Machine.execWearReset tag phase s
  | .timeSet tag time => Sys2Proof.Machine.execTimeSet tag time s
  | .batteryTestStart tag => Sys2Proof.Machine.execBatteryTestStart tag s
  | .batteryTestCancel tag => Sys2Proof.Machine.execBatteryTestCancel tag s
  | .stageOpen tag kind number => Sys2Proof.Machine.execStageOpen tag kind number s
  | .stageLoad tag value advance => Sys2Proof.Machine.execStageLoad tag value advance s
  | .stageSeek tag field => Sys2Proof.Machine.execStageSeek tag field s
  | .stageRead tag => Sys2Proof.Machine.execStageRead tag s
  | .commit tag => Sys2Proof.Machine.execCommit tag s
  | .groupSelect tag group => Sys2Proof.Machine.execGroupSelect tag group s
  | .restart tag => Sys2Proof.Machine.execRestart tag s
  | .timeBaseSecond => Sys2Proof.Machine.execTimeBaseSecond s

end Sys2Proof.Machine
end

