-- ==== Sys2Proof/Machine/Step.lean ====
section
/-! DEFINITION. One step: the command at the front of the queue; on an empty queue the part's own due event, or one millisecond of
running time (log 1). -/

namespace Sys2Proof.Machine

/-- The queue without its front. -/
def State.withPending (s : State) (q : List Instr) : State := { s with pending := q }

/-- The part with nothing commanded (log 1). -/
def idle (s : State) : Host.Outcome State Fault Refusal :=
  match due s with
  | some c => exec c s
  | none => .next (tick s)

/-- One step of the part. -/
def step (s : State) : Host.Outcome State Fault Refusal :=
  match s.pending with
  | c :: rest => exec c (s.withPending rest)
  | [] => idle s

/-- The command a word spells put at the front of the queue: no word spells one (Sys2Proof/Decode.lean, log 35). -/
def State.withFetchWord (s : State) (nbits w : Nat) : State :=
  match decodeTableWord nbits w with
  | some c => s.withPending (c :: s.pending)
  | none => s

end Sys2Proof.Machine
end

