-- ==== Sys2Proof/Safety.lean ====
section
/-! DEFINITION. What counts as a good state of the part, and the plain words the statements share. -/

namespace Sys2Proof.Machine

/-! ### The part at rest for a command -/

/-- The part runs and no host request waits, so that an event is followed by no request. -/
def State.runs (s : State) : Prop := s.stage = .running ∧ s.restarting = none ∧ s.hlc.queue = []

/-- The part runs and serves the next request as it comes (spec/10 R183). -/
def State.serving (s : State) : Prop := s.runs ∧ s.hlc.current = none

/-- The state with one more frame on the transmit list: the reply to a request of a kind and tag (spec/10 R182, R190). -/
def State.replied (s : State) (kind tag : Byte) (res : Res) (body : Bytes) : State :=
  { s with hlc := { s.hlc with tx := s.hlc.tx ++ [⟨kind + 0x80#8, tag, be1 res.code ++ body, false⟩] } }

/-- The reply's frame is among those that wait to be sent. -/
def State.answered (s : State) (kind tag : Byte) (res : Res) (body : Bytes) : Prop :=
  (⟨kind + 0x80#8, tag, be1 res.code ++ body, false⟩ : Frame) ∈ s.hlc.tx

/-- t's newest record has this body and s's number and time (spec/07 R136). -/
def recorded (body : RecBody) (s t : State) : Prop := t.orl.ring.getLast? = some ⟨s.orl.next, body, s.orl.time, s.orl.valid⟩

/-! ### LSU (spec/01) -/

/-- A sample set within the limits of R1. -/
abbrev withinLimits (x : SampleSet) : Prop :=
  x.a.natAbs ≤ 28000 ∧ x.b.natAbs ≤ 28000 ∧ x.c.natAbs ≤ 28000 ∧ x.n.natAbs ≤ 28000 ∧ x.vs.natAbs ≤ 60000 ∧ x.vl.natAbs ≤ 60000

/-- The runs of a side are within their targets (R12). -/
abbrev SideState.sound (x : SideState) : Prop := x.liveRun ≤ 50 ∧ x.deadRun ≤ 30

/-- A window of one of two lengths, as full as its fill count says, of limited samples; runs within their targets (R1, R2, R12). -/
def Lsu.sound (l : Lsu) : Prop :=
  (l.winLen = 160 ∨ l.winLen = 133) ∧ l.window.length = l.fill ∧ l.fill ≤ l.winLen ∧ (∀ x ∈ l.window, withinLimits x) ∧
  l.source.sound ∧ l.load.sound

/-- The current channels: a sample, its magnitude, its saturation flag (R1, R9). -/
def currentChannels : List ((SampleSet → Int) × (MeasSet → Nat) × (MeasSet → Bool)) :=
  [(SampleSet.a, MeasSet.a, MeasSet.satA), (SampleSet.b, MeasSet.b, MeasSet.satB), (SampleSet.c, MeasSet.c, MeasSet.satC),
   (SampleSet.n, MeasSet.n, MeasSet.satN)]

/-- The voltage channels. -/
def voltageChannels : List ((SampleSet → Int) × (MeasSet → Nat) × (MeasSet → Bool)) :=
  [(SampleSet.vs, MeasSet.vs, MeasSet.satVs), (SampleSet.vl, MeasSet.vl, MeasSet.satVl)]

/-- The floor of the square root of the mean square of a channel's samples (R3). -/
def rootMeanSquare (n : Nat) (samples : List Int) : Nat := Nat.sqrt ((samples.map fun x => x.natAbs ^ 2).sum / n)

/-- The next block fills the window (R3, R6). -/
abbrev Lsu.fillsNow (l : Lsu) : Prop := l.winLen ≤ l.fill + 16

/-- The voltage magnitude of a side (section 1.5). -/
def MeasSet.volts (m : MeasSet) : Side → Nat
  | .source => m.vs
  | .load => m.vl

/-- At the update of this block no element operates and no fault departure is raised. -/
def noProtectionEvent (block : List SampleSet) (s : State) : Prop :=
  let t := { s with lsu := s.lsu.push block }
  (peuInputs t).cause t.peu = none ∧ (peuInputs t).departure t.peu = false

/-- At this update the source side becomes LIVE with a reclose on hold for it, so that SEQ makes a retry (spec/03 R54). -/
def sourceRetries (block : List SampleSet) (s : State) : Prop :=
  s.seq.state = .recloseHold ∧ s.seq.holdReason = some .source ∧ sideBecomes .live .source block s = true

/-! ### PEU (spec/02) -/

/-- State and accumulator go together as in the table of R22. -/
def Elem.sound (x : Elem) : Prop :=
  match x.st with
  | .disabled => x.acc = 0
  | .quiet => x.acc = 0
  | .timing => 0 < x.acc ∧ x.acc < 1000000
  | .held => 0 < x.acc ∧ x.acc < 1000000
  | .resetting => 0 < x.acc ∧ x.acc < 1000000
  | .operated => x.acc = 1000000

/-- The element is armed at an update of s (R19, R20). -/
def armedAt (s : State) (e : Element) : Prop :=
  (elemSettings s.sst.group e).enable = true ∧
  (if e = .hlp ∨ e = .hlg then s.tag.table.mode ≠ .none
   else entryLists (shotEntry s.sst.group (min 4 (s.seq.shots + 1))) e = true)

/-- The magnitude an element measures (R17). -/
def measuredBy (m : MeasSet) (e : Element) : Nat :=
  if e = .gf ∨ e = .gd ∨ e = .hlg then m.n else max m.a (max m.b m.c)

/-- The effective operate time of an element at a magnitude (R25 to R29). -/
def operateTime (s : State) (e : Element) (i : Nat) : Nat :=
  let set := elemSettings s.sst.group e
  let m := max 100 (min 4000 (100 * i / set.pickup))
  max 10 (min 60000 (max set.minTime ((curveTime (curvePoints s.sst.curves set.curve) m * set.tm + 50) / 100)))

/-- What the accumulator counts from at an update: 0 for an element newly armed (R21). -/
def accBefore (x : Elem) : Nat := if x.st = .disabled then 0 else x.acc

/-- The element is OPERATED after the computation of the update of this block (R22, R30, R31). -/
def operatedAfter (block : List SampleSet) (s : State) (e : Element) : Prop :=
  let set := elemSettings s.sst.group e
  let i := measuredBy (s.lsu.push block).meas e
  let old := s.peu.elems.get e
  armedAt s e ∧ (old.st = .operated ∨ (set.pickup ≤ i ∧ 1000000 ≤ accBefore old + 2000000 / operateTime s e i))

/-- A fast element armed at this update (R17). -/
def armedFast (s : State) (e : Element) : Prop := (e = .pf ∨ e = .gf) ∧ armedAt s e

/-- The update of this block raises a fault departure (R36). -/
def departureRaised (block : List SampleSet) (s : State) : Prop :=
  s.peu.detector = true ∧
  (∃ e, armedFast s e ∧ 0 < accBefore (s.peu.elems.get e)) ∧
  (∀ e, ¬ operatedAfter block s e) ∧
  ∀ e, armedFast s e → measuredBy (s.lsu.push block).meas e < (elemSettings s.sst.group e).pickup * 95 / 100

/-- Every element is sound, and the two indications are those of the elements (R22, R38). -/
def Peu.sound (p : Peu) : Prop :=
  (∀ e, (p.elems.get e).sound) ∧ p.timing = p.elems.timingPresent ∧ p.allQuiet = p.elems.allQuiet

/-! ### SEQ (spec/03) -/

/-- Every element as a clearing leaves it (R34). -/
def cleared (s t : State) : Prop :=
  ∀ e, t.peu.elems.get e = ⟨if (s.peu.elems.get e).st = .disabled then .disabled else .quiet, 0⟩

/-- An item's write is pending or in flight (R178 of spec/09). -/
def writeQueued (i : RetItem) (t : State) : Prop := t.sst.inFlight = some i ∨ i ∈ t.sst.queue

/-- A record of this body is in the ring under s's next number. -/
def recordedFirst (body : RecBody) (s t : State) : Prop := ⟨s.orl.next, body, s.orl.time, s.orl.valid⟩ ∈ t.orl.ring

/-- What every entry to LOCKOUT does, the LOCKOUT record being the first of the event (R43, R65). -/
def lockoutEntered (c : Cause) (s t : State) : Prop :=
  t.seq.state = .lockout ∧ t.seq.deadLeft = none ∧ t.seq.reclaimLeft = none ∧ t.seq.holdLeft = none ∧ cleared s t ∧
  t.seq.manual = false ∧ t.seq.cause = some c ∧ t.seq.shots = s.seq.shots ∧ recordedFirst (.lockout c s.seq.shots) s t ∧
  writeQueued (.lockout (some c)) t ∧
  ∀ g, s.seq.pendingGroup = some g →
    t.sst.active = g ∧ t.seq.pendingGroup = none ∧ ∃ r ∈ t.orl.ring, r.body = .groupChange s.sst.active g

/-- What an entry to RECLAIM after a close by hand leaves (R53, R62). -/
def reclaimByHand (s t : State) : Prop :=
  t.seq.state = .reclaim ∧ t.seq.shots = 0 ∧ t.seq.manual = true ∧ t.seq.deadLeft = none ∧ t.seq.holdLeft = none ∧
  t.seq.reclaimLeft = some (s.sst.group.field 50 * 1000)

/-- LOCKOUT as every entry leaves it, for an event that may have made a record before it (R43, R65). -/
def lockedOut (c : Cause) (s t : State) : Prop :=
  t.seq.state = .lockout ∧ t.seq.deadLeft = none ∧ t.seq.reclaimLeft = none ∧ t.seq.holdLeft = none ∧
  (∀ e, (t.peu.elems.get e).acc = 0) ∧ t.seq.manual = false ∧ t.seq.cause = some c ∧ t.seq.shots = s.seq.shots ∧
  (recordedFirst (.lockout c s.seq.shots) s t ∨
    ⟨recordAfter s.orl.next, .lockout c s.seq.shots, s.orl.time, s.orl.valid⟩ ∈ t.orl.ring) ∧
  writeQueued (.lockout (some c)) t

/-- An automatic close has begun (R53, R78). -/
def closeBegun (s t : State) : Prop :=
  t.seq.state = .reclosing ∧ t.seq.deadLeft = none ∧ t.seq.holdLeft = none ∧ t.seq.shots = s.seq.shots ∧
  t.act.state = .closePulse ∧ t.act.pulseMs = some 0 ∧ t.act.origin = some .auto ∧ t.act.before = some s.act.cap ∧
  t.act.converter = .paused

/-- RECLOSE_HOLD for a reason with so much on the hold timer (R54, R55). -/
def onHold (r : HoldReason) (ms : Nat) (s t : State) : Prop :=
  t.seq.state = .recloseHold ∧ t.seq.holdReason = some r ∧ t.seq.holdLeft = some ms ∧ t.seq.deadLeft = none ∧
  t.seq.shots = s.seq.shots

/-- What comes of SEQ's request for an automatic close, with ACT IDLE (R53, R55, R76). `locked c` says that SEQ is in LOCKOUT with
cause c. -/
def closeAsked (locked : Cause → Prop) (s t : State) : Prop :=
  (s.act.mech = true → locked .mechCleared) ∧
  (s.act.mech = false →
    (s.act.position = .unknown → locked .externalOpen) ∧
    (s.act.position = .closed → reclaimByHand s t) ∧
    (s.act.position = .isOpen →
      (s.tag.table.tags ≠ [] → locked .tag) ∧
      (s.tag.table.tags = [] →
        (250 ≤ s.act.cap → closeBegun s t) ∧
        (s.act.cap < 250 →
          if s.seq.state = .recloseHold ∧ s.seq.holdReason = some .energy then t.seq = s.seq else onHold .energy 30000 s t))))

/-- The checks of R52 in order, without check 4 at the retry of R54, and then the request for the close. -/
def recloseDecided (checksSource : Bool) (locked : Cause → Prop) (s t : State) : Prop :=
  let shots := tripsToLockout s ≤ s.seq.shots
  let barred := s.bcu.level = .conserve ∨ s.bcu.level = .exhausted
  let noSource := checksSource = true ∧ s.sst.group.field 52 = 1 ∧ s.lsu.source.line ≠ .live
  (shots → locked .shots) ∧
  (¬ shots → barred → locked .conserve) ∧
  (¬ shots → ¬ barred → s.lsu.load.line = .live → locked .loadLive) ∧
  (¬ shots → ¬ barred → s.lsu.load.line ≠ .live → noSource →
    (s.sst.group.field 53 = 0 → locked .sourceTimeout) ∧
    (0 < s.sst.group.field 53 → onHold .source (s.sst.group.field 53 * 1000) s t)) ∧
  (¬ shots → ¬ barred → s.lsu.load.line ≠ .live → ¬ noSource → s.act.state = .idle → closeAsked locked s t)

/-- SEQ's items go with its state as in the tables of R41, and SEQ has decided exactly in a running part, before which it is in its
placeholder LOCKOUT and ACT is IDLE (R66, log 10). -/
def seqSound (s : State) : Prop :=
  s.seq.shots ≤ 4 ∧
  (s.seq.cause.isSome ↔ s.seq.state = .lockout) ∧
  (s.seq.deadLeft.isSome ↔ s.seq.state = .deadTime) ∧ (s.seq.deadNo.isSome ↔ s.seq.state = .deadTime) ∧
  (s.seq.holdLeft.isSome ↔ s.seq.state = .recloseHold) ∧ (s.seq.holdReason.isSome ↔ s.seq.state = .recloseHold) ∧
  (s.seq.reclaimLeft.isSome ↔ s.seq.state = .reclaim) ∧
  (s.seq.state = .tripping → s.seq.trip.isSome) ∧
  (s.seq.decided = true ↔ s.stage = .running) ∧
  (s.stage ≠ .running → s.seq.state = .lockout ∧ s.act.state = .idle)

/-! ### ACT (spec/04) -/

/-- The contacts read so that this reading forms a position other than the one held. -/
def opensNow (s : State) : Prop := s.act.closedC.stable = some .notMade ∧ s.act.position ≠ .isOpen

/-- The same for a breaker that closes. -/
def closesNow (s : State) : Prop := s.act.openC.stable = some .notMade ∧ s.act.position ≠ .closed

/-- A trip handed to ACT from IDLE or after a cut begins its pulse, or is held for want of energy (R72, R73, R74, R79). -/
def tripBegun (s t : State) : Prop :=
  (150 ≤ s.act.cap → t.act.state = .tripPulse ∧ t.act.pulseMs = some 0 ∧ t.act.before = some s.act.cap ∧ t.act.heldMs = none ∧
    t.act.converter = .paused) ∧
  (s.act.cap < 150 → t.act.state = .tripHeld ∧ t.act.heldMs = some 0 ∧ t.act.converter = .full)

/-- The close in progress has been cut, its CLOSE record the first of the event (R79, R80). -/
def closeCut (s t : State) : Prop :=
  recordedFirst (.close (s.act.origin.getD .auto) .cut (s.act.pulseMs.getD 0) (s.act.before.getD 0) s.act.cap) s t

/-- What R76 asks of a close pulse that begins, in the state in which it has begun. -/
def closePermitted (t : State) : Prop :=
  t.act.mech = false ∧ t.act.position = .isOpen ∧ (∀ x ∈ t.tag.table.tags, x.mode ≠ .noClose) ∧ 250 ≤ t.act.cap ∧
  (t.act.origin ≠ some .loc → t.tag.table.tags = [] ∧ t.bcu.level ≠ .conserve ∧ t.bcu.level ≠ .exhausted)

/-- ACT's items go with its state as in the tables of R71 and R83. -/
def Act.sound (a : Act) : Prop :=
  (a.pulseMs.isSome ↔ a.state = .tripPulse ∨ a.state = .closePulse) ∧
  (a.before.isSome ↔ a.state = .tripPulse ∨ a.state = .closePulse) ∧
  (a.origin.isSome ↔ a.state = .closePulse) ∧
  (a.state = .tripPulse → ∀ n ∈ a.pulseMs, n ≤ 120) ∧ (a.state = .closePulse → ∀ n ∈ a.pulseMs, n ≤ 200) ∧
  (a.state = .tripHeld → a.heldMs.isSome) ∧ (a.state = .idle ∨ a.state = .closePulse → a.heldMs = none) ∧
  (a.converter = .paused ↔ a.state = .tripPulse ∨ a.state = .closePulse)

/-! ### TAG (spec/05) -/

/-- A tag within the ranges of R88. A tag that is about to expire stands at 0 remaining minutes while the minute is taken (R101). -/
def Tag.sound (x : Tag) : Prop :=
  1 ≤ x.number ∧ x.number ≤ 65535 ∧ 1 ≤ x.crew ∧ x.crew ≤ 9999 ∧ (∀ n ∈ x.left, n ≤ 1440) ∧ (x.mode = .noClose → x.left = none)

/-- A tag table as R88 to R90 have it: eight slots, tags with pairwise distinct numbers, no two of the same crew and mode. -/
def TagTable.sound (t : TagTable) : Prop :=
  t.slots.length = 8 ∧ (∀ x ∈ t.tags, x.sound) ∧ 1 ≤ t.next ∧ t.next ≤ 65535 ∧
  t.tags.Pairwise (fun x y => x.number ≠ y.number ∧ ¬ (x.crew = y.crew ∧ x.mode = y.mode))

/-- The running table, the retained one and those on their way to the store are sound. -/
def tagsSound (s : State) : Prop :=
  s.tag.table.sound ∧ s.sst.store.tags.sound ∧ ∀ t, writeQueued (.tags t) s → t.sound

/-- The steps of R90 from one number to another: every number passed is held. -/
def reachedFrom (t : TagTable) (k n : Nat) : Prop := n = tagAfter^[k] t.next ∧ ∀ j < k, t.holds (tagAfter^[j] t.next) = true

/-! ### BCU (spec/06) -/

/-- The charge count, and the one an accepted RESTART keeps, lie within 0 and the full count of the set capacity, SoC within 0..100,
the capacity in force is the retained one, and no commit runs beside an accepted RESTART (R116, R118; spec/09 R180). -/
def chargeBounded (s : State) : Prop :=
  s.bcu.charge ≤ s.sst.globalPage.field 6 * 3600000 ∧ s.bcu.soc ≤ 100 ∧
  s.sst.globalPage.field 6 = s.sst.store.globalPage.field 6 ∧
  ∀ c ∈ s.restarting, c ≤ s.sst.globalPage.field 6 * 3600000 ∧ s.sst.staging.isCommitting = false

/-- A load test in progress has SEQ in CLOSED or LOCKOUT, no recharge demand and the charger off; a test that is not IDLE has the
level NORMAL; the load time is at most 30 s (R112, R115, R128, R131). -/
def loadTestSafe (s : State) : Prop :=
  (s.bcu.test = .settling ∨ s.bcu.test = .loaded →
    (s.seq.state = .closed ∨ s.seq.state = .lockout) ∧ 250 ≤ s.act.cap ∧ (s.bcu.charger = .test ∨ s.bcu.charger = .fault)) ∧
  (s.bcu.test ≠ .idle → s.bcu.level = .normal) ∧ s.bcu.loadMs ≤ 30000

/-- The charge count a measured current leaves, and the resynchronisation run (R116, R117). -/
def countAfter (s : State) (ma : Int) : Nat × Nat :=
  let full := s.sst.globalPage.field 6 * 3600000
  let run := if s.bcu.charger = .float ∧ 0 ≤ ma ∧ ma < s.sst.globalPage.field 6 * 10 then min 3600 (s.bcu.resync + 1) else 0
  (if run = 3600 then full
   else if 0 ≤ ma then min full (s.bcu.charge + ma.toNat * 95 / 100) else min full (s.bcu.charge - ma.natAbs), run)

/-- What the checks of a load-test start ask (R125). -/
def testMayStart (s : State) : Prop :=
  s.bcu.test = .idle ∧ s.bcu.meas.supply = true ∧ 80 ≤ s.bcu.soc ∧ s.bcu.level = .normal ∧
  (s.seq.state = .closed ∨ s.seq.state = .lockout) ∧ 250 ≤ s.act.cap

/-- A test that has ended: IDLE, its record the newest, its result the youngest of at most four, the countdown afresh (R132). -/
def testEnded (outcome : TestOutcome) (r mv : Option Nat) (loadMs : Nat) (s t : State) : Prop :=
  t.bcu.test = .idle ∧ t.bcu.loadMs = 0 ∧ t.bcu.origin = none ∧ recorded (.test outcome r mv) s t ∧
  t.bcu.history = lastN 4 (s.bcu.history ++ [⟨outcome, r, mv, loadMs, s.orl.time, s.orl.valid⟩]) ∧
  writeQueued (.history t.bcu.history) t ∧
  t.bcu.countdown = (if s.sst.globalPage.field 7 = 0 then none else some (s.sst.globalPage.field 7 * 1440)) ∧
  (s.bcu.charger = .test → t.bcu.charger = if s.bcu.meas.supply then .bulk else .noSupply)

/-- A test that an event has suspended: the load off, its load time kept, the charger out of TEST (R115, R129). -/
def testSuspended (s t : State) : Prop :=
  t.bcu.test = .suspended ∧ t.bcu.suspMs = 0 ∧ t.bcu.loadMs = s.bcu.loadMs ∧ t.testLoadDrive = false ∧ t.bcu.charger ≠ .test

/-- A test that settles afresh, its load time kept (R127, R130). -/
def testResumed (s t : State) : Prop :=
  t.bcu.test = .settling ∧ t.bcu.settleMs = 0 ∧ t.bcu.baseline = none ∧ t.bcu.loadMs = s.bcu.loadMs ∧
  (t.bcu.charger = .test ∨ t.bcu.charger = .fault)

/-- A test that a level change has ended: its record follows the BATTERY record (R120, R131, R132). -/
def testEndedByLevel (outcome : TestOutcome) (r mv : Option Nat) (s t : State) : Prop :=
  t.bcu.test = .idle ∧ t.testLoadDrive = false ∧
  ⟨recordAfter s.orl.next, .test outcome r mv, s.orl.time, s.orl.valid⟩ ∈ t.orl.ring ∧
  t.bcu.history = lastN 4 (s.bcu.history ++ [⟨outcome, r, mv, s.bcu.loadMs, s.orl.time, s.orl.valid⟩]) ∧
  writeQueued (.history t.bcu.history) t

/-! ### ORL (spec/07) -/

/-- A record number lies within 1..4,294,967,295 (R134). -/
def realNumber (n : Nat) : Prop := 1 ≤ n ∧ n ≤ 4294967295

/-- A ring and its next number: at most 64 records whose numbers are in range, follow one another and end just before the next number
(R136). -/
def logSound (ring : List Record) (next : Nat) : Prop :=
  ring.length ≤ 64 ∧ ring.IsChain (fun x y => y.number = recordAfter x.number) ∧ (∀ r ∈ ring.getLast?, next = recordAfter r.number) ∧
  (∀ r ∈ ring, realNumber r.number) ∧ realNumber next

/-- The running log, the retained one and those on their way to the store (R136, R140). -/
def logsSound (s : State) : Prop :=
  logSound s.orl.ring s.orl.next ∧ logSound s.sst.store.ring s.sst.store.next ∧
  ∀ r n, writeQueued (.ring r n) s → logSound r n

/-- A phase whose percent and threshold are those of its count (R142). -/
def PhaseWear.formed (budget : Nat) (w : PhaseWear) : Prop :=
  w.percent = min 100 (w.count * 100 / budget) ∧
  w.mark = if w.percent = 100 then .hundred else if 80 ≤ w.percent then .eighty else .none

/-- The WEAR records of a forming that leaves t's percents and found s's thresholds, phase A first (R142). -/
def wearsDue (s t : State) : List RecBody :=
  [Phase.a, .b, .c].flatMap fun q =>
    let percent := (t.orl.phase q).percent
    let old := (s.orl.phase q).mark
    (if 80 ≤ percent ∧ old = .none then [.wear q percent] else []) ++ (if percent = 100 ∧ old ≠ .hundred then [.wear q 100] else [])

/-- The records of a list are in t's ring, numbered on from the number that follows s's next number by `skip` steps. -/
def recordedAll (bodies : List RecBody) (skip : Nat) (s t : State) : Prop :=
  ∀ i b, bodies[i]? = some b → ⟨recordAfter^[skip + i] s.orl.next, b, s.orl.time, s.orl.valid⟩ ∈ t.orl.ring

/-! ### RCC (spec/08) -/

/-- The bytes of a command in a beacon (R168). -/
def RadioCmd.bytes (c : RadioCmd) : Bytes := be1 c.station ++ be1 c.id ++ be1 c.kind ++ be1 c.fields.length ++ c.fields

/-- A beacon from its type byte to the byte before the check (R168). -/
def Beacon.body (b : Beacon) : Bytes :=
  [0x20#8] ++ be2 b.frame ++ be4 b.time ++ be1 b.acks.length ++ b.acks.flatMap (fun x => be1 x.1 ++ be1 x.2) ++
  be1 b.cmds.length ++ b.cmds.flatMap RadioCmd.bytes

/-- The packet of a beacon (R168). -/
def Beacon.bytes (b : Beacon) : Bytes := [0xB6#8] ++ be1 b.body.length ++ b.body ++ crcBytes (be1 b.body.length ++ b.body)

/-- Every field of the beacon fits its place, and the counts lie within their limits (R168). -/
def Beacon.fits (b : Beacon) : Prop :=
  b.frame < 65536 ∧ b.time < 4294967296 ∧ b.acks.length ≤ 15 ∧ (∀ x ∈ b.acks, x.1 < 256 ∧ x.2 < 256) ∧ b.cmds.length ≤ 2 ∧
  (∀ c ∈ b.cmds, c.station < 256 ∧ c.id < 256 ∧ c.kind < 256) ∧ b.body.length ≤ 255

/-- The command is the first of the beacon for this station (R161). -/
def commandFor (s : State) (b : Beacon) (c : RadioCmd) : Prop := b.cmds.find? (·.station == s.sst.globalPage.field 4) = some c

/-- The RCC takes beacons and no report of its own awaits an answer. -/
def listening (s : State) : Prop := s.rcc.chan ≠ .silent ∧ ∀ e ∈ s.rcc.outbox, e.await = false

/-- The priorities that may be sent (R157). -/
def maySend (level : Level) (priority : Nat) : Prop :=
  level = .normal ∨ (level = .lean ∧ priority ≤ 1) ∨ (level = .conserve ∧ priority = 0)

/-- The report form and content of an entry (R158): RECORD where the ring holds its number, GAP where it does not (log 67). -/
def reportForm (s : State) (e : Entry) (form : Nat) (content : Bytes) : Prop :=
  match e.record with
  | none => form = 2 ∧ content = statusBody s
  | some n =>
    (∀ r, s.orl.ring.find? (·.number == n) = some r → form = 0 ∧ content = encodeRecord r) ∧
    (s.orl.ring.find? (·.number == n) = none → form = 1 ∧ content = [])

/-- An entry within the ranges of R153. -/
def Entry.sound (e : Entry) : Prop :=
  e.tries ≤ 4 ∧ (∀ n ∈ e.seqNo, n ≤ 255) ∧ (e.record = none ↔ e.cls = .status) ∧ (e.carried.isSome → e.cls = .status) ∧
  (e.await = true → e.seqNo.isSome)

/-- Outbox order: the more urgent first, within one priority the older first (R153). -/
def Entry.ahead (x y : Entry) : Prop :=
  x.cls.priority < y.cls.priority ∨ (x.cls.priority = y.cls.priority ∧ x.order < y.order)

/-- The outbox and the counts of the RCC as R152, R153, R158 and R160 have them. An entry awaits an answer only in SYNCED with the
station's slot taken since the last beacon or beacon miss. -/
def Rcc.sound (r : Rcc) : Prop :=
  r.outbox.length ≤ 32 ∧ r.outbox.Pairwise Entry.ahead ∧ (∀ e ∈ r.outbox, e.sound ∧ e.order < r.nextOrder) ∧
  r.outbox.countP (·.await) ≤ 1 ∧ r.outbox.countP (fun e => e.cls == .status && !e.await) ≤ 1 ∧
  ((∃ e ∈ r.outbox, e.await = true) → r.chan = .synced ∧ r.slotTaken = true) ∧
  (r.chan = .synced → r.frameMs.isSome) ∧ r.lost ≤ 65535 ∧ r.nextSeq ≤ 255 ∧ r.missCount ≤ 4

/-- A record of one report class enters the outbox as an entry, or meets a full one, where the youngest of the least urgent WAITING
entries gives way to a more urgent one, among priorities 0 the oldest, and otherwise the new one is dropped (R153, R156, R160). -/
def entersOutbox (cls : Class) (s t : State) : Prop :=
  let e : Entry := ⟨cls, some s.orl.next, false, 0, none, none, s.rcc.nextOrder⟩
  let lostOne := t.rcc.lost = min 65535 (s.rcc.lost + 1)
  let replaces := fun (v : Entry) => lostOne ∧ ∀ x, x ∈ t.rcc.outbox ↔ x = e ∨ (x ∈ s.rcc.outbox ∧ x ≠ v)
  let waits := fun (x : Entry) => x ∈ s.rcc.outbox ∧ x.await = false
  t.rcc.nextOrder = s.rcc.nextOrder + 1 ∧ t.rcc.outbox.Pairwise Entry.ahead ∧
  (s.rcc.outbox.length < 32 → t.rcc.lost = s.rcc.lost ∧ ∀ x, x ∈ t.rcc.outbox ↔ x = e ∨ x ∈ s.rcc.outbox) ∧
  (s.rcc.outbox.length = 32 →
    (∀ v, waits v → cls.priority < v.cls.priority → (∀ x, waits x → x = v ∨ x.ahead v) → replaces v) ∧
    (∀ v, waits v → cls.priority = 0 → (∀ x, waits x → x.cls.priority = 0) → (∀ x, waits x → x = v ∨ v.ahead x) → replaces v) ∧
    ((∀ x, waits x → x.cls.priority ≤ cls.priority) → 0 < cls.priority → lostOne ∧ t.rcc.outbox = s.rcc.outbox))

/-! ### SST (spec/09) -/

/-- The write queue: at most one write per item, in item order; one waits without another in flight only for a commit or after a loss;
no retained write is in flight beside a page write (R176, R178, R179). -/
def Sst.writesSound (x : Sst) : Prop :=
  x.queue.Pairwise (fun i j => i.item < j.item) ∧
  (x.inFlight = none → x.queue = [] ∨ x.staging.isCommitting = true ∨ x.lost = true) ∧
  ∀ b reply, x.staging = .committing b reply true → x.inFlight = none

/-- The ranges of the fields of the pages, as the tables of R170 to R172 list them. -/
def inRange (t : Target) (i : Nat) (v : Int) : Prop :=
  let oneOf := fun (l : List Nat) => i ∈ l
  let ofElement := fun (k : Nat) => i < 42 ∧ i % 6 = k
  match t with
  | .group _ =>
    (ofElement 0 ∨ oneOf [51, 52] → v = 0 ∨ v = 1) ∧ (ofElement 1 → 5 ≤ v ∧ v ≤ 2000) ∧ (ofElement 2 → 0 ≤ v ∧ v ≤ 11) ∧
    (ofElement 3 → 5 ≤ v ∧ v ≤ 200) ∧ (ofElement 4 → 0 ≤ v ∧ v ≤ 2000) ∧ (ofElement 5 → v = 0 ∨ (100 ≤ v ∧ v ≤ 60000)) ∧
    (oneOf [42, 43, 44, 45] → 0 ≤ v ∧ v ≤ 31) ∧ (i = 46 → 1 ≤ v ∧ v ≤ 4) ∧
    (oneOf [47, 48, 49] → 300 ≤ v ∧ v ≤ 180000 ∧ v % 10 = 0) ∧ (i = 50 → 5 ≤ v ∧ v ≤ 180) ∧ (i = 53 → 0 ≤ v ∧ v ≤ 600)
  | .global =>
    (i = 0 → v = 50 ∨ v = 60) ∧ (i = 1 → 2000 ≤ v ∧ v ≤ 25000) ∧ (i = 2 → 60 ≤ v ∧ v ≤ 90) ∧ (i = 3 → 10 ≤ v ∧ v ≤ 50) ∧
    (i = 4 → 0 ≤ v ∧ v ≤ 15) ∧ (i = 5 → v = 0 ∨ (15 ≤ v ∧ v ≤ 1440)) ∧ (i = 6 → 7 ≤ v ∧ v ≤ 40) ∧ (i = 7 → 0 ≤ v ∧ v ≤ 30) ∧
    (i = 8 → 20 ≤ v ∧ v ≤ 500) ∧ (i = 9 → 100000 ≤ v ∧ v ≤ 100000000) ∧ (oneOf [10, 11] → v = 0 ∨ v = 1)
  | .curve _ =>
    (i = 0 → 2 ≤ v ∧ v ≤ 16) ∧ (i % 2 = 1 → 100 ≤ v ∧ v ≤ 4000) ∧ (i ≠ 0 → i % 2 = 0 → 10 ≤ v ∧ v ≤ 60000)

/-- The last field of a page (R174). -/
def lastOf : Target → Nat
  | .group _ => 53
  | .global => 11
  | .curve _ => 32

/-- The target exists: group 0..3, the global page, curve 4..11 (R173). -/
def Target.real : Target → Prop
  | .group n => n ≤ 3
  | .global => True
  | .curve n => 4 ≤ n ∧ n ≤ 11

/-- The staging request kinds that name a target (spec/10 R185). -/
def names (kind number : Byte) (t : Target) : Prop :=
  match t with
  | .group n => kind = 0#8 ∧ number.toNat = n
  | .global => kind = 1#8
  | .curve n => kind = 2#8 ∧ number.toNat = n

/-- The curve id fields of a group (R170). -/
def curveFields : List Nat := [2, 8, 14, 20, 26, 32, 38]

/-- Field i of a page fails a check of R175: its range, a curve id that names an unloaded user curve, or a breakpoint that does not go on
from the one before. Of a curve the fields beyond the count are not checked. -/
def failsCheck (st : Store) (t : Target) (p : Page) (i : Nat) : Prop :=
  match t with
  | .group _ =>
    ¬ inRange t i (p.field i) ∨ (i ∈ curveFields ∧ 4 ≤ p.field i ∧ (st.curves.getD (p.field i - 4) unloadedCurve).field 0 = 0)
  | .global => ¬ inRange t i (p.field i)
  | .curve _ =>
    i ≤ 2 * p.field 0 ∧
      (¬ inRange t i (p.field i) ∨ (3 ≤ i ∧ i % 2 = 1 ∧ p.field i ≤ p.field (i - 2)) ∨
        (4 ≤ i ∧ i % 2 = 0 ∧ p.field (i - 2) < p.field i))

/-- SEQ is settled: a selection or a commit of the active group acts at once (R65, R175). -/
def seqSettled (s : State) : Prop :=
  s.seq.state = .lockout ∨ s.seq.state = .mechFail ∨ (s.seq.state = .closed ∧ s.peu.allQuiet = true)

/-- A group page names a curve (R175). -/
def usesCurve (p : Page) (n : Nat) : Prop := ∃ i ∈ curveFields, p.field i = n

/-- Every element after a group application (R35 of spec/02). -/
def applied (s t : State) : Prop :=
  ∀ e, t.peu.elems.get e =
    if (s.peu.elems.get e).st = .operated then s.peu.elems.get e
    else ⟨if (s.peu.elems.get e).st = .disabled then .disabled else .quiet, 0⟩

/-- The page a commit stores: the staged one, of a curve with the fields beyond the count as 0 (R172, R176). -/
def isStored (t : Target) (staged p : Page) : Prop :=
  p.length = staged.length ∧ ∀ i < staged.length, p.field i =
    match t with
    | .curve _ => if 2 * staged.field 0 < i then 0 else staged.field i
    | .group _ => staged.field i
    | .global => staged.field i

/-! ### HLC (spec/10) -/

/-- The first k entries of a list are the most whole entries that fit in some bytes (R186). -/
def fillsPage (room : Nat) (entries : List Bytes) (k : Nat) : Prop :=
  k ≤ entries.length ∧ (entries.take k).flatten.length ≤ room ∧ (k < entries.length → room < (entries.take (k + 1)).flatten.length)

/-- A host request's kind, tag and body bytes (R185). -/
def spelled : Instr → Option (Byte × Byte × Bytes)
  | .identify tag => some (0x01#8, tag, [])
  | .readMeasure tag => some (0x02#8, tag, [])
  | .readState tag sect start => some (0x03#8, tag, [sect, start])
  | .hostOpen tag => some (0x10#8, tag, [])
  | .hostClose tag => some (0x11#8, tag, [])
  | .mechFailClear tag => some (0x12#8, tag, [])
  | .tagPlace tag crew mode expiry => some (0x20#8, tag, be2 crew.toNat ++ [mode] ++ be2 expiry.toNat)
  | .tagRemove tag number crew => some (0x21#8, tag, be2 number.toNat ++ be2 crew.toNat)
  | .tagClear tag number => some (0x22#8, tag, be2 number.toNat)
  | .tagRead tag selector value => some (0x23#8, tag, [selector] ++ be2 value.toNat)
  | .recordRead tag number => some (0x30#8, tag, be4 number.toNat)
  | .wearReset tag phase => some (0x31#8, tag, [phase])
  | .timeSet tag time => some (0x32#8, tag, be4 time.toNat)
  | .batteryTestStart tag => some (0x40#8, tag, [])
  | .batteryTestCancel tag => some (0x41#8, tag, [])
  | .stageOpen tag kind number => some (0x50#8, tag, [kind, number])
  | .stageLoad tag value advance => some (0x51#8, tag, be4 value.toNat ++ [advance])
  | .stageSeek tag field => some (0x52#8, tag, [field])
  | .stageRead tag => some (0x53#8, tag, [])
  | .commit tag => some (0x54#8, tag, [])
  | .groupSelect tag group => some (0x55#8, tag, [group])
  | .restart tag => some (0x60#8, tag, [])
  | _ => none

/-- The request kinds and the lengths of their bodies (R185). -/
def catalogue : List (Byte × Nat) :=
  [(0x01#8, 0), (0x02#8, 0), (0x03#8, 2), (0x10#8, 0), (0x11#8, 0), (0x12#8, 0), (0x20#8, 5), (0x21#8, 4), (0x22#8, 2), (0x23#8, 3),
   (0x30#8, 4), (0x31#8, 1), (0x32#8, 4), (0x40#8, 0), (0x41#8, 0), (0x50#8, 2), (0x51#8, 5), (0x52#8, 1), (0x53#8, 0), (0x54#8, 0),
   (0x55#8, 1), (0x60#8, 0)]

/-- The frame of a kind, a tag and a body on the line (R182). -/
def onLine (kind tag : Byte) (body : Bytes) : Bytes :=
  [0xD2#8] ++ be1 body.length ++ [kind, tag] ++ body ++ crcBytes (be1 body.length ++ [kind, tag] ++ body)

/-! ### Which commands reach what -/

/-- The commands of spec/09 section 9.6 and of the part's stops, which set every block anew. -/
def startsOrStops : Instr → Bool
  | .coldStart _ | .startDelayEnd _ | .warmStart | .holdUpEnd | .partStop => true
  | _ => false

/-- A magnitude update and its occasions. -/
def updatesLine : Instr → Bool
  | .magnitudeUpdate _ | .liveQualified _ _ | .deadQualified _ _ | .elementOperate _ => true
  | _ => false

/-- A second or a minute of the time base and its occasions. -/
def countsTime : Instr → Bool
  | .timeBaseSecond | .minuteEvent | .tagExpiry | .tagHourlyWrite | .scheduledTestDue | .statusIntervalDue => true
  | _ => false

/-- A battery measurement and its occasions. -/
def measuresBattery : Instr → Bool
  | .batteryMeasurement _ _ | .absorbTimeLimit _ _ | .floatLowRunLimit _ _ | .faultClearRunComplete _ _ | .resyncRunComplete _ _
  | .chargeCountWrite _ _ => true
  | _ => false

/-- A request about tags that may change the table. -/
def changesTags : Instr → Bool
  | .tagPlace _ _ _ _ | .tagRemove _ _ _ | .tagClear _ _ | .radioPacketReceived _ => true
  | _ => false

/-- A request or an event of the staging buffer. -/
def stages : Instr → Bool
  | .stageOpen _ _ _ | .stageLoad _ _ _ | .stageSeek _ _ | .commit _ | .commitComplete | .retainedWriteComplete | .supplyLoss => true
  | _ => false

end Sys2Proof.Machine
end

