-- ==== Sys2Proof/Certificates/Slice0/Obligations.lean ====
section
/-! DEFINITION. The statements for the provers, in the order of OBLIGATIONS.json. Premises on the state and the operands alone come before the step. -/

open Sys2Proof Sys2Proof.Machine

/-- For every command c, state s and queue: the step of s with c at the front of its queue is exec of c on s with the rest of
the queue. (The queue is the model's own, log 1.) (00_scope.md section 4.5.) -/
def Obligations.StepTakesFront : Prop :=
  ∀ (c : Instr) (rest : List Instr) (s : State),
    step { s with pending := c :: rest } = exec c { s with pending := rest }

/-- On an empty queue a step is exec of the part's own due event, where one is due, and otherwise one millisecond of running
time (DESIGN CHOICE, log 1 and log 28). The millisecond of a started part runs the pulse timer up to 120 ms of a trip pulse and
200 ms of a close pulse, the held count in TRIP_HELD, and the 100 ms before the start reading; runs SEQ's dead and hold timers
down, and its reclaim timer but while the PEU times; runs the settling time up to 5,000 ms, the load time to 30,000, the
suspended time to 600,000 and the trip wait to 30,000, each in its own state; moves the frame timing on within 8,000 ms, a new
frame's slot 0 being untested, a mark that is the model's (log 26); and counts the milliseconds since a supply loss. Nothing
else changes, and in a part not started only the last is counted. (R59, R70, R71, R73, R122, R124, R150, R179, 00_scope.md
section 4.5, 03_the_shot_sequencer.md section 3.4.) -/
def Obligations.EmptyQueueRuns : Prop :=
  ∀ s : State, s.pending = [] →
    let sst := { s.sst with lostMs := if s.sst.lost then s.sst.lostMs + 1 else s.sst.lostMs }
    (∀ c, due s = some c → step s = exec c s) ∧
    (due s = none → s.stage.started = false → step s = .next { s with sst := sst }) ∧
    (due s = none → s.stage.started = true →
      ∃ t, step s = .next t ∧ (∀ n, s.seq.deadLeft = some (n + 1) → t.seq.deadLeft = some n) ∧
        (∀ n, s.seq.holdLeft = some (n + 1) → t.seq.holdLeft = some n) ∧
        (∀ n, s.seq.reclaimLeft = some (n + 1) → t.seq.reclaimLeft = some (if s.peu.timing then n + 1 else n)) ∧
        t = { s with act := t.act, seq := t.seq, bcu := t.bcu, rcc := t.rcc, sst := sst } ∧
        t.act = { s.act with
          pulseMs := if s.act.state = .tripPulse then s.act.pulseMs.map fun n => min 120 (n + 1)
            else if s.act.state = .closePulse then s.act.pulseMs.map fun n => min 200 (n + 1) else s.act.pulseMs
          heldMs := if s.act.state = .tripHeld then s.act.heldMs.map fun n => n + 1 else s.act.heldMs
          startMs := if s.act.startRead then s.act.startMs else min 100 (s.act.startMs + 1) } ∧
        t.seq = { s.seq with
          deadLeft := s.seq.deadLeft.map fun n => n - 1
          holdLeft := s.seq.holdLeft.map fun n => n - 1
          reclaimLeft := if s.peu.timing then s.seq.reclaimLeft else s.seq.reclaimLeft.map fun n => n - 1 } ∧
        t.bcu = { s.bcu with
          settleMs := if s.bcu.test = .settling then min 5000 (s.bcu.settleMs + 1) else s.bcu.settleMs
          loadMs := if s.bcu.test = .loaded then min 30000 (s.bcu.loadMs + 1) else s.bcu.loadMs
          suspMs := if s.bcu.test = .suspended then min 600000 (s.bcu.suspMs + 1) else s.bcu.suspMs
          tripWaitMs := if s.bcu.shutdown = some .tripWait then min 30000 (s.bcu.tripWaitMs + 1) else s.bcu.tripWaitMs } ∧
        t.rcc = { s.rcc with
          frameMs := s.rcc.frameMs.map fun n => (n + 1) % 8000
          missTested := if s.rcc.frameMs = some 7999 then false else s.rcc.missTested })

/-- Every well-formed command, in every state, is followed by a next state in which the queue of commands is as it was: the part
has no condition that stops it, and the queue is the model's own (log 1). An update without its 16 sample sets is no event of
the part and faults (log 5). (00_scope.md section 4.5, 01_line_sensing_and_measurement.md section 1.2.) -/
def Obligations.EveryCommandCompletes : Prop :=
  ∀ (c : Instr) (s : State),
    (c.wellFormed = true → ∃ t, exec c s = .next t ∧ t.pending = s.pending) ∧
    (∀ block, block.length ≠ 16 → exec (.magnitudeUpdate block) s = .fault .blockLength ∧
      exec (.elementOperate block) s = .fault .blockLength ∧
      ∀ side, exec (.liveQualified side block) s = .fault .blockLength ∧ exec (.deadQualified side block) s = .fault .blockLength)

/-- At a magnitude update with the window holding limited samples: the window afterwards is the most recent N sample sets. Where
the update fills the windows or finds them full, each current channel's flag is set exactly when the window holds a sample of
-28,000 or 28,000 of that channel, its magnitude is then 20,000, and otherwise it is the floor of the root of the floored mean
square, at most 20,000; each voltage channel's flag is set exactly when the window holds a sample of -60,000 or 60,000, and its
magnitude is the root mean square, at most 40,000, in either case; measurement valid is set. Where the windows are still
filling, the fill count grows by 16, every magnitude is 0, every flag and measurement valid are clear, and both sides keep their
line states and runs. (R4.) -/
def Obligations.UpdateFormsMagnitudes : Prop :=
  ∀ (block : List SampleSet) (s : State),
    block.length = 16 → s.stage.started = true → s.lsu.sound →
    ∃ t, exec (.magnitudeUpdate block) s = .next t ∧
      t.lsu.window = lastN s.lsu.winLen (s.lsu.window ++ block.map limitSamples) ∧
      (s.lsu.fillsNow →
        t.lsu.fill = s.lsu.winLen ∧ t.lsu.meas.valid = true ∧
        (∀ ch ∈ currentChannels,
          let saturated := ∃ x ∈ t.lsu.window, ch.1 x = 28000 ∨ ch.1 x = -28000
          (ch.2.2 t.lsu.meas = true ↔ saturated) ∧
          (saturated → ch.2.1 t.lsu.meas = 20000) ∧
          (¬ saturated → ch.2.1 t.lsu.meas = min 20000 (rootMeanSquare s.lsu.winLen (t.lsu.window.map ch.1)))) ∧
        (∀ ch ∈ voltageChannels,
          (ch.2.2 t.lsu.meas = true ↔ ∃ x ∈ t.lsu.window, ch.1 x = 60000 ∨ ch.1 x = -60000) ∧
          ch.2.1 t.lsu.meas = min 40000 (rootMeanSquare s.lsu.winLen (t.lsu.window.map ch.1)))) ∧
      (¬ s.lsu.fillsNow →
        t.lsu.fill = s.lsu.fill + 16 ∧ t.lsu.meas = ⟨0, 0, 0, 0, 0, 0, false, false, false, false, false, false, false⟩ ∧
        t.lsu.source = s.lsu.source ∧ t.lsu.load = s.lsu.load)

/-- At a full magnitude update, for each side, with its voltage magnitude of this update: HIGH adds 1 to the live run, held at
50, and sets the dead run to 0; LOW adds 1 to the dead run, held at 30, and sets the live run to 0; BAND sets both to 0. The
line state becomes LIVE at the update at which the live run reaches 50, DEAD at the update at which the dead run reaches 30, and
otherwise stays. (R12, R13.) -/
def Obligations.LineStatesFollowTheRuns : Prop :=
  ∀ (block : List SampleSet) (s : State) (side : Side),
    block.length = 16 → s.stage.started = true → s.lsu.sound → s.lsu.fillsNow → s.lsu.deadV < s.lsu.liveV →
    ∃ t, exec (.magnitudeUpdate block) s = .next t ∧
      let v := t.lsu.meas.volts side
      let old := s.lsu.side side
      let new := t.lsu.side side
      (s.lsu.liveV ≤ v → new.liveRun = min 50 (old.liveRun + 1) ∧ new.deadRun = 0) ∧
      (v < s.lsu.deadV → new.deadRun = min 30 (old.deadRun + 1) ∧ new.liveRun = 0) ∧
      (s.lsu.deadV ≤ v → v < s.lsu.liveV → new.liveRun = 0 ∧ new.deadRun = 0) ∧
      new.line = (if new.liveRun = 50 ∧ old.liveRun ≠ 50 then LineState.live
        else if new.deadRun = 30 ∧ old.deadRun ≠ 30 then LineState.dead else old.line)

/-- Where this update is full and a side one update short of its target measures HIGH (for LIVE) or LOW (for DEAD) and is not in
that line state yet, the command that names the occasion completes with that side in the new line state and its run at the
target. Where the side's run is shorter the command changes nothing (log 2, log 4). In a running part with no element operating,
no fault departure, no selection pending and no content held, an update that takes the source side from LIVE to DEAD records
SOURCE_LOST and from DEAD to LIVE SOURCE_RESTORED, the latter first where a reclose on hold for the source is retried at this
update, whose own records follow; one that leaves the line state, or qualifies it from UNKNOWN, leaves the ring as it was but
for such a retry. That SEQ hears of a LIVE source only after the SOURCE record is the model's order inside an update (log 13).
(R12, R13, R14, 95_what_each_step_holds.md.) -/
def Obligations.SideQualifies : Prop :=
  ∀ (block : List SampleSet) (side : Side) (s : State), block.length = 16 →
    (s.stage.started = true → s.lsu.sound → s.lsu.fillsNow → s.lsu.deadV < s.lsu.liveV →
      ((s.lsu.side side).liveRun = 49 → (s.lsu.side side).line ≠ .live → s.lsu.liveV ≤ (s.lsu.push block).meas.volts side →
        ∃ t, exec (.liveQualified side block) s = .next t ∧ (t.lsu.side side).line = .live ∧ (t.lsu.side side).liveRun = 50) ∧
      ((s.lsu.side side).deadRun = 29 → (s.lsu.side side).line ≠ .dead → (s.lsu.push block).meas.volts side < s.lsu.deadV →
        ∃ t, exec (.deadQualified side block) s = .next t ∧ (t.lsu.side side).line = .dead ∧ (t.lsu.side side).deadRun = 30) ∧
      ((s.lsu.side side).liveRun < 49 → exec (.liveQualified side block) s = .next s) ∧
      ((s.lsu.side side).deadRun < 29 → exec (.deadQualified side block) s = .next s)) ∧
    (s.runs → noProtectionEvent block s → s.seq.pendingGroup = none → s.sst.held = none →
      ∃ t, exec (.magnitudeUpdate block) s = .next t ∧
        (s.lsu.source.line = .live → t.lsu.source.line = .dead → recorded .sourceLost s t) ∧
        (s.lsu.source.line = .dead → t.lsu.source.line = .live →
          recordedFirst .sourceRestored s t ∧ (¬ sourceRetries block s → recorded .sourceRestored s t)) ∧
        (¬ sourceRetries block s → (s.lsu.source.line = t.lsu.source.line ∨ s.lsu.source.line = .unknown) → t.orl.ring = s.orl.ring))

/-- For breakpoints with strictly ascending multiples and non-increasing times: at or below the first multiple the curve time is
the first time, at or above the last it is the last time, and for a multiple at or above the first and below the second of a
neighbouring pair it is the first time less (M - M1) times the time difference divided by the multiple difference and truncated
toward zero. (R27.) -/
def Obligations.CurveTimeIsInterpolated : Prop :=
  ∀ (m1 t1 m2 t2 m : Nat) (before after : List (Nat × Nat)),
    let curve := before ++ (m1, t1) :: (m2, t2) :: after
    curve.Pairwise (fun x y => x.1 < y.1 ∧ y.2 ≤ x.2) →
    (∀ x ∈ curve.head?, m ≤ x.1 → curveTime curve m = x.2) ∧
    (∀ x ∈ curve.getLast?, x.1 ≤ m → curveTime curve m = x.2) ∧
    (m1 ≤ m → m < m2 → curveTime curve m = t1 - (m - m1) * (t1 - t2) / (m2 - m1))

/-- At a magnitude update of a running part at which no reclose on hold for the source is retried (which may clear the elements
afterwards), with the element's settings of the active group and the magnitude it measures at this update: a disarmed element
becomes DISABLED with 0; an OPERATED one stays; in the pickup band the accumulator grows by 2,000,000 over the effective operate
time, held at 1,000,000 where the element becomes OPERATED, else it is TIMING; in the hold band it stays, HELD or QUIET; in the
reset band it becomes 0 with reset time 0, and otherwise falls by 2,000,000 over the reset time, RESETTING or QUIET. A newly
armed element counts from 0. Armed are exactly the elements whose enable setting is yes and, for the five elements of the shot
table, that the active group's entry for the next trip number (shot counter plus 1, at most 4) lists, and, for HLP and HLG,
while the effective tag mode is not NONE. (R19, R20, R21, R24, R32, R33.) -/
def Obligations.ElementsCompute : Prop :=
  ∀ (block : List SampleSet) (s : State) (e : Element),
    block.length = 16 → s.runs → ¬ sourceRetries block s →
    ∃ t, exec (.magnitudeUpdate block) s = .next t ∧
      let set := elemSettings s.sst.group e
      let i := measuredBy t.lsu.meas e
      let old := s.peu.elems.get e
      let new := t.peu.elems.get e
      (¬ armedAt s e → new = ⟨.disabled, 0⟩) ∧ (armedAt s e → new.st ≠ .disabled) ∧
      (armedAt s e → old.st = .operated → new = old) ∧
      (armedAt s e → old.st ≠ .operated →
        (set.pickup ≤ i → new.acc = min 1000000 (accBefore old + 2000000 / operateTime s e i) ∧
          new.st = if new.acc = 1000000 then .operated else .timing) ∧
        (i < set.pickup → set.pickup * 95 / 100 ≤ i → new.acc = accBefore old ∧
          new.st = if 0 < accBefore old then .held else .quiet) ∧
        (i < set.pickup → i < set.pickup * 95 / 100 → set.reset = 0 → new = ⟨.quiet, 0⟩) ∧
        (i < set.pickup → i < set.pickup * 95 / 100 → 0 < set.reset → new.acc = accBefore old - 2000000 / set.reset ∧
          new.st = if 0 < new.acc then .resetting else .quiet))

/-- If in s every element's state and accumulator go together as in the table (DISABLED and QUIET 0; TIMING, HELD and RESETTING
between 0 and 1,000,000; OPERATED exactly 1,000,000) and the two summary indications are those of the elements, the same holds
of every state a step of s answers. (R22, R38.) -/
def Obligations.PeuStaysSound : Prop :=
  ∀ s t : State, s.peu.sound → step s = .next t → t.peu.sound

/-- In a running part, ELEMENT_OPERATE with a block at which an element reaches 1,000,000 completes with that element OPERATED,
the first in the table's order that operated at this update, and the capture register, if it was empty, holding this update's A,
B, C and N magnitudes. With ACT IDLE in CLOSED, RECLAIM, DEAD_TIME or RECLOSE_HOLD the timers are stopped and SEQ is in TRIPPING
with a trip in flight that names the element; ACT is in TRIP_PULSE at 0 ms with the converter PAUSED and the voltage kept at 150
V or more, and holds the trip below. In RECLOSING or CLOSING with a close pulse in progress the close ends CUT, trip-free, its
CLOSE record first with its pulse ms at the cut and the latest measurement as voltage after; the trip then begins or is held
alike, and a CLOSE of the host that waits is answered OK. In TRIPPING the request is joined and ACT as it was. In LOCKOUT and
MECH_FAIL SEQ stays and a fresh attempt begins or is held, or is joined to one in flight. That the cut's CLOSE record takes the
event's first number is the model's order inside an update (log 13) and at a cut (log 15). (R31, R44, R47, R58, R72, R73, R74,
R79, R80, R137.) -/
def Obligations.ElementOperateTrips : Prop :=
  ∀ (block : List SampleSet) (s : State) (e : Element),
    block.length = 16 → s.runs → s.seq.decided = true →
    (peuInputs { s with lsu := s.lsu.push block }).cause s.peu = some e →
    ∃ t, exec (.elementOperate block) s = .next t ∧
      (t.peu.elems.get e).st = .operated ∧
      (∀ d, d.index < e.index → (t.peu.elems.get d).st = .operated → (s.peu.elems.get d).st = .operated) ∧
      t.orl.capture = some (s.orl.capture.getD ⟨t.lsu.meas.a, t.lsu.meas.b, t.lsu.meas.c, t.lsu.meas.n⟩) ∧
      (s.seq.state ∈ [SeqState.closed, .reclaim, .deadTime, .recloseHold] → s.act.state = .idle →
        t.seq.state = .tripping ∧ t.seq.trip = some [.element e] ∧ t.seq.deadLeft = none ∧ t.seq.holdLeft = none ∧
        t.seq.reclaimLeft = none ∧ tripBegun s t) ∧
      (s.seq.state ∈ [SeqState.reclosing, .closing] → s.act.state = .closePulse →
        t.seq.state = .tripping ∧ t.seq.trip = some [.element e] ∧ closeCut s t ∧ tripBegun s t ∧
        ∀ f, s.seq.heldClose = some .host → s.hlc.current = some f → t.answered f.kind f.tag .ok []) ∧
      (s.seq.state = .tripping →
        t.seq.state = .tripping ∧ t.seq.trip = some (s.seq.trip.getD [] ++ [.element e]) ∧ t.act = s.act) ∧
      (s.seq.state ∈ [SeqState.lockout, .mechFail] → t.seq.state = s.seq.state ∧
        (s.seq.trip = none → s.act.state = .idle → t.seq.trip = some [.element e] ∧ tripBegun s t) ∧
        ∀ rs, s.seq.trip = some rs → t.seq.trip = some (rs ++ [.element e]) ∧ t.act = s.act)

/-- In a running part in DEAD_TIME, DEAD_TIMER_EXPIRY completes: with the counter at or above the effective trips-to-lockout
formed now, in LOCKOUT with cause SHOTS; else with the reserve CONSERVE or EXHAUSTED, cause CONSERVE; else with the load side
LIVE, cause LOAD_LIVE; else with a live source required and the source side not LIVE, in RECLOSE_HOLD for SOURCE with the wait
limit on the hold timer, or at limit 0 in LOCKOUT with SOURCE_TIMEOUT; else SEQ asks ACT, which is IDLE: with the mechanism-
failure flag set LOCKOUT with cause MECH_CLEARED; else at position UNKNOWN LOCKOUT with EXTERNAL_OPEN, at CLOSED RECLAIM with
the manual-close flag set and counter 0; else with a tag LOCKOUT with cause TAG; else from 250 V RECLOSING with a close pulse of
origin AUTO begun, and below 250 V RECLOSE_HOLD for ENERGY at 30 s. (R52.) -/
def Obligations.DeadTimeEndsByTheChecks : Prop :=
  ∀ s : State, s.stage = .running → s.seq.state = .deadTime →
    ∃ t, exec .deadTimerExpiry s = .next t ∧ recloseDecided true (fun c => lockoutEntered c s t) s t

/-- In a running part in RECLOSE_HOLD with ACT IDLE: for ENERGY, a measurement at or above 250 V after one below makes checks 1
to 4 of the dead time's end again and, if none applies, asks for the close, with the outcomes of DeadTimeEndsByTheChecks; for
SOURCE, the update at which the source side becomes LIVE, with no element operating and no fault departure, makes checks 1 to 3
again alike, a LOW_ENERGY refusal moving the hold to ENERGY at 30 s. HOLD_TIMER_EXPIRY completes in LOCKOUT, with cause
SOURCE_TIMEOUT or ENERGY by the hold reason: timers stopped, elements cleared, manual-close flag clear, cause set, LOCKOUT
record with the counter, write of the lockout queued, a pending group applied. In RECLAIM with timing present clear,
RECLAIM_TIMER_EXPIRY completes in CLOSED with the counter 0 and the flag clear, and with all quiet set a pending group is
applied. With timing present the reclaim timer does not expire. (R43, R53, R54, R55, R59, R65, R84.) -/
def Obligations.HoldIsRetriedOrExpires : Prop :=
  ∀ s : State,
    (s.runs → s.seq.decided = true → s.seq.state = .recloseHold → s.act.state = .idle →
      (∀ volts, s.seq.holdReason = some .energy → s.act.cap < 250 → 250 ≤ volts →
        ∃ t, exec (.capacitorMeasurement volts) s = .next t ∧
          let u := { s with act := { s.act with cap := min 350 volts } }
          recloseDecided true (fun c => lockoutEntered c u t) u t) ∧
      (∀ block, block.length = 16 → s.seq.holdReason = some .source → s.lsu.sound → s.lsu.fillsNow → s.lsu.deadV < s.lsu.liveV →
        s.lsu.source.liveRun = 49 → s.lsu.source.line ≠ .live → s.lsu.liveV ≤ (s.lsu.push block).meas.volts .source →
        noProtectionEvent block s →
        ∃ t, exec (.liveQualified .source block) s = .next t ∧ t.lsu = s.lsu.update block ∧ t.lsu.source.line = .live ∧
          let u := { s with lsu := t.lsu }
          recloseDecided false (fun c => lockedOut c u t) u t)) ∧
    (s.stage = .running → s.seq.state = .recloseHold →
      (s.seq.holdReason = some .source → ∃ t, exec .holdTimerExpiry s = .next t ∧ lockoutEntered .sourceTimeout s t) ∧
      (s.seq.holdReason = some .energy → ∃ t, exec .holdTimerExpiry s = .next t ∧ lockoutEntered .energy s t)) ∧
    (s.seq.state = .reclaim →
      (s.peu.timing = false → ∃ t, exec .reclaimTimerExpiry s = .next t ∧ t.seq.state = .closed ∧ t.seq.shots = 0 ∧
        t.seq.manual = false ∧ t.seq.reclaimLeft = none ∧ t.act = s.act ∧
        ∀ g, s.seq.pendingGroup = some g →
          (s.peu.allQuiet = true → t.sst.active = g ∧ t.seq.pendingGroup = none) ∧
          (s.peu.allQuiet = false → t.sst.active = s.sst.active ∧ t.seq.pendingGroup = some g)) ∧
      (s.peu.timing = true → exec .reclaimTimerExpiry s = .next s))

/-- In a running part with a trip in flight and ACT in TRIP_PULSE or TRIP_HELD, the debounced reading that makes the position
OPEN ends the trip DONE: ACT is IDLE, the trip absent, the elements cleared. In TRIPPING with element requests alone the counter
grows by 1, held at 4; otherwise it stays. The TRIP record carries the first request's cause, the counter as it then stands, the
capture for an element, and ACT's part: outcome DONE, pulse ms and voltages, or for a held trip 0 ms and the latest measurement
twice; held ms; the A, B and C magnitudes. In TRIPPING, with an EXHAUSTION request joined SEQ enters LOCKOUT with cause
EXHAUSTION; else with a COMMAND joined, cause COMMAND_OPEN; else, with the manual-close flag set or the counter at or above the
effective trips-to-lockout, formed with the wear limit as it then stands, cause SHOTS; else DEAD_TIME with that dead time. In
LOCKOUT and MECH_FAIL SEQ keeps all else, its state and cause included, and no LOCKOUT record is made. With an EXHAUSTION
request joined a shutdown in TRIP_WAIT goes to WRITE_WAIT. Whether the wear limit of this very trip counts is the order of log
7; that the TRIP record takes the event's first number, before a LOCKOUT record, in either order of its parts is the model's
choice (log 14). (R46, R47, R48, R50, R51, R73, R74, R75, R122, R137.) -/
def Obligations.TripCompletesOpen : Prop :=
  ∀ (s : State) (fin : PulseEnd) (r : TripReq) (rest : List TripReq),
    s.runs → s.seq.decided = true → s.seq.state ∈ [SeqState.tripping, .lockout, .mechFail] →
    s.act.state = .tripPulse ∨ s.act.state = .tripHeld → opensNow s → s.orl.part = none → s.seq.trip = some (r :: rest) →
    ∃ t, exec (.contactDebounced .openContact .made 4 fin) s = .next t ∧
      let elements := ∀ x ∈ r :: rest, ∃ e, x = .element e
      let exhausted := TripReq.exhaustion ∈ r :: rest
      let commanded := ∃ a, TripReq.command a ∈ r :: rest
      let limited := if fin.partFirst then t.orl.limit else s.orl.limit
      let limit := if s.tag.table.mode ≠ .none ∨ limited = true ∨ s.seq.manual = true then 1 else s.sst.group.field 46
      let pulse : PulsePart := if s.act.state = .tripPulse
        then ⟨.done, s.act.pulseMs.getD 0, s.act.heldMs, s.act.before.getD 0, min 350 fin.capAfter, s.lsu.meas.a, s.lsu.meas.b, s.lsu.meas.c⟩
        else ⟨.done, 0, s.act.heldMs, s.act.cap, s.act.cap, s.lsu.meas.a, s.lsu.meas.b, s.lsu.meas.c⟩
      let lockedBy := fun (c : Cause) => t.seq.state = .lockout ∧ t.seq.cause = some c ∧ t.seq.manual = false ∧
        writeQueued (.lockout (some c)) t ∧ ∃ x ∈ t.orl.ring, x.body = .lockout c t.seq.shots
      t.seq.trip = none ∧ t.act.state = .idle ∧ t.act.position = .isOpen ∧ cleared s t ∧
      (s.seq.state = .tripping → elements → t.seq.shots = min 4 (s.seq.shots + 1)) ∧
      (s.seq.state ≠ .tripping ∨ ¬ elements → t.seq.shots = s.seq.shots) ∧
      recordedFirst (.trip ⟨r, t.seq.shots⟩ (if r.isElement then s.orl.capture else none) pulse) s t ∧ t.orl.capture = none ∧
      (s.seq.state = .tripping →
        (exhausted → lockedBy .exhaustion) ∧
        (¬ exhausted → commanded → lockedBy .commandOpen) ∧
        (elements → s.seq.manual = true ∨ limit ≤ t.seq.shots → lockedBy .shots) ∧
        (elements → s.seq.manual = false → t.seq.shots < limit → t.seq.state = .deadTime ∧ t.seq.deadNo = some t.seq.shots ∧
          t.seq.deadLeft = some (s.sst.group.field (46 + t.seq.shots)))) ∧
      (s.seq.state ≠ .tripping → t.seq = { s.seq with trip := none } ∧
        ∀ x ∈ t.orl.ring, x ∈ s.orl.ring ∨ ∀ c n, x.body ≠ .lockout c n) ∧
      t.bcu.shutdown = (if exhausted ∧ s.bcu.shutdown = some .tripWait then some .writeWait else s.bcu.shutdown)

/-- In a running part with a trip pulse in progress, a trip in flight and no group or content waiting, TRIP_PULSE_TIMEOUT, and
with the timer at 120 ms, where the coil is off, the next CAPACITOR_MEASUREMENT, completes with ACT IDLE, the mechanism-failure
flag set and its write queued if it was clear, the trip absent and the counter unchanged. In TRIPPING or LOCKOUT SEQ enters
MECH_FAIL; in MECH_FAIL it stays. The TRIP record has outcome NO_MOVE, a pulse of 120 ms and as voltage after the measurement
that the event brings, and takes the event's first number, before the MECH_FAIL record, in either order of its parts (the
model's choice, log 14); a MECH_FAIL record names the trip pulse, the elements are not cleared. That a pulse at 120 ms waits for
that measurement is the model's form (log 49). With a close pulse in RECLOSING or CLOSING, CLOSE_PULSE_TIMEOUT completes in
LOCKOUT with cause MECH_CLEARED, the flag set, a MECH_FAIL record naming the close pulse, a CLOSE record of outcome NO_MOVE and
200 ms, its voltage after as the event brings it (log 49), and no operation counted; a held CLOSE of the host is answered
MECH_FAIL. (R49, R50, R56, R58, R74, R78, R80, R81.) -/
def Obligations.PulsesWithoutMovement : Prop :=
  ∀ (s : State) (fin : PulseEnd) (volts : Nat), s.runs →
    (s.act.state = .tripPulse → s.act.pulseMs = some 120 → s.tripDrive = false) ∧
    (∀ c after r rest,
      (c = .tripPulseTimeout fin ∧ after = min 350 fin.capAfter) ∨
        (s.act.pulseMs = some 120 ∧ c = .capacitorMeasurement volts ∧ after = min 350 volts) →
      s.act.state = .tripPulse → s.seq.trip = some (r :: rest) → s.orl.part = none →
      s.seq.state ∈ [SeqState.tripping, .lockout, .mechFail] → s.seq.pendingGroup = none → s.sst.held = none →
      ∃ t, exec c s = .next t ∧ t.seq.state = .mechFail ∧ t.seq.trip = none ∧ t.seq.shots = s.seq.shots ∧
        t.act.state = .idle ∧ t.act.mech = true ∧ (s.act.mech = false → writeQueued (.mech true) t) ∧ t.peu = s.peu ∧
        recordedFirst (.trip ⟨r, s.seq.shots⟩ (if r.isElement then s.orl.capture else none)
          ⟨.noMove, 120, s.act.heldMs, s.act.before.getD 0, after, s.lsu.meas.a, s.lsu.meas.b, s.lsu.meas.c⟩) s t ∧
        (∃ x ∈ t.orl.ring, x.body = .mechFail .trip) ∧ t.orl.capture = none) ∧
    (s.act.state = .closePulse → s.seq.state ∈ [SeqState.reclosing, .closing] →
      ∃ t, exec (.closePulseTimeout fin) s = .next t ∧ t.seq.state = .lockout ∧ t.seq.cause = some .mechCleared ∧
        t.seq.shots = s.seq.shots ∧ t.act.state = .idle ∧ t.act.mech = true ∧ t.orl.opCount = s.orl.opCount ∧
        (∃ x ∈ t.orl.ring, x.body = .mechFail .close) ∧
        (∃ x ∈ t.orl.ring, x.body = .close (s.act.origin.getD .auto) .noMove 200 (s.act.before.getD 0) (min 350 fin.capAfter)) ∧
        (∀ f, s.seq.state = .closing → s.seq.heldClose = some .host → s.hlc.current = some f → t.answered f.kind f.tag .mechFail []))

/-- In a running part with a close pulse in progress, the debounced reading that makes the position CLOSED ends it DONE: a CLOSE
record with its origin, pulse ms and voltages, one operation counted. From RECLOSING SEQ enters RECLAIM with the reclaim time,
the counter as it was and the manual-close flag clear, whatever the tags; while a tag stands the effective trips-to-lockout is 1
all the same. From CLOSING it enters RECLAIM with counter 0 and the flag set, and the held CLOSE of the host is answered OK.
That R56 decides over what R96 says of the flag under a tag accepted DEFERRED_IN_FLIGHT is deduced from section 1.2 (log 50),
and which measurement is the voltage after is log 49. (R42, R56, R58, R78, R80, R144, 00_scope.md section 1.2.) -/
def Obligations.CloseCompletes : Prop :=
  ∀ (s : State) (fin : PulseEnd),
    s.runs → s.seq.decided = true → s.act.state = .closePulse → closesNow s →
    s.seq.state ∈ [SeqState.reclosing, .closing] →
    ∃ t, exec (.contactDebounced .closedContact .made 4 fin) s = .next t ∧
      t.seq.state = .reclaim ∧ t.seq.reclaimLeft = some (s.sst.group.field 50 * 1000) ∧ t.act.state = .idle ∧
      recorded (.close (s.act.origin.getD .auto) .done (s.act.pulseMs.getD 0) (s.act.before.getD 0) (min 350 fin.capAfter)) s t ∧
      (s.orl.opCount < 4294967295 → t.orl.opCount = s.orl.opCount + 1) ∧
      (s.seq.state = .reclosing → t.seq.shots = s.seq.shots ∧ t.seq.manual = false) ∧
      (s.tag.table.tags ≠ [] → t.tag.table = s.tag.table ∧ tripsToLockout t = 1) ∧
      (s.seq.state = .closing → t.seq.shots = 0 ∧ t.seq.manual = true ∧ t.seq.heldClose = none ∧
        ∀ f, s.seq.heldClose = some .host → s.hlc.current = some f → t.answered f.kind f.tag .ok [])

/-- In a part that serves requests, OPEN with the key switch at LOCAL or REMOTE is answered OK in every case but one: from
CLOSED or RECLAIM with ACT IDLE SEQ enters TRIPPING with a trip of kind COMMAND of that authority, begun at 150 V or held below;
in RECLOSING or CLOSING with a close pulse in progress the close is cut, its CLOSE record first, and SEQ enters TRIPPING with
that trip begun or held alike; in TRIPPING it is joined; in DEAD_TIME or RECLOSE_HOLD SEQ enters LOCKOUT with cause
COMMAND_OPEN; in LOCKOUT with the position UNKNOWN or CLOSED, and in MECH_FAIL at every position, SEQ stays and a fresh trip
attempt is begun or held with ACT IDLE, or joined to the attempt in flight. In LOCKOUT with the position OPEN nothing changes
but the reply ALREADY_OPEN, also with a fresh attempt in flight, which is the model's reading of R45 against R47 (log 42). (R45,
R47, R72, R73, R79.) -/
def Obligations.HostOpens : Prop :=
  ∀ (tag : Byte) (s : State), s.serving → s.seq.decided = true →
    let a : Authority := if s.hlc.key = .loc then .loc else .link
    (s.seq.state ∈ [SeqState.closed, .reclaim] → s.act.state = .idle →
      ∃ t, exec (.hostOpen tag) s = .next t ∧ t.seq.state = .tripping ∧ t.seq.trip = some [.command a] ∧ t.seq.reclaimLeft = none ∧
        tripBegun s t ∧ t.answered 0x10#8 tag .ok []) ∧
    (s.seq.state ∈ [SeqState.reclosing, .closing] → s.act.state = .closePulse →
      ∃ t, exec (.hostOpen tag) s = .next t ∧ t.seq.state = .tripping ∧ t.seq.trip = some [.command a] ∧
        closeCut s t ∧ tripBegun s t ∧ t.answered 0x10#8 tag .ok []) ∧
    (s.seq.state = .tripping →
      ∃ t, exec (.hostOpen tag) s = .next t ∧ t.seq.state = .tripping ∧ t.seq.trip = some (s.seq.trip.getD [] ++ [.command a]) ∧
        t.act = s.act ∧ t.answered 0x10#8 tag .ok []) ∧
    (s.seq.state ∈ [SeqState.deadTime, .recloseHold] →
      ∃ t, exec (.hostOpen tag) s = .next t ∧ lockoutEntered .commandOpen s t ∧ t.answered 0x10#8 tag .ok []) ∧
    (s.seq.state = .lockout → s.act.position = .isOpen →
      exec (.hostOpen tag) s = .next (s.replied 0x10#8 tag .alreadyOpen [])) ∧
    (s.seq.state = .mechFail ∨ (s.seq.state = .lockout ∧ s.act.position ≠ .isOpen) →
      ∃ t, exec (.hostOpen tag) s = .next t ∧ t.seq.state = s.seq.state ∧ t.answered 0x10#8 tag .ok [] ∧
        (s.seq.trip = none → s.act.state = .idle → t.seq.trip = some [.command a] ∧ tripBegun s t) ∧
        ∀ rs, s.seq.trip = some rs → t.seq.trip = some (rs ++ [.command a]) ∧ t.act = s.act)

/-- In a part that serves requests, CLOSE in LOCKOUT: with ACT not IDLE it is refused BUSY; else with the mechanism-failure flag
set MECH_FAIL; else at position UNKNOWN POSITION_UNKNOWN, at CLOSED NOT_LOCKED_OUT; else with a NO_CLOSE tag TAG_NO_CLOSE; else
from LINK with a NO_RECLOSE tag TAG_NO_RECLOSE; else from LINK with the reserve CONSERVE or EXHAUSTED CONSERVE; else below 250 V
LOW_ENERGY; else, so from LOCAL with a NO_RECLOSE tag or a low reserve too, the pulse begins with the origin of the key switch,
the counter becomes 0, the manual-close flag is set, SEQ enters CLOSING with the cause absent and the write queued, and the
reply waits. In MECH_FAIL it is refused MECH_FAIL; in every other state NOT_LOCKED_OUT. A refusal changes nothing but the
transmit list. (R57, R76.) -/
def Obligations.HostCloses : Prop :=
  ∀ (tag : Byte) (s : State), s.serving → s.seq.decided = true →
    let o : Origin := if s.hlc.key = .loc then .loc else .link
    let atKey := s.hlc.key = .loc
    let barred := s.bcu.level = .conserve ∨ s.bcu.level = .exhausted
    let noClose := ∃ x ∈ s.tag.table.tags, x.mode = .noClose
    let noReclose := ∃ x ∈ s.tag.table.tags, x.mode = .noReclose
    let refused := fun (r : Res) => exec (.hostClose tag) s = .next (s.replied 0x11#8 tag r [])
    (s.seq.state = .lockout →
      (s.act.state ≠ .idle → refused .busy) ∧
      (s.act.state = .idle → s.act.mech = true → refused .mechFail) ∧
      (s.act.state = .idle → s.act.mech = false →
        (s.act.position = .unknown → refused .positionUnknown) ∧
        (s.act.position = .closed → refused .notLockedOut) ∧
        (s.act.position = .isOpen → noClose → refused .tagNoClose) ∧
        (s.act.position = .isOpen → ¬ noClose →
          (noReclose → ¬ atKey → refused .tagNoReclose) ∧
          (¬ noReclose ∨ atKey →
            (barred → ¬ atKey → refused .conserve) ∧
            (¬ barred ∨ atKey →
              (s.act.cap < 250 → refused .lowEnergy) ∧
              (250 ≤ s.act.cap →
                ∃ t, exec (.hostClose tag) s = .next t ∧ t.seq.state = .closing ∧ t.seq.shots = 0 ∧ t.seq.manual = true ∧
                  t.seq.cause = none ∧ t.seq.heldClose = some .host ∧ writeQueued (.lockout none) t ∧
                  t.act.state = .closePulse ∧ t.act.pulseMs = some 0 ∧ t.act.before = some s.act.cap ∧ t.act.origin = some o ∧
                  t.hlc.tx = s.hlc.tx ∧ t.hlc.current = some ⟨0x11#8, tag, .closeBreaker⟩)))))) ∧
    (s.seq.state = .mechFail → refused .mechFail) ∧
    (s.seq.state ∉ [SeqState.lockout, .mechFail] → refused .notLockedOut)

/-- In a running part with ACT IDLE and no trip in flight: the position becoming OPEN in CLOSED or RECLAIM enters LOCKOUT with
cause EXTERNAL_OPEN; becoming CLOSED in DEAD_TIME, RECLOSE_HOLD or LOCKOUT enters RECLAIM with counter 0, the manual-close flag
set and the reclaim timer started, the lockout cause absent; becoming UNKNOWN in DEAD_TIME or RECLOSE_HOLD enters LOCKOUT with
cause EXTERNAL_OPEN; becoming UNKNOWN in CLOSED or RECLAIM leaves SEQ as it is. (R62.) -/
def Obligations.BreakerMovesUnasked : Prop :=
  ∀ (s : State) (fin : PulseEnd),
    s.runs → s.seq.decided = true → s.act.state = .idle → s.seq.trip = none →
    (s.seq.state ∈ [SeqState.closed, .reclaim] → opensNow s →
      ∃ t, exec (.contactDebounced .openContact .made 4 fin) s = .next t ∧ t.act.position = .isOpen ∧
        lockoutEntered .externalOpen s t) ∧
    (s.seq.state ∈ [SeqState.deadTime, .recloseHold, .lockout] → closesNow s →
      ∃ t, exec (.contactDebounced .closedContact .made 4 fin) s = .next t ∧ t.act.position = .closed ∧ reclaimByHand s t ∧
        (s.seq.state = .lockout → t.seq.cause = none ∧ writeQueued (.lockout none) t)) ∧
    (s.act.closedC.stable = some .notMade → s.act.position ≠ .unknown →
      ∃ t, exec (.contactDebounced .openContact .notMade 4 fin) s = .next t ∧ t.act.position = .unknown ∧
        (s.seq.state ∈ [SeqState.deadTime, .recloseHold] → lockoutEntered .externalOpen s t) ∧
        (s.seq.state ∉ [SeqState.deadTime, .recloseHold] → t.seq = s.seq))

/-- In a running part, at a magnitude update with no selection pending, no content held and no reclose retried. The update
raises a fault departure exactly when the detector is armed, an armed fast element had an accumulator above 0 as the update
found it (0 if newly armed), no element is OPERATED after it, and every armed fast element's magnitude is below its dropout.
Raised in CLOSED or RECLAIM, with coordination on, the manual-close flag clear, the source side LIVE and the counter below the
number of leading shot-table entries with an enabled fast element, the counter grows by 1, SEQ is in RECLAIM with the reclaim
timer afresh, and a COORDINATION record carries the new counter. In any other case, raised or not, with no element operating,
SEQ is as it was and no record but the source side's own is made. After the update the detector is armed exactly when it was and
no departure was raised, or when every armed fast element is QUIET. That the line state read is the one before this update, and
COORDINATION the first of its records, is the model's choice (log 13). (R36, R37, R60.) -/
def Obligations.CoordinationStep : Prop :=
  ∀ (block : List SampleSet) (s : State),
    block.length = 16 → s.runs → s.seq.decided = true → s.seq.pendingGroup = none → s.sst.held = none → ¬ sourceRetries block s →
    ∃ t, exec (.magnitudeUpdate block) s = .next t ∧
      let raised := departureRaised block s
      let counts := s.seq.state ∈ [SeqState.closed, .reclaim] ∧ s.sst.group.field 51 = 1 ∧ s.seq.manual = false ∧
        s.lsu.source.line = .live ∧ s.seq.shots < fastEntries s.sst.group
      (raised → counts →
        t.seq = { s.seq with state := .reclaim, shots := s.seq.shots + 1, reclaimLeft := some (s.sst.group.field 50 * 1000),
                             deadNo := none, deadLeft := none, holdReason := none, holdLeft := none } ∧
        recordedFirst (.coordination (s.seq.shots + 1)) s t) ∧
      ((∀ e, operatedAfter block s e → (s.peu.elems.get e).st = .operated) → ¬ (raised ∧ counts) →
        t.seq = s.seq ∧ ∀ r ∈ t.orl.ring, r ∈ s.orl.ring ∨ r.body = .sourceLost ∨ r.body = .sourceRestored) ∧
      (t.peu.detector = true ↔ (s.peu.detector = true ∧ ¬ raised) ∨ ∀ e, armedFast s e → (t.peu.elems.get e).st = .quiet)

/-- If in s the shot counter is at most 4, the lockout cause is present exactly in LOCKOUT, the dead timer and its number
exactly in DEAD_TIME, the hold timer and its reason exactly in RECLOSE_HOLD, the reclaim timer exactly in RECLAIM, a trip is in
flight in TRIPPING, and SEQ has decided exactly when the part runs, before which SEQ is in its placeholder LOCKOUT (DESIGN
CHOICE, log 10) and ACT is IDLE, then the same holds of every state a step of s answers. (R41, R43, R66.) -/
def Obligations.SeqStaysSound : Prop :=
  ∀ s t : State, seqSound s → step s = .next t → seqSound t

/-- When the start reading is taken, at 100 ms without one or from the contacts, SEQ starts in MECH_FAIL with the flag set; else
at position OPEN in LOCKOUT with the retained cause or RESTART; at CLOSED in CLOSED; at UNKNOWN in LOCKOUT with cause RESTART.
The counter, flag, trip, pending group and timers are as the start left them, the part runs, READY of this kind of start is
placed, and the RESTART record is completed. Stated for a start with no event and no record held. (R66, R70, R140,
10_host_link_messages.md R188.) -/
def Obligations.StartDecidesTheState : Prop :=
  ∀ (s : State) (k : StartKind) (fin : PulseEnd),
    s.stage = .starting k → s.seq.events = [] → s.orl.waiting = [] → s.hlc.queue = [] → s.hlc.tx = [] →
    let decided := fun (p : Position) (t : State) =>
      t.stage = .running ∧ t.seq.decided = true ∧ t.act.position = p ∧ t.act.startRead = true ∧ t.peu = s.peu ∧
      t.seq = { s.seq with
        state := if s.act.mech then .mechFail else if p = .closed then .closed else .lockout
        cause := if s.act.mech ∨ p = .closed then none
          else if p = .isOpen then some (s.sst.store.lockout.getD .restart) else some .restart
        decided := true, events := [] } ∧
      recorded (.restart k (s.orl.ring.head?.map (·.number)) (s.orl.ring.getLast?.map (·.number))) s t ∧
      t.hlc.tx.head? = some ⟨0xF1#8, 0#8, [if k = .cold then 0#8 else 1#8], true⟩
    (∃ t, exec .startReadingTimeout s = .next t ∧ decided .unknown t) ∧
    (s.act.closedC.stable = some .notMade → ∃ t, exec (.contactDebounced .openContact .made 4 fin) s = .next t ∧ decided .isOpen t) ∧
    (s.act.openC.stable = some .notMade → ∃ t, exec (.contactDebounced .closedContact .made 4 fin) s = .next t ∧ decided .closed t)

/-- In a part that serves requests, MECH_FAIL_CLEAR: from LINK it is refused with AUTHORITY; from LOCAL with ACT not IDLE it is
answered BUSY; in MECH_FAIL with the position OPEN or UNKNOWN the flag is clear and SEQ is in LOCKOUT with cause MECH_CLEARED;
with the position CLOSED SEQ is in CLOSED with counter 0, flag clear and elements cleared; in another state the flag is clear
and SEQ as it was. The three are answered OK. (R64.) -/
def Obligations.MechFailCleared : Prop :=
  ∀ (tag : Byte) (s : State), s.serving →
    (s.hlc.key = .remote → exec (.mechFailClear tag) s = .next (s.replied 0x12#8 tag .authority [])) ∧
    (s.hlc.key = .loc → s.act.state ≠ .idle → exec (.mechFailClear tag) s = .next (s.replied 0x12#8 tag .busy [])) ∧
    (s.hlc.key = .loc → s.act.state = .idle →
      ∃ t, exec (.mechFailClear tag) s = .next t ∧ t.act.mech = false ∧ t.answered 0x12#8 tag .ok [] ∧
        (s.act.mech = true → writeQueued (.mech false) t) ∧
        (s.seq.state = .mechFail → s.act.position ≠ .closed → lockoutEntered .mechCleared s t) ∧
        (s.seq.state = .mechFail → s.act.position = .closed → t.seq.state = .closed ∧ t.seq.shots = 0 ∧ t.seq.manual = false ∧
          cleared s t ∧ ∀ g, s.seq.pendingGroup = some g → t.sst.active = g ∧ t.seq.pendingGroup = none) ∧
        (s.seq.state ≠ .mechFail → t.seq = s.seq ∧ t.orl = s.orl))

/-- In a started part, but for a measurement that makes a reclose on hold for energy ready (HoldIsRetriedOrExpires) and one that
ends a trip pulse at its 120 ms (PulsesWithoutMovement), CAPACITOR_MEASUREMENT completes with the measurement clamped to 350 V.
A converter in FULL goes to TOPUP from 250 V; in TOPUP to FULL below 250 V and to OFF from 300 V; in OFF to FULL below 250 V and
to TOPUP in 250..289 V; otherwise it stays; PAUSED and STOPPED stay. A trip held with the measurement at 150 V or above begins
its pulse with that voltage before and the held count kept; below, it stays held. Nothing else of ACT changes, and neither SEQ's
state nor any record does. (R82, R83, R73.) -/
def Obligations.CapacitorMeasured : Prop :=
  ∀ (volts : Nat) (s : State), s.stage.started = true →
    ¬ (s.seq.state = .recloseHold ∧ s.seq.holdReason = some .energy ∧ s.act.cap < 250 ∧ 250 ≤ volts) →
    ¬ (s.act.state = .tripPulse ∧ s.act.pulseMs = some 120) →
    ∃ t, exec (.capacitorMeasurement volts) s = .next t ∧
      let v := min 350 volts
      t.act.cap = v ∧ t.seq.state = s.seq.state ∧ t.orl = s.orl ∧
      (s.act.state = .tripHeld → 150 ≤ v → t.act.state = .tripPulse ∧ t.act.pulseMs = some 0 ∧ t.act.before = some v ∧
        t.act.heldMs = s.act.heldMs ∧ t.act.converter = .paused) ∧
      (¬ (s.act.state = .tripHeld ∧ 150 ≤ v) →
        t.act = { s.act with
          cap := v
          converter := match s.act.converter with
            | .full => if 250 ≤ v then .topup else .full
            | .topup => if v < 250 then .full else if 300 ≤ v then .off else .topup
            | .off => if v < 250 then .full else if v < 290 then .topup else .off
            | x => x })

/-- For every command and every state in which no host request waits and no close pulse is in progress: if the command leaves a
close pulse in progress, then the mechanism-failure flag is clear, the position is OPEN, no NO_CLOSE tag is present, the
capacitor is at or above 250 V, and, unless the origin is LOCAL, no tag is present and the reserve level is neither CONSERVE nor
EXHAUSTED. (R76, R77.) -/
def Obligations.ClosesOnlyWithPermission : Prop :=
  ∀ (c : Instr) (s t : State), s.hlc.queue = [] → s.act.state ≠ .closePulse → exec c s = .next t →
    t.act.state = .closePulse → closePermitted t

/-- If in s the pulse timer and the voltage before are present exactly in a pulse, the origin exactly in a close pulse, the
timer at most 120 ms in a trip pulse and 200 ms in a close pulse, the held count present in TRIP_HELD and absent in IDLE and
CLOSE_PULSE, and the converter PAUSED exactly in a pulse, the same holds of every state a step of s answers. (R71, R73, R83.) -/
def Obligations.ActStaysSound : Prop :=
  ∀ s t : State, s.act.sound → step s = .next t → t.act.sound

/-- In a part that serves requests, TAG_PLACE: with a crew number outside 1..9999, a mode above 1, an expiry other than 0
outside 15..1440, or an expiry with NO_CLOSE it is refused BAD_FIELD; else NO_CLOSE with the position not OPEN NOT_OPEN; else,
with no tag of that crew and mode and eight tags present, TABLE_FULL; a refusal changes nothing but the transmit list.
Otherwise, with a sound table and no tag of that crew and mode, one is stored: its number is the first from the next tag number
on that no tag holds, the next tag number follows it, it stands in the lowest empty slot with the mode asked for, the authority
of the key switch, the time where valid, and the expiry asked for; every other slot is as it was. The effective mode is NO_CLOSE
for a NO_CLOSE tag and in either case not NONE. A TAG_PLACED record is completed and the table's write queued. In DEAD_TIME or
RECLOSE_HOLD SEQ is in LOCKOUT with cause TAG. The reply is OK, or DEFERRED_IN_FLIGHT in a close pulse. (R61, R89, R90, R91,
R92, R93, R94.) -/
def Obligations.TagIsPlaced : Prop :=
  ∀ (tag mode : Byte) (crew expiry : BitVec 16) (s : State), s.serving →
    let bad := crew.toNat = 0 ∨ 9999 < crew.toNat ∨ 1 < mode.toNat ∨
      (expiry ≠ 0 ∧ (expiry.toNat < 15 ∨ 1440 < expiry.toNat)) ∨ (mode = 1 ∧ expiry ≠ 0)
    let kind : TagMode := if mode = 1 then .noClose else .noReclose
    let isNew := ∀ x ∈ s.tag.table.tags, ¬ (x.crew = crew.toNat ∧ x.mode = kind)
    (bad → exec (.tagPlace tag crew mode expiry) s = .next (s.replied 0x20#8 tag .badField [])) ∧
    (¬ bad → mode = 1 → s.act.position ≠ .isOpen →
      exec (.tagPlace tag crew mode expiry) s = .next (s.replied 0x20#8 tag .notOpen [])) ∧
    (¬ bad → (mode = 1 → s.act.position = .isOpen) → isNew →
      (8 ≤ s.tag.table.tags.length → exec (.tagPlace tag crew mode expiry) s = .next (s.replied 0x20#8 tag .tableFull [])) ∧
      (s.seq.decided = true → s.tag.table.sound → s.tag.table.tags.length < 8 →
        ∃ t n k i, exec (.tagPlace tag crew mode expiry) s = .next t ∧
          k < 8 ∧ reachedFrom s.tag.table k n ∧ s.tag.table.holds n = false ∧
          t.tag.table.next = (if n = 65535 then 1 else n + 1) ∧
          i < 8 ∧ s.tag.table.slots.getD i none = none ∧ (∀ j < i, (s.tag.table.slots.getD j none).isSome) ∧
          t.tag.table.slots = s.tag.table.slots.set i (some
            { number := n, crew := crew.toNat, mode := kind, auth := if s.hlc.key = .loc then .loc else .link,
              placedAt := if s.orl.valid then some s.orl.time else none,
              left := if expiry = 0 then none else some expiry.toNat }) ∧
          t.tag.table.mode ≠ .none ∧ (mode = 1 → t.tag.table.mode = .noClose) ∧ writeQueued (.tags t.tag.table) t ∧
          (∃ r ∈ t.orl.ring, ∃ x, r.body = .tagPlaced x ∧ some x = (t.tag.table.slots.getD i none)) ∧
          (s.seq.state ∈ [SeqState.deadTime, .recloseHold] → t.seq.state = .lockout ∧ t.seq.cause = some .tag) ∧
          (s.seq.state ∉ [SeqState.deadTime, .recloseHold] → t.seq.state = s.seq.state) ∧
          ∃ body, t.answered 0x20#8 tag (if s.act.state = .closePulse then .deferredInFlight else .ok) body))

/-- In a part that serves requests with a sound table, a valid TAG_PLACE of a crew that holds a tag of that mode, for NO_CLOSE
with the position OPEN and without an expiry, leaves its number, slot, crew, mode and placed-at time, takes the higher of the
two authorities, and as remaining minutes the larger of what was left and what is asked where both are present and none
otherwise. No other slot and not the next number changes, nor does the effective mode. SEQ is told of an accepted tag: in
DEAD_TIME or RECLOSE_HOLD it is in LOCKOUT with cause TAG. A TAG_PLACED record carries the tag as refreshed, the table's write
is queued, and REFRESHED is answered. (R95.) -/
def Obligations.TagIsRefreshed : Prop :=
  ∀ (tag mode : Byte) (crew expiry : BitVec 16) (s : State) (x : Tag) (i : Nat),
    s.serving → s.seq.decided = true → s.tag.table.sound →
    s.tag.table.slots.getD i none = some x → x.crew = crew.toNat → mode.toNat ≤ 1 → x.mode = (if mode = 1 then .noClose else .noReclose) →
    (expiry = 0 ∨ (mode = 0 ∧ 15 ≤ expiry.toNat ∧ expiry.toNat ≤ 1440)) → (mode = 1 → s.act.position = .isOpen) →
    ∃ t, exec (.tagPlace tag crew mode expiry) s = .next t ∧
      let y : Tag := { x with
        auth := if s.hlc.key = .loc then .loc else if x.auth = .loc then .loc else .link
        left := if expiry = 0 then none else x.left.map (max · expiry.toNat) }
      t.tag.table.slots = s.tag.table.slots.set i (some y) ∧ t.tag.table.next = s.tag.table.next ∧
      t.tag.table.mode = s.tag.table.mode ∧
      (∃ r ∈ t.orl.ring, r.body = .tagPlaced y) ∧ writeQueued (.tags t.tag.table) t ∧
      (s.seq.state ∈ [SeqState.deadTime, .recloseHold] → t.seq.state = .lockout ∧ t.seq.cause = some .tag) ∧
      (∃ body, t.answered 0x20#8 tag .refreshed body)

/-- In a part that serves requests with a sound table: TAG_REMOVE with number 0 or a crew number outside 1..9999 is refused
BAD_FIELD; a number no tag holds NOT_FOUND; another crew CREW_MISMATCH; from LINK, a tag placed at LOCAL AUTHORITY; otherwise
the tag's slot empties, and nothing else of the table. TAG_CLEAR is refused AUTHORITY from LINK, and from LOCAL removes whatever
tag holds the number, answers NOT_FOUND where none does and BAD_FIELD for 0. A removal completes a TAG_REMOVED record with the
tag as it stood, its cause and the requester's authority, queues the table's write, leaves SEQ as it was and answers OK. (R98,
R99.) -/
def Obligations.TagIsRemoved : Prop :=
  ∀ (tag : Byte) (number crew : BitVec 16) (s : State), s.serving → s.tag.table.sound →
    let loc := s.hlc.key = .loc
    let removed := fun (c : Instr) (kind : Byte) (x : Tag) (cause : RemovalCause) =>
      ∃ t i, exec c s = .next t ∧ s.tag.table.slots.getD i none = some x ∧ t.tag.table.slots = s.tag.table.slots.set i none ∧
        t.tag.table.next = s.tag.table.next ∧ t.seq = s.seq ∧
        recorded (.tagRemoved x cause (some (if loc then .loc else .link))) s t ∧ writeQueued (.tags t.tag.table) t ∧
        t.answered kind tag .ok []
    (number = 0 ∨ crew = 0 ∨ 9999 < crew.toNat → exec (.tagRemove tag number crew) s = .next (s.replied 0x21#8 tag .badField [])) ∧
    (number ≠ 0 → crew ≠ 0 → crew.toNat ≤ 9999 →
      (s.tag.table.holds number.toNat = false → exec (.tagRemove tag number crew) s = .next (s.replied 0x21#8 tag .notFound [])) ∧
      ∀ x ∈ s.tag.table.tags, x.number = number.toNat →
        (x.crew ≠ crew.toNat → exec (.tagRemove tag number crew) s = .next (s.replied 0x21#8 tag .crewMismatch [])) ∧
        (x.crew = crew.toNat → ¬ loc → x.auth = .loc →
          exec (.tagRemove tag number crew) s = .next (s.replied 0x21#8 tag .authority [])) ∧
        (x.crew = crew.toNat → (loc ∨ x.auth ≠ .loc) → removed (.tagRemove tag number crew) 0x21#8 x .removed)) ∧
    (¬ loc → exec (.tagClear tag number) s = .next (s.replied 0x22#8 tag .authority [])) ∧
    (loc → number = 0 → exec (.tagClear tag number) s = .next (s.replied 0x22#8 tag .badField [])) ∧
    (loc → number ≠ 0 → s.tag.table.holds number.toNat = false →
      exec (.tagClear tag number) s = .next (s.replied 0x22#8 tag .notFound [])) ∧
    (loc → number ≠ 0 → ∀ x ∈ s.tag.table.tags, x.number = number.toNat → removed (.tagClear tag number) 0x22#8 x .forced)

/-- In a started part with a sound table, MINUTE_EVENT, TAG_EXPIRY where a tag has one minute left or none, and TAG_HOURLY_WRITE
at the 60th minute with a tag of two or more minutes complete: every tag with one minute left (or none left) is gone, every
other tag with remaining minutes has one less, and the rest of the table is as it was. In a running part each tag removed leaves
a TAG_REMOVED record with cause EXPIRED and no authority. At the hourly write the table's write is queued. The second count is
0. That a tag with none left, as a start may restore it, goes at the minute event and so at TAG_EXPIRY is the model's choice
(log 64), and so is that the hourly write asks for a tag that counts on after the minute (log 65). That the two occasions are
the whole minute event is the model's reading (log 2), and that the command takes the second count to its end is the form of the
command (log 3). (R101, R103, R145.) -/
def Obligations.MinuteTakesMinutes : Prop :=
  ∀ (c : Instr) (s : State), s.stage.started = true → s.tag.table.sound →
    (c = .minuteEvent ∨
      (c = .tagExpiry ∧ ∃ x ∈ s.tag.table.tags, x.left = some 1 ∨ x.left = some 0) ∨
      (c = .tagHourlyWrite ∧ s.tag.minutes = 59 ∧ ∃ x ∈ s.tag.table.tags, ∃ n ∈ x.left, 2 ≤ n)) →
    ∃ t, exec c s = .next t ∧
      t.tag.table.slots = s.tag.table.slots.map (fun o => o.bind fun x =>
        if x.left = some 1 ∨ x.left = some 0 then none else some { x with left := x.left.map (· - 1) }) ∧
      t.tag.table.next = s.tag.table.next ∧ t.tag.minutes = (s.tag.minutes + 1) % 60 ∧ t.orl.sec = 0 ∧
      (s.stage = .running → ∀ x ∈ s.tag.table.tags, x.left = some 1 →
        ∃ r ∈ t.orl.ring, ∃ y, r.body = .tagRemoved y .expired none ∧ y.number = x.number) ∧
      (c = .tagHourlyWrite → writeQueued (.tags t.tag.table) t)

/-- If in s the running tag table, the retained one and every table on its way to the store have eight slots, tags within the
ranges of their fields, pairwise distinct tag numbers, no two tags of the same crew and mode, and a next tag number in 1..65535,
the same holds of every state a step of s answers. (R88, R89, R90, R108.) -/
def Obligations.TagTableStaysSound : Prop :=
  ∀ s t : State, tagsSound s → step s = .next t → tagsSound t

/-- In a running part, BATTERY_MEASUREMENT within the ranges of the values completes with the measurement held, the setpoints
28,800 and 27,300 mV less 36 mV for each degree the temperature clamped to -20..50 lies above 25, and, unless the level falls to
EXHAUSTED at it, the count moved: a positive current adds 95 hundredths of it, floored, a negative one takes its magnitude away,
within 0 and the full count; at a resynchronisation run of 3,600 the count is full. SoC is the count in hundredths of the full
count. That SoC stands as the measurement formed it also where the level falls to EXHAUSTED at it is the model's reading (log
41). (R111, R116, R117.) -/
def Obligations.BatteryMeasurementMoves : Prop :=
  ∀ (m : BattMeas) (r : TestReading) (s : State), s.runs →
    m.mv ≤ 40000 → -30000 ≤ m.ma → m.ma ≤ 30000 → -55 ≤ m.temp → m.temp ≤ 125 → s.bcu.level ≠ .exhausted →
    ∃ t, exec (.batteryMeasurement m r) s = .next t ∧ t.bcu.meas = m ∧
      let comp := if m.temp < -20 then -20 else if 50 < m.temp then 50 else m.temp
      t.bcu.absorbSp = 28800 - 36 * (comp - 25) ∧ t.bcu.floatSp = 27300 - 36 * (comp - 25) ∧
      (t.bcu.level ≠ .exhausted → t.bcu.charge = (countAfter s m.ma).1) ∧
      t.bcu.soc = (countAfter s m.ma).1 * 100 / (s.sst.globalPage.field 6 * 3600000) ∧
      (t.bcu.test = .idle → s.bcu.test = .idle → t.bcu.resync = (countAfter s m.ma).2)

/-- The charger's output is off in NO_SUPPLY, TEST and FAULT; in BULK it is current up to the bulk limit, capacity times 100 mA,
and in ABSORB and FLOAT the setpoint held within that limit. In a running part with no load test and a measurement without fault
condition: NO_SUPPLY goes to BULK with supply; BULK, ABSORB and FLOAT go to NO_SUPPLY without; BULK goes to ABSORB at the absorb
setpoint; ABSORB goes to FLOAT below capacity times 10 mA and otherwise counts, ABSORB_TIME_LIMIT takes it to FLOAT at 14,400;
FLOAT counts its low run and FLOAT_LOW_RUN_LIMIT takes it to BULK; FAULT_CLEAR_RUN_COMPLETE takes FAULT to BULK, or NO_SUPPLY
without supply; RESYNC_RUN_COMPLETE leaves the count full unless the level falls to EXHAUSTED at it; CHARGE_COUNT_WRITE queues
the count's write. A fault condition takes any state to FAULT. That the occasions run the whole measurement is the model's
reading (log 2). (R112, R113, R114, R117, R118.) -/
def Obligations.ChargerMoves : Prop :=
  ∀ (m : BattMeas) (r : TestReading) (s : State),
    (let limit := s.sst.globalPage.field 6 * 100
     s.chargerOutput = (match s.bcu.charger with
       | .bulk => .current limit
       | .absorb => .voltage s.bcu.absorbSp limit
       | .float => .voltage s.bcu.floatSp limit
       | _ => .off) ∧
     (s.chargerDrive = true ↔ s.bcu.charger ∈ [Charger.bulk, .absorb, .float])) ∧
    (s.runs → s.bcu.test = .idle →
      let x := clampMeas m
      let fault := 55 < x.temp ∨ x.temp < -30 ∨ 31000 < x.mv
      let exit : Int := s.sst.globalPage.field 6 * 10
      let becomes := fun (c : Instr) (y : Charger) => ∃ t, exec c s = .next t ∧ t.bcu.charger = y
      (fault → becomes (.batteryMeasurement m r) .fault) ∧
      (¬ fault → x.supply = false → s.bcu.charger ∈ [Charger.noSupply, .bulk, .absorb, .float] →
        becomes (.batteryMeasurement m r) .noSupply) ∧
      (¬ fault → x.supply = true → s.bcu.charger = .noSupply → becomes (.batteryMeasurement m r) .bulk) ∧
      (¬ fault → x.supply = true → s.bcu.charger = .bulk →
        becomes (.batteryMeasurement m r) (if absorbSetpoint x.temp ≤ x.mv then .absorb else .bulk)) ∧
      (¬ fault → x.supply = true → s.bcu.charger = .absorb →
        (x.ma < exit → becomes (.batteryMeasurement m r) .float) ∧
        (exit ≤ x.ma → s.bcu.absorbTime < 14399 → ∃ t, exec (.batteryMeasurement m r) s = .next t ∧ t.bcu.charger = .absorb ∧
          t.bcu.absorbTime = s.bcu.absorbTime + 1) ∧
        (s.bcu.absorbTime = 14399 → becomes (.absorbTimeLimit m r) .float)) ∧
      (¬ fault → x.supply = true → s.bcu.charger = .float →
        ((x.mv : Int) < floatSetpoint x.temp - 600 →
          (s.bcu.floatLow < 59 → ∃ t, exec (.batteryMeasurement m r) s = .next t ∧ t.bcu.charger = .float ∧
            t.bcu.floatLow = s.bcu.floatLow + 1) ∧
          (s.bcu.floatLow = 59 → becomes (.floatLowRunLimit m r) .bulk)) ∧
        (floatSetpoint x.temp - 600 ≤ x.mv → ∃ t, exec (.batteryMeasurement m r) s = .next t ∧ t.bcu.charger = .float ∧
          t.bcu.floatLow = 0)) ∧
      (-25 ≤ x.temp → x.temp ≤ 50 → x.mv ≤ 30000 → s.bcu.charger = .fault → s.bcu.faultClear = 599 →
        becomes (.faultClearRunComplete m r) (if x.supply then .bulk else .noSupply)) ∧
      ((countAfter s x.ma).2 = 3600 → ∃ t, exec (.resyncRunComplete m r) s = .next t ∧
        (t.bcu.level = s.bcu.level ∨ t.bcu.level ≠ .exhausted → t.bcu.charge = s.sst.globalPage.field 6 * 3600000)) ∧
      (s.bcu.measCount = 599 → ∃ t, exec (.chargeCountWrite m r) s = .next t ∧ t.bcu.measCount = 0 ∧
        writeQueued (.charge t.bcu.charge) t))

/-- In a running part outside a shutdown, BATTERY_MEASUREMENT within the ranges of the values moves the low, recovery and
exhaustion runs, forms the floor level from them and the new SoC, and leaves the level at the floor when that is lower, one step
higher when CONSERVE has SoC 25 and a recovery run of 60 or LEAN has SoC 45, and otherwise as it was. A change, falling or
climbing, records BATTERY first, with the new level, the SoC of this measurement and the voltage, and queues the count's write;
without one no record is made. At EXHAUSTED the count is 0 and the channel SILENT. The tenth measurement below 21,000 mV without
supply, from CONSERVE with no test, begins the shutdown: with trip on exhaustion on and the position not OPEN the BCU is in
TRIP_WAIT, and from CLOSED with ACT IDLE at 150 V or more and no trip in flight SEQ is in TRIPPING with an EXHAUSTION request in
a trip pulse; with the setting off, or the position OPEN, the BCU is in WRITE_WAIT with SEQ and ACT as they were. That SoC, and
the record's, stay as this measurement formed them where the count becomes 0 is the model's reading (log 41). (R46, R116, R119,
R120, R122.) -/
def Obligations.ReserveLevelIsGraded : Prop :=
  ∀ (m : BattMeas) (r : TestReading) (s : State), s.runs →
    (s.bcu.shutdown = none → s.bcu.level ≠ .exhausted →
      m.mv ≤ 40000 → -30000 ≤ m.ma → m.ma ≤ 30000 → -55 ≤ m.temp → m.temp ≤ 125 →
      let low := if m.mv < 23000 then min 10 (s.bcu.lowRun + 1) else 0
      let recovery := if m.mv < 23000 then 0 else min 60 (s.bcu.recRun + 1)
      let exhaustion := if m.mv < 21000 ∧ m.supply = false then min 10 (s.bcu.exhRun + 1) else 0
      let soc := (countAfter s m.ma).1 * 100 / (s.sst.globalPage.field 6 * 3600000)
      let floor : Level := if exhaustion = 10 then .exhausted else if soc < 20 ∨ low = 10 then .conserve
        else if soc < 40 then .lean else .normal
      ∃ t, exec (.batteryMeasurement m r) s = .next t ∧
        t.bcu.lowRun = low ∧ t.bcu.recRun = recovery ∧ t.bcu.exhRun = exhaustion ∧
        t.bcu.level = (if s.bcu.level.rank < floor.rank then floor
          else if s.bcu.level = .conserve ∧ 25 ≤ soc ∧ recovery = 60 then .lean
          else if s.bcu.level = .lean ∧ 45 ≤ soc then .normal else s.bcu.level) ∧
        (t.bcu.level = s.bcu.level → t.orl = s.orl) ∧
        (t.bcu.level ≠ s.bcu.level → recordedFirst (.battery t.bcu.level soc m.mv) s t ∧ writeQueued (.charge t.bcu.charge) t) ∧
        t.bcu.charge = (if t.bcu.level = .exhausted then 0 else (countAfter s m.ma).1) ∧
        (t.bcu.level = .exhausted → t.rcc.chan = .silent)) ∧
    (s.bcu.test = .idle → s.bcu.shutdown = none → s.bcu.level = .conserve → s.bcu.exhRun = 9 → m.mv < 21000 → m.supply = false →
      let trips := s.sst.globalPage.field 10 = 1 ∧ s.act.position ≠ .isOpen
      ∃ t, exec (.batteryMeasurement m r) s = .next t ∧ t.bcu.level = .exhausted ∧ t.bcu.charge = 0 ∧ writeQueued (.charge 0) t ∧
        t.rcc.chan = .silent ∧ recordedFirst (.battery .exhausted t.bcu.soc m.mv) s t ∧
        (trips → t.bcu.shutdown = some .tripWait ∧ t.bcu.tripWaitMs = 0) ∧
        (trips → s.seq.decided = true → s.seq.state = .closed → s.act.state = .idle → 150 ≤ s.act.cap → s.seq.trip = none →
          t.seq.state = .tripping ∧ t.seq.trip = some [.exhaustion] ∧ t.act.state = .tripPulse) ∧
        (¬ trips → t.bcu.shutdown = some .writeWait ∧ t.seq = s.seq ∧ t.act = s.act))

/-- TRIP_WAIT_TIMEOUT in TRIP_WAIT completes in WRITE_WAIT with ACT in TRIP_HELD and goes on waiting otherwise. PART_STOP in
WRITE_WAIT of a started part with nothing to write and no pulse, whatever page is staged, completes with the part stopped, the
battery disconnect open, no drive on and the store as it was. SUPPLY_LOSS completes with the loss noted and its milliseconds at
0, the host's requests forgotten and no reply due from a commit in progress, which goes on (log 24); writes and pulses go on
too. HOLD_UP_END 200 ms or more after it and with no pulse in progress completes with the part stopped and the store with the
write in flight taken; without a loss, before that time and in a pulse it changes nothing (log 3). (R122, R123, R179.) -/
def Obligations.PartStops : Prop :=
  ∀ s : State,
    (s.bcu.shutdown = some .tripWait → ∃ t, exec .tripWaitTimeout s = .next t ∧
      t.bcu.shutdown = some (if s.act.state = .tripHeld then .writeWait else .tripWait) ∧ t.seq = s.seq ∧ t.act = s.act) ∧
    (s.stage.started = true → s.bcu.shutdown = some .writeWait → s.sst.queue = [] → s.sst.inFlight = none →
      s.sst.staging.isCommitting = false → (s.act.state = .idle ∨ s.act.state = .tripHeld) →
      ∃ t, exec .partStop s = .next t ∧ t.stage = .stopped ∧ t.bcu.connected = false ∧ t.sst.store = s.sst.store ∧
        t.tripDrive = false ∧ t.closeDrive = false ∧ t.chargerDrive = false ∧ t.testLoadDrive = false ∧ t.converterDrive = false) ∧
    (s.stage ≠ .stopped → s.sst.lost = false →
      ∃ t, exec .supplyLoss s = .next t ∧ t.sst.lost = true ∧ t.sst.lostMs = 0 ∧ t.hlc.queue = [] ∧ t.hlc.current = none ∧
        t.act = s.act ∧ t.sst.inFlight = s.sst.inFlight ∧ t.sst.queue = s.sst.queue ∧
        (∀ b reply w, s.sst.staging = .committing b reply w → t.sst.staging = .committing b false w) ∧
        (s.sst.staging.isCommitting = false → t.sst.staging = s.sst.staging)) ∧
    (let mayEnd := s.sst.lost = true ∧ 200 ≤ s.sst.lostMs ∧ s.act.state ≠ .tripPulse ∧ s.act.state ≠ .closePulse
     (mayEnd → ∃ t, exec .holdUpEnd s = .next t ∧ t.stage = .stopped ∧
       t.sst.store = (match s.sst.inFlight with | some i => s.sst.store.withItem i | none => s.sst.store)) ∧
     (¬ mayEnd → exec .holdUpEnd s = .next s))

/-- In a part that serves requests: BATTERY_TEST_START with the checks met enters SETTLING with origin REQUEST, the charger off
in TEST unless in FAULT, the countdown absent, and OK; with a test not IDLE it is refused BUSY, else without supply, below SoC
80 or off NORMAL CONSERVE, else with SEQ in neither CLOSED nor LOCKOUT BUSY, else below 250 V LOW_ENERGY. SCHEDULED_TEST_DUE
with the countdown at 1 starts with origin SCHEDULE, or sets the countdown to 60 when a check fails. BATTERY_TEST_CANCEL ends a
test CANCELLED, and with none running changes nothing and says so. (R125, R126, R131.) -/
def Obligations.LoadTestStarts : Prop :=
  ∀ (tag : Byte) (s : State), s.serving →
    (testMayStart s → ∃ t, exec (.batteryTestStart tag) s = .next t ∧ t.bcu.test = .settling ∧ t.bcu.origin = some .request ∧
      t.bcu.settleMs = 0 ∧ t.bcu.loadMs = 0 ∧ t.bcu.countdown = none ∧
      t.bcu.charger = (if s.bcu.charger = .fault then .fault else .test) ∧ t.answered 0x40#8 tag .ok []) ∧
    (s.bcu.test ≠ .idle → exec (.batteryTestStart tag) s = .next (s.replied 0x40#8 tag .busy [])) ∧
    (s.bcu.test = .idle → (s.bcu.meas.supply = false ∨ s.bcu.soc < 80 ∨ s.bcu.level ≠ .normal) →
      exec (.batteryTestStart tag) s = .next (s.replied 0x40#8 tag .conserve [])) ∧
    (s.bcu.test = .idle → s.bcu.meas.supply = true → 80 ≤ s.bcu.soc → s.bcu.level = .normal →
      (s.seq.state ∉ [SeqState.closed, .lockout] → exec (.batteryTestStart tag) s = .next (s.replied 0x40#8 tag .busy [])) ∧
      (s.seq.state ∈ [SeqState.closed, .lockout] → s.act.cap < 250 →
        exec (.batteryTestStart tag) s = .next (s.replied 0x40#8 tag .lowEnergy []))) ∧
    (s.bcu.countdown = some 1 → ∃ t, exec .scheduledTestDue s = .next t ∧
      (testMayStart s → t.bcu.test = .settling ∧ t.bcu.origin = some .schedule ∧ t.bcu.countdown = none) ∧
      (¬ testMayStart s → t.bcu.test = s.bcu.test ∧ t.bcu.countdown = some 60)) ∧
    (s.bcu.test ≠ .idle → ∃ t, exec (.batteryTestCancel tag) s = .next t ∧
      testEnded .cancelled none none s.bcu.loadMs s t ∧ t.answered 0x41#8 tag .ok [0#8]) ∧
    (s.bcu.test = .idle → exec (.batteryTestCancel tag) s = .next (s.replied 0x41#8 tag .ok [1#8]))

/-- SETTLING_COMPLETE in SETTLING keeps the reading as the baseline and applies the load. In a running part LOAD_TEST_COMPLETE
in LOADED ends the test: the load current is the baseline current less the loaded current; below 1,000 mA the outcome is FAIL
without R; otherwise R is the voltage difference, not below 0, times 1,000 over the load current, floored, and the outcome is
PASS with 24,000 mV held and R within the limit, else FAIL; 30,000 ms of load time are recorded. A test in progress is
suspended, load time kept, by an OPEN in CLOSED, by one in LOCKOUT that begins a fresh trip attempt, which is the model's
reading of R129's remark (log 51), by a capacitor measurement that falls below 250 V and ends no trip pulse, and by a battery
measurement without supply; a suspended one settles afresh at the measurement, of the capacitor or the battery, or SEQ's return
to CLOSED, that completes the three conditions and ends no trip pulse. TEST_ABANDON_TIMEOUT in SUSPENDED ends it ABANDONED. A
measurement at which the level leaves NORMAL ends it, its record after BATTERY's: in LOADED with supply FAIL with R from a
reading taken then, else ABANDONED. (R120, R127, R128, R129, R130, R131, R132.) -/
def Obligations.LoadTestRuns : Prop :=
  ∀ (x base : TestReading) (m : BattMeas) (volts : Nat) (tag : Byte) (s : State),
    x.mv ≤ 40000 → -30000 ≤ x.ma → x.ma ≤ 30000 → s.stage = .running →
    let inProgress := s.bcu.test = .settling ∨ s.bcu.test = .loaded
    let calm := s.seq.state = .closed ∨ s.seq.state = .lockout
    let spent := s.act.state = .tripPulse ∧ s.act.pulseMs = some 120
    let r := (base.mv - x.mv) * 1000 / (base.ma - x.ma).toNat
    (s.bcu.test = .settling → ∃ t, exec (.settlingComplete x) s = .next t ∧ t.bcu.test = .loaded ∧ t.bcu.baseline = some x ∧
      t.testLoadDrive = true ∧ t.bcu.loadMs = s.bcu.loadMs) ∧
    (s.bcu.test = .loaded → s.bcu.baseline = some base → ∃ t, exec (.loadTestComplete x) s = .next t ∧
      (base.ma - x.ma < 1000 → testEnded .fail none (some x.mv) 30000 s t) ∧
      (1000 ≤ base.ma - x.ma → 24000 ≤ x.mv → r ≤ s.sst.globalPage.field 8 → testEnded .pass (some r) (some x.mv) 30000 s t) ∧
      (1000 ≤ base.ma - x.ma → ¬ (24000 ≤ x.mv ∧ r ≤ s.sst.globalPage.field 8) →
        testEnded .fail (some r) (some x.mv) 30000 s t)) ∧
    (s.bcu.test = .suspended → ∃ t, exec .testAbandonTimeout s = .next t ∧ testEnded .abandoned none none s.bcu.loadMs s t) ∧
    (inProgress → s.serving → s.seq.decided = true →
      s.seq.state = .closed ∨ (s.seq.state = .lockout ∧ s.act.position ≠ .isOpen ∧ s.seq.trip = none) →
      ∃ t, exec (.hostOpen tag) s = .next t ∧ testSuspended s t) ∧
    (inProgress → s.seq.decided = true → 250 ≤ s.act.cap → volts < 250 → ¬ spent →
      ∃ t, exec (.capacitorMeasurement volts) s = .next t ∧ testSuspended s t) ∧
    (s.bcu.test = .suspended → s.seq.decided = true → calm → s.bcu.meas.supply = true → s.act.cap < 250 → 250 ≤ volts → ¬ spent →
      ∃ t, exec (.capacitorMeasurement volts) s = .next t ∧ testResumed s t) ∧
    (s.bcu.test = .suspended → s.seq.state = .reclaim → s.peu.timing = false → s.bcu.meas.supply = true → 250 ≤ s.act.cap →
      ∃ t, exec .reclaimTimerExpiry s = .next t ∧ testResumed s t) ∧
    (s.runs → ∃ t, exec (.batteryMeasurement m x) s = .next t ∧
      (t.bcu.level = s.bcu.level →
        (inProgress → m.supply = false → testSuspended s t) ∧
        (s.bcu.test = .suspended → m.supply = true → calm → 250 ≤ s.act.cap → testResumed s t)) ∧
      (s.bcu.level = .normal → t.bcu.level ≠ .normal →
        (s.bcu.test = .loaded → m.supply = true → s.bcu.baseline = some base →
          testEndedByLevel .fail (if base.ma - x.ma < 1000 then none else some r) (some x.mv) s t) ∧
        (s.bcu.test = .settling ∨ s.bcu.test = .suspended ∨ (s.bcu.test = .loaded ∧ m.supply = false) →
          testEndedByLevel .abandoned none none s t)))

/-- If in s the charge count is at most the full count of the capacity in force, SoC is at most 100, the capacity in force is
the retained one, and an accepted RESTART keeps a charge count within the same bound with no commit beside it, the same holds of
every state a step of s answers, across measurements, level changes, capacity changes and starts. (R116, R118, R180.) -/
def Obligations.ChargeStaysBounded : Prop :=
  ∀ s t : State, chargeBounded s → step s = .next t → chargeBounded t

/-- If in s a load test in progress has SEQ in CLOSED or LOCKOUT, no recharge demand and the charger in TEST or FAULT, a test
that is not IDLE has the reserve level NORMAL, and the load time is at most 30,000 ms, the same holds of every state a step of s
answers. (R112, R115, R128, R129, R131.) -/
def Obligations.LoadTestStaysSafe : Prop :=
  ∀ s t : State, loadTestSafe s → step s = .next t → loadTestSafe t

/-- In a started part with a second count of at most 59, TIME_BASE_SECOND completes with the time one higher, held at
4,294,967,295, and its flag as it was; before the 60th second only the second count moves beside it, and at the 60th the second
count is 0 and a minute is raised, which the schedule countdown shows where it stands above 1. In a warm start's start delay the
time advances too and the second count stands still, which is the model's reading (log 34). TIME_SET of a part that serves
requests sets the time, sets it valid, leaves the second count and answers OK. A step from a second count of at most 59 leaves
one of at most 59, and at reset it is 0. (R145, R146.) -/
def Obligations.TimeBaseCounts : Prop :=
  ∀ (s : State) (tag : Byte) (time : BitVec 32),
    (s.stage.started = true → s.orl.sec ≤ 59 → s.orl.time ≤ 4294967295 →
      ∃ t, exec .timeBaseSecond s = .next t ∧ t.orl.time = min 4294967295 (s.orl.time + 1) ∧ t.orl.valid = s.orl.valid ∧
        (s.orl.sec < 59 → t.orl.sec = s.orl.sec + 1 ∧ t.tag = s.tag ∧ t.bcu = s.bcu ∧ t.rcc = s.rcc) ∧
        (s.orl.sec = 59 → t.orl.sec = 0 ∧ ∀ n, s.bcu.countdown = some (n + 2) → t.bcu.countdown = some (n + 1))) ∧
    (s.stage = .startDelay .warm → s.orl.time < 4294967295 →
      ∃ t, exec .timeBaseSecond s = .next t ∧ t.orl.time = s.orl.time + 1 ∧ t.orl.sec = s.orl.sec) ∧
    (s.serving → exec (.timeSet tag time) s =
      .next ({ s with orl := { s.orl with time := time.toNat, valid := true } }.replied 0x32#8 tag .ok [])) ∧
    (s.orl.sec ≤ 59 → ∀ t, step s = .next t → t.orl.sec ≤ 59) ∧ State.reset.orl.sec = 0

/-- In a running part with a trip pulse in progress or a trip held, and a trip in flight, when the breaker opens: each phase's
wear count grows by the square of its magnitude at the last update, taken at most 20,000 A, divided by 10,000 and floored, held
at 4,000,000,000; the write of the counts is queued; the operation counter grows by 1 for a pulse of 1 ms or more and stays for
a held trip or one of 0 ms; each phase's percent and threshold are formed again from its count and the budget, and the WEAR
records due, for a percent at or above 80 from threshold NONE and for 100 from below 100, phase A first, take the numbers after
the TRIP record's, before those of a LOCKOUT record (the model's order, log 14); the wear limit is declared exactly when a
phase's percent is 100. A pulse that ends NO_MOVE leaves wear and counter as they were. (R141, R142, R144.) -/
def Obligations.InterruptionAddsWear : Prop :=
  ∀ (s : State) (fin : PulseEnd) (r : TripReq) (rest : List TripReq),
    s.runs → s.orl.part = none → s.seq.trip = some (r :: rest) → s.orl.opCount < 4294967295 →
    (s.act.state = .tripPulse ∨ s.act.state = .tripHeld → opensNow s →
      ∃ t, exec (.contactDebounced .openContact .made 4 fin) s = .next t ∧
        let grown := fun (count amps : Nat) => min 4000000000 (count + (min 20000 amps) ^ 2 / 10000)
        t.orl.wearA.count = grown s.orl.wearA.count s.lsu.meas.a ∧ t.orl.wearB.count = grown s.orl.wearB.count s.lsu.meas.b ∧
        t.orl.wearC.count = grown s.orl.wearC.count s.lsu.meas.c ∧
        writeQueued (.wear ⟨t.orl.wearA.count, t.orl.wearB.count, t.orl.wearC.count⟩) t ∧
        t.orl.opCount = (if s.act.state = .tripPulse ∧ 1 ≤ s.act.pulseMs.getD 0 then s.orl.opCount + 1 else s.orl.opCount) ∧
        (∀ q, (t.orl.phase q).formed (s.sst.globalPage.field 9)) ∧ recordedAll (wearsDue s t) 1 s t ∧
        (t.orl.limit = true ↔ t.orl.wearA.percent = 100 ∨ t.orl.wearB.percent = 100 ∨ t.orl.wearC.percent = 100)) ∧
    (s.act.state = .tripPulse →
      ∃ t, exec (.tripPulseTimeout fin) s = .next t ∧ t.orl.wearA = s.orl.wearA ∧ t.orl.wearB = s.orl.wearB ∧
        t.orl.wearC = s.orl.wearC ∧ t.orl.opCount = s.orl.opCount ∧ t.orl.limit = s.orl.limit)

/-- In a part that serves requests, WEAR_RESET: from LINK it is refused AUTHORITY; from LOCAL a phase above 2 is refused
BAD_FIELD; otherwise, with the phases formed from their counts, that phase's count and percent are 0 and its threshold NONE, the
other phases are as they were, the wear limit is declared only when another phase stands at 100, the write of the counts is
queued, no record is written, and OK is answered with the count held before. That a LINK request with such a phase is refused
AUTHORITY is the model's order of the two refusals (log 55). (R142, R143.) -/
def Obligations.WearIsReset : Prop :=
  ∀ (tag phase : Byte) (s : State), s.serving →
    (s.hlc.key = .remote → exec (.wearReset tag phase) s = .next (s.replied 0x31#8 tag .authority [])) ∧
    (s.hlc.key = .loc → 2 < phase.toNat → exec (.wearReset tag phase) s = .next (s.replied 0x31#8 tag .badField [])) ∧
    (s.hlc.key = .loc → ∀ p ∈ phaseOf phase.toNat,
      (∀ q, (s.orl.phase q).formed (s.sst.globalPage.field 9)) →
      ∃ t, exec (.wearReset tag phase) s = .next t ∧ t.orl.phase p = ⟨0, 0, .none⟩ ∧
        (∀ q, q ≠ p → t.orl.phase q = s.orl.phase q) ∧
        (t.orl.limit = true ↔ ∃ q, q ≠ p ∧ (s.orl.phase q).percent = 100) ∧
        writeQueued (.wear t.orl.counts) t ∧ t.orl.ring = s.orl.ring ∧
        t.hlc.tx = s.hlc.tx ++ [⟨0xB1#8, tag, 0#8 :: be4 (s.orl.phase p).count, false⟩])

/-- If in s the running ring, the retained one and every ring on its way to the store hold at most 64 records whose numbers lie
within 1..4,294,967,295, follow one another and end just before the next record number, itself within that range, the same holds
of every state a step of s answers. What number of that range follows 4,294,967,295 is a free value (log 16), and the statement
holds for every such number. (R136, R140.) -/
def Obligations.OperationLogStaysARun : Prop :=
  ∀ s t : State, logsSound s → step s = .next t → logsSound t

/-- For every byte string and every beacon content: the receiver reads this content from the bytes exactly when the content fits
its places (frame number 2 bytes, time 4, at most 15 acknowledgement pairs, at most 2 commands with their fields, body at most
255 bytes) and the bytes are that beacon's packet: start 0xB6, length, type 0x20, the fields in order, most significant byte
first, and the check over the bytes from the length on. That bytes left over after the fields, or before the check, make a
packet no beacon is the model's choice (log 47). (R168.) -/
def Obligations.BeaconLayout : Prop :=
  ∀ (bytes : Bytes) (b : Beacon), parseBeacon bytes = some b ↔ b.fits ∧ bytes = b.bytes

/-- In a running part that is not SILENT, a valid beacon without a command for this station completes in SYNCED with the frame
timing at 400 ms, miss count 0 and the beacon's frame number; the time is the beacon's where the time base was invalid or
differs by more than 2 s, else as it was, and valid. An entry in AWAIT_ACK whose number the beacon acknowledges for this station
is removed, and for STATUS the lost count falls by the carried count; otherwise one of priority 1..3 at its fourth try is
removed and counted lost, and any other returns to WAITING with its tries 1 higher, held at 4, a younger STATUS entry beside a
returning one being removed. Nothing else changes but the marks of the frame timing: not the pending reply, the stored result,
the last command id, the sequence number, the countdown or the packet going out. In SILENT, and for bytes that are no beacon,
nothing changes at all. Which bytes are no beacon is log 47, the marks log 26, a STATUS entry's fourth try log 53 (the model's
choices). (R147, R150, R151, R159, R169.) -/
def Obligations.BeaconIsHandled : Prop :=
  ∀ (b : Beacon) (s : State), b.fits → s.runs →
    (s.rcc.chan = .silent → exec (.radioPacketReceived b.bytes) s = .next s) ∧
    (∀ bytes, (∀ x : Beacon, x.fits → bytes ≠ x.bytes) → exec (.radioPacketReceived bytes) s = .next s) ∧
    (s.rcc.chan ≠ .silent → (∀ c, ¬ commandFor s b c) →
      ∃ t, exec (.radioPacketReceived b.bytes) s = .next t ∧
        t.rcc = { s.rcc with
          chan := .synced, frameMs := some 400, missCount := 0, lastFrame := some b.frame, beaconSeen := true, missTested := false,
          slotTaken := false, outbox := t.rcc.outbox, lost := t.rcc.lost } ∧
        t = { s with rcc := t.rcc, orl := { s.orl with valid := true, time :=
          if s.orl.valid = true ∧ b.time ≤ s.orl.time + 2 ∧ s.orl.time ≤ b.time + 2 then s.orl.time else b.time } } ∧
        ((∀ e ∈ s.rcc.outbox, e.await = false) → t.rcc.outbox = s.rcc.outbox ∧ t.rcc.lost = s.rcc.lost) ∧
        ∀ before e after, s.rcc.outbox = before ++ e :: after → e.await = true → (∀ x ∈ before ++ after, x.await = false) →
          let acked := ∃ n ∈ e.seqNo, (s.sst.globalPage.field 4, n) ∈ b.acks
          let back : Entry := { e with await := false, tries := min 4 (e.tries + 1) }
          (acked → t.rcc.outbox = before ++ after ∧
            t.rcc.lost = if e.cls = .status then s.rcc.lost - e.carried.getD 0 else s.rcc.lost) ∧
          (¬ acked → 0 < e.cls.priority → 3 ≤ e.tries →
            t.rcc.outbox = before ++ after ∧ t.rcc.lost = min 65535 (s.rcc.lost + 1)) ∧
          (¬ acked → e.cls.priority = 0 ∨ e.tries < 3 →
            t.rcc.lost = s.rcc.lost ∧
            ((e.cls ≠ .status ∨ ∀ x ∈ before ++ after, x.cls ≠ .status) → t.rcc.outbox = before ++ back :: after) ∧
            (e.cls = .status → ∀ mid x rest, after = mid ++ x :: rest → x.cls = .status →
              (∀ y ∈ before ++ mid ++ rest, y.cls ≠ .status) → t.rcc.outbox = before ++ back :: mid ++ rest)))

/-- In a running part that takes beacons, with nothing awaiting an answer, the first command of a valid beacon for this station:
id 0 is refused BAD_FIELD; the last command id again is a duplicate, whose stored result, if present, becomes the pending reply
and which changes nothing otherwise; with the key switch in LOCAL it is refused REFUSED_LOCAL; with remote control off
NOT_PERMITTED; with a kind outside 1..7 UNKNOWN_KIND; with a field length other than the kind's BAD_FIELD; otherwise it is
executed and its id is the last command id. A refusal becomes the pending reply with detail 0 and leaves the last command id,
the stored result, SEQ, ACT, TAG and SST as they were; so does a duplicate. (R161.) -/
def Obligations.RemoteCommandIsChecked : Prop :=
  ∀ (b : Beacon) (c : RadioCmd) (s : State), b.fits → s.runs → s.seq.decided = true → listening s → commandFor s b c →
    ∃ t, exec (.radioPacketReceived b.bytes) s = .next t ∧
      let untouched := t.rcc.lastId = s.rcc.lastId ∧ t.rcc.stored = s.rcc.stored ∧ t.rcc.outbox = s.rcc.outbox ∧
        t.seq = s.seq ∧ t.act = s.act ∧ t.tag = s.tag ∧ t.sst = s.sst
      let refused := fun (r : Res) => t.rcc.pending = some ⟨c.id, r, 0⟩ ∧ untouched
      let needs : List (Nat × Nat) := [(1, 0), (2, 0), (3, 5), (4, 4), (5, 1), (6, 0), (7, 4)]
      (c.id = 0 → refused .badField) ∧
      (c.id ≠ 0 → s.rcc.lastId = some c.id →
        (∀ r d, s.rcc.stored = some (r, d) → t.rcc.pending = some ⟨c.id, r, d⟩) ∧
        (s.rcc.stored = none → t.rcc.pending = s.rcc.pending) ∧ untouched) ∧
      (c.id ≠ 0 → s.rcc.lastId ≠ some c.id →
        (s.hlc.key = .loc → refused .refusedLocal) ∧
        (s.hlc.key = .remote → s.sst.globalPage.field 11 ≠ 1 → refused .notPermitted) ∧
        (s.hlc.key = .remote → s.sst.globalPage.field 11 = 1 →
          ((∀ n, (c.kind, n) ∉ needs) → refused .unknownKind) ∧
          ∀ n, (c.kind, n) ∈ needs → (c.fields.length ≠ n → refused .badField) ∧ (c.fields.length = n → t.rcc.lastId = some c.id)))

/-- In a running part that takes beacons, with nothing awaiting an answer and room in the outbox, the key switch in REMOTE,
remote control permitted and a new command id, the first command of a valid beacon for this station: REMOTE_OPEN in CLOSED or
RECLAIM trips with a request of authority RADIO, answered OK; REMOTE_CLOSE in LOCKOUT with permission begins a close of origin
RADIO whose result waits; TAG_PLACE stores a tag placed at RADIO; TAG_REMOVE removes a tag of its crew placed at RADIO and is
refused AUTHORITY for another; GROUP_SELECT applies the group in a settled SEQ, detail 0, and holds it otherwise, detail 1;
STATUS_REQUEST leaves a WAITING STATUS entry; TIME_SET sets the time. A result given is both the stored result and the pending
reply. (R162, R164.) -/
def Obligations.RemoteCommandIsExecuted : Prop :=
  ∀ (b : Beacon) (c : RadioCmd) (s : State), b.fits → s.runs → s.seq.decided = true → listening s → commandFor s b c →
    c.id ≠ 0 → s.rcc.lastId ≠ some c.id → s.hlc.key = .remote → s.sst.globalPage.field 11 = 1 → s.rcc.outbox.length < 32 →
    s.tag.table.sound →
    ∃ t, exec (.radioPacketReceived b.bytes) s = .next t ∧
      let result := fun (r : Res) (detail : Nat) => t.rcc.stored = some (r, detail) ∧ t.rcc.pending = some ⟨c.id, r, detail⟩
      (c.kind = 1 → c.fields = [] → s.seq.state ∈ [SeqState.closed, .reclaim] → s.act.state = .idle →
        t.seq.state = .tripping ∧ t.seq.trip = some [.command .radio] ∧ result .ok 0) ∧
      (c.kind = 2 → c.fields = [] → s.seq.state = .lockout → s.act.state = .idle → s.act.mech = false → s.act.position = .isOpen →
        s.tag.table.tags = [] → s.bcu.level = .normal → 250 ≤ s.act.cap →
        t.seq.state = .closing ∧ t.seq.heldClose = some (.radio c.id) ∧ t.act.state = .closePulse ∧ t.act.origin = some .radio ∧
        t.rcc.stored = none ∧ t.rcc.pending = s.rcc.pending) ∧
      (∀ crew, c.kind = 3 → c.fields = be2 crew ++ [0#8, 0#8, 0#8] → 1 ≤ crew → crew ≤ 9999 → s.tag.table.tags.length < 8 →
        (∀ x ∈ s.tag.table.tags, x.crew ≠ crew) → s.act.state ≠ .closePulse →
        (∃ x ∈ t.tag.table.tags, x.crew = crew ∧ x.mode = .noReclose ∧ x.auth = .radio ∧ x.left = none) ∧ result .ok 0) ∧
      (∀ x ∈ s.tag.table.tags, c.kind = 4 → c.fields = be2 x.number ++ be2 x.crew →
        (x.auth = .radio → t.tag.table.holds x.number = false ∧ result .ok 0) ∧
        (x.auth ≠ .radio → t.tag = s.tag ∧ result .authority 0)) ∧
      (∀ g, c.kind = 5 → c.fields = [g] → g.toNat ≤ 3 → g.toNat ≠ s.sst.active → s.sst.staging = .empty →
        (seqSettled s → t.sst.active = g.toNat ∧ result .ok 0) ∧
        (¬ seqSettled s → t.sst.active = s.sst.active ∧ t.seq.pendingGroup = some g.toNat ∧ result .ok 1)) ∧
      (c.kind = 6 → c.fields = [] → (∃ e ∈ t.rcc.outbox, e.cls = .status ∧ e.await = false) ∧ result .ok 0) ∧
      (∀ time, c.kind = 7 → time < 4294967296 → c.fields = be4 time → t.orl.time = time ∧ t.orl.valid = true ∧ result .ok 0)

/-- In SYNCED: at the end of slot 0, at 500 ms or, when it is first taken later, at that moment, with a beacon taken nothing but
the frame timing and its marks changes; without one the miss count grows by 1, entries return to WAITING with their tries, and
at the fourth miss the channel is SEARCHING without frame timing. An own slot not yet taken comes at 500 ms times the station id
after slot 0: when the end of slot 0 has not been tested, or the slot's time has passed, that end comes first. There, with no
packet going out: on an occupied channel nothing is sent; a pending reply goes first and is pending no more; else the first
WAITING entry of a permitted priority is sent under its number or the next one, in form RECORD, GAP or STATUS, and awaits its
answer; else nothing is sent. RADIO_TRANSMIT_END lowers transmit enable. In a running part STATUS_INTERVAL_DUE sets the
countdown afresh and makes a STATUS entry unless one is WAITING; a full outbox drops it and counts it lost. The marks, and that
a slot's command brings the ends of slot 0 it passes, are the model's (log 26), and so are RECORD and GAP once record numbers
have passed the top (log 67). (R152, R155, R157, R158.) -/
def Obligations.RadioTimesItsSlots : Prop :=
  ∀ s : State,
    let station := s.sst.globalPage.field 4
    let slotEnd := if s.rcc.missTested then 500 else max 500 (s.rcc.frameMs.getD 0)
    (s.rcc.chan = .synced → s.rcc.beaconSeen = true → exec .beaconMissCheck s =
      .next { s with rcc := { s.rcc with frameMs := some slotEnd, missTested := true, beaconSeen := false } }) ∧
    (s.rcc.chan = .synced → s.rcc.beaconSeen = false → s.rcc.missCount ≤ 3 →
      ∃ t, exec .beaconMissCheck s = .next t ∧ t = { s with rcc := t.rcc } ∧ t.rcc.missCount = s.rcc.missCount + 1 ∧
        t.rcc.lost = s.rcc.lost ∧ (∀ e ∈ t.rcc.outbox, e.await = false) ∧
        (∀ e ∈ s.rcc.outbox, e.cls ≠ .status → { e with await := false } ∈ t.rcc.outbox) ∧
        t.rcc.chan = (if s.rcc.missCount = 3 then .searching else .synced) ∧
        t.rcc.frameMs = (if s.rcc.missCount = 3 then none else some slotEnd) ∧ t.rcc.missTested = true ∧ t.rcc.slotTaken = false) ∧
    (s.rcc.chan = .synced → s.rcc.slotTaken = false → s.rcc.tx = none →
      s.rcc.missTested = false ∨ (0 < station ∧ ∃ n ∈ s.rcc.frameMs, 500 * station < n) →
      ∀ t carrier, exec .beaconMissCheck s = .next t → exec (.ownSlotStart carrier) s = exec (.ownSlotStart carrier) t) ∧
    (s.rcc.chan = .synced → s.rcc.slotTaken = false → s.rcc.tx = none → s.rcc.missTested = true →
      (∀ n ∈ s.rcc.frameMs, n ≤ 500 * station) →
      let passed := { s.rcc with slotTaken := true, frameMs := some (500 * station) }
      exec (.ownSlotStart true) s = .next { s with rcc := passed } ∧
      (∀ r, s.rcc.pending = some r → s.bcu.level ≠ .exhausted → exec (.ownSlotStart false) s =
        .next { s with rcc := { passed with
          pending := none, tx := some (packet 0x22 station (be1 r.id ++ be1 r.res.code ++ be1 r.detail)) } }) ∧
      (s.rcc.pending = none → (∀ e ∈ s.rcc.outbox, e.await = true ∨ ¬ maySend s.bcu.level e.cls.priority) →
        exec (.ownSlotStart false) s = .next { s with rcc := passed }) ∧
      (s.rcc.pending = none → ∀ before e after, s.rcc.outbox = before ++ e :: after → e.await = false →
        maySend s.bcu.level e.cls.priority → (∀ x ∈ before, x.await = true ∨ ¬ maySend s.bcu.level x.cls.priority) →
        ∃ form content, reportForm s e form content ∧
          let n := e.seqNo.getD s.rcc.nextSeq
          exec (.ownSlotStart false) s = .next { s with rcc := { passed with
            outbox := before ++ { e with await := true, seqNo := some n, carried := if e.cls = .status then some s.rcc.lost else none } :: after
            nextSeq := if e.seqNo.isSome then s.rcc.nextSeq else (s.rcc.nextSeq + 1) % 256
            tx := some (packet 0x21 station
              (be1 n ++ be1 form ++ be1 e.cls.code ++ be1 e.cls.priority ++ be4 (e.record.getD 0) ++ content)) } })) ∧
    (exec .radioTransmitEnd s = .next { s with rcc := { s.rcc with tx := none } }) ∧
    (s.stage = .running → s.rcc.statusLeft = some 1 → (∀ x ∈ s.tag.table.tags, ∀ n ∈ x.left, 2 ≤ n) →
      ∃ t, exec .statusIntervalDue s = .next t ∧
        t.rcc.statusLeft = (if s.sst.globalPage.field 5 = 0 then none else some (s.sst.globalPage.field 5)) ∧
        let waits := ∃ e ∈ s.rcc.outbox, e.cls = .status ∧ e.await = false
        (waits → t.rcc.outbox = s.rcc.outbox ∧ t.rcc.lost = s.rcc.lost) ∧
        (¬ waits → s.rcc.outbox.length < 32 → t.rcc.lost = s.rcc.lost ∧
          t.rcc.outbox = s.rcc.outbox ++ [⟨.status, none, false, 0, none, none, s.rcc.nextOrder⟩]) ∧
        (¬ waits → 32 ≤ s.rcc.outbox.length → t.rcc.outbox = s.rcc.outbox ∧ t.rcc.lost = min 65535 (s.rcc.lost + 1)))

/-- If in s the outbox holds at most 32 entries in order of priority and then creation, each within the ranges of its fields and
with its record number absent exactly for STATUS, at most one STATUS entry WAITING and at most one entry in AWAIT_ACK, that one
only in SYNCED and with the station's slot taken since the last beacon or beacon miss (the model's mark of log 26), with the
frame timing present in SYNCED, a lost count of at most 65535, a next sequence number of at most 255 and a miss count of at most
4, then the same holds of every state a step of s answers. (R150, R152, R153, R156, R158, R160.) -/
def Obligations.OutboxStaysSound : Prop :=
  ∀ s t : State, s.rcc.sound → step s = .next t → t.rcc.sound

/-- For a LOCKOUT record (the hold timer's expiry, with no group pending), a TAG_REMOVED record (TAG_CLEAR from LOCAL) and a
TEST record (BATTERY_TEST_CANCEL), so for priorities 0, 1 and 3, in a part whose outbox is sound: with fewer than 32 entries the
new entry joins, WAITING with no tries and no sequence number, and nothing is lost. With 32, the WAITING entries being compared:
where the least urgent of them is less urgent than the new one, the youngest of that priority goes and the new one joins; where
all of them and the new one are priority 0, the oldest goes and the new one joins; otherwise the new one is dropped. A victim or
a dropped entry adds 1 to the lost count, held at 65535. The creation order moves on, and the outbox stays in order. (R138,
R153, R154, R156, R160.) -/
def Obligations.ReportsEnterTheOutbox : Prop :=
  ∀ (tag : Byte) (number : BitVec 16) (s : State), s.rcc.sound →
    (s.stage = .running → s.seq.state = .recloseHold → s.seq.holdReason = some .energy → s.seq.pendingGroup = none →
      ∃ t, exec .holdTimerExpiry s = .next t ∧ entersOutbox .lockout s t) ∧
    (s.serving → s.hlc.key = .loc → number ≠ 0 → s.tag.table.holds number.toNat = true →
      ∃ t, exec (.tagClear tag number) s = .next t ∧ entersOutbox .tag s t) ∧
    (s.serving → s.bcu.test ≠ .idle →
      ∃ t, exec (.batteryTestCancel tag) s = .next t ∧ entersOutbox .test s t)

/-- In a part that serves requests: STAGE_OPEN of no existing target is refused BAD_FIELD, in COMMITTING BUSY, and otherwise
opens the buffer on the target's stored page with the pointer at 0, saying whether content was discarded. STAGE_LOAD, STAGE_SEEK
and STAGE_READ are refused NOT_STAGED in EMPTY and BUSY in COMMITTING. In OPEN, STAGE_LOAD of a value in the range of the field
at the pointer replaces the field and with advance steps the pointer, from the last field (53, 11 or 32) to 0; out of range, or
with an advance byte above 1, it is refused BAD_FIELD. STAGE_SEEK moves the pointer to a field of the page and is refused
BAD_FIELD beyond it. STAGE_READ carries the pointer and the value. Nothing else changes. That the number byte of the global page
is not read and that the value takes 4 bytes are the model's choices (log 23), and so is the order of two refusals: STAGE_OPEN's
target before BUSY (log 62), the buffer's state before STAGE_LOAD's advance byte (log 63). (R173, R174, R185.) -/
def Obligations.StagingRequests : Prop :=
  ∀ (tag kind number advance field : Byte) (value : BitVec 32) (s : State), s.serving →
    let staged := fun (b : StageBuf) => { s with sst := { s.sst with staging := .opened b } }
    (((∀ t : Target, t.real → ¬ names kind number t) → exec (.stageOpen tag kind number) s = .next (s.replied 0x50#8 tag .badField [])) ∧
      ∀ t : Target, t.real → names kind number t →
        (s.sst.staging.isCommitting = true → exec (.stageOpen tag kind number) s = .next (s.replied 0x50#8 tag .busy [])) ∧
        (s.sst.staging = .empty → exec (.stageOpen tag kind number) s =
          .next ((staged ⟨t, s.sst.store.page t, 0⟩).replied 0x50#8 tag .ok [0#8])) ∧
        (∀ b, s.sst.staging = .opened b → exec (.stageOpen tag kind number) s =
          .next ((staged ⟨t, s.sst.store.page t, 0⟩).replied 0x50#8 tag .ok [1#8]))) ∧
    (s.sst.staging = .empty →
      exec (.stageLoad tag value advance) s = .next (s.replied 0x51#8 tag .notStaged []) ∧
      exec (.stageSeek tag field) s = .next (s.replied 0x52#8 tag .notStaged []) ∧
      exec (.stageRead tag) s = .next (s.replied 0x53#8 tag .notStaged [])) ∧
    (s.sst.staging.isCommitting = true →
      exec (.stageLoad tag value advance) s = .next (s.replied 0x51#8 tag .busy []) ∧
      exec (.stageSeek tag field) s = .next (s.replied 0x52#8 tag .busy []) ∧
      exec (.stageRead tag) s = .next (s.replied 0x53#8 tag .busy [])) ∧
    (∀ b, s.sst.staging = .opened b → b.pointer ≤ lastOf b.target →
      (1 < advance.toNat ∨ ¬ inRange b.target b.pointer value.toInt →
        exec (.stageLoad tag value advance) s = .next (s.replied 0x51#8 tag .badField [])) ∧
      (advance.toNat ≤ 1 → inRange b.target b.pointer value.toInt → exec (.stageLoad tag value advance) s =
        .next ((staged { b with
          page := b.page.set b.pointer value.toNat
          pointer := if advance = 0#8 then b.pointer else if b.pointer = lastOf b.target then 0 else b.pointer + 1 }).replied 0x51#8 tag .ok [])) ∧
      (lastOf b.target < field.toNat → exec (.stageSeek tag field) s = .next (s.replied 0x52#8 tag .badField [])) ∧
      (field.toNat ≤ lastOf b.target → exec (.stageSeek tag field) s =
        .next ((staged { b with pointer := field.toNat }).replied 0x52#8 tag .ok [])) ∧
      exec (.stageRead tag) s = .next (s.replied 0x53#8 tag .ok (be1 b.pointer ++ be4 (b.page.getD b.pointer 0))))

/-- In a part that serves requests, COMMIT: with the buffer EMPTY it is refused NOT_STAGED, in COMMITTING BUSY; a page of which
a field fails its range or a cross-field check is refused INVALID with the lowest such field; the active group's page outside
LOCKOUT, MECH_FAIL and CLOSED with all quiet, and the global page outside LOCKOUT, ACTIVE_BUSY; a curve that the active group's
working copy or content held for it names IN_USE. A refusal changes nothing but the transmit list. Otherwise the buffer is
COMMITTING, its page write begun if no retained write is in flight, and the request stays current. (R175.) -/
def Obligations.CommitIsChecked : Prop :=
  ∀ (tag : Byte) (s : State), s.serving →
    let refused := fun (r : Res) (more : Bytes) => exec (.commit tag) s = .next (s.replied 0x54#8 tag r more)
    (s.sst.staging = .empty → refused .notStaged []) ∧
    (s.sst.staging.isCommitting = true → refused .busy []) ∧
    ∀ b, s.sst.staging = .opened b →
      let fails := failsCheck s.sst.store b.target b.page
      let busy := (b.target = .group s.sst.active ∧ ¬ seqSettled s) ∨ (b.target = .global ∧ s.seq.state ≠ .lockout)
      let used := ∃ n, b.target = .curve n ∧ (usesCurve s.sst.group n ∨ ∃ p ∈ s.sst.held, usesCurve p n)
      (∀ i ≤ lastOf b.target, fails i → (∀ j < i, ¬ fails j) → refused .invalid [BitVec.ofNat 8 i]) ∧
      ((∀ i ≤ lastOf b.target, ¬ fails i) →
        (busy → refused .activeBusy []) ∧ (used → refused .inUse []) ∧
        (¬ busy → ¬ used → exec (.commit tag) s =
          .next { s with sst := { s.sst with staging := .committing b true s.sst.inFlight.isNone }
                         hlc := { s.hlc with current := some ⟨0x54#8, tag, .commit⟩ } }))

/-- In a running part, COMMIT_COMPLETE of a page write that has begun completes with the target's stored page replaced by the
staged one (a curve's fields beyond its count 0), the buffer EMPTY and the host's COMMIT answered OK; the working copy of a
curve, also of one that the active group names (log 58), and of the global page is replaced at once, that of the active group at
once in a settled SEQ with the effect on the elements of a group application, and otherwise its content is held; another group's
has none. A radio selection of the committed group that waited is then taken with the new page stored: answered with detail
applied where the group is active or SEQ settled, in which case it becomes active with that page, and held otherwise. A page
write that has not begun does not end. RETAINED_WRITE_COMPLETE puts the value in flight into the store; then a waiting page
write begins, or, without a commit or a supply loss, the head of the write queue, which WriteQueueStaysOrdered keeps in item
order, is next in flight. (R172, R176, R177, R178, R179.) -/
def Obligations.CommitAndWritesComplete : Prop :=
  ∀ s : State,
    (∀ b reply, s.sst.staging = .committing b reply false → exec .commitComplete s = .next s) ∧
    (∀ b reply, s.runs → s.sst.staging = .committing b reply true → s.sst.waiting = [] →
      ∃ t p, exec .commitComplete s = .next t ∧ isStored b.target b.page p ∧ t.sst.staging = .empty ∧
        (reply = true → ∀ f, s.hlc.current = some f → t.answered f.kind f.tag .ok []) ∧
        (∀ n, b.target = .group n →
          t.sst.store = { s.sst.store with groups := s.sst.store.groups.set n p } ∧ t.sst.active = s.sst.active ∧
          (n ≠ s.sst.active → t.sst.group = s.sst.group ∧ t.sst.held = s.sst.held ∧ t.peu = s.peu) ∧
          (n = s.sst.active → seqSettled s → t.sst.group = p ∧ t.sst.held = none ∧ applied s t) ∧
          (n = s.sst.active → ¬ seqSettled s → t.sst.group = s.sst.group ∧ t.sst.held = some p ∧ t.peu = s.peu)) ∧
        (∀ n, b.target = .curve n →
          t.sst.store = { s.sst.store with curves := s.sst.store.curves.set (n - 4) p } ∧
          t.sst.curves = s.sst.curves.set (n - 4) p ∧ t.sst.group = s.sst.group ∧ t.peu = s.peu) ∧
        (b.target = .global → t.sst.store = { s.sst.store with globalPage := p } ∧ t.sst.globalPage = p ∧ t.seq = s.seq)) ∧
    (∀ b reply n id, s.runs → s.seq.decided = true → s.sst.staging = .committing b reply true → b.target = .group n →
      n < s.sst.store.groups.length → s.sst.waiting = [.radio id] →
      ∃ t p, exec .commitComplete s = .next t ∧ isStored b.target b.page p ∧ t.sst.staging = .empty ∧ t.sst.waiting = [] ∧
        t.sst.store = { s.sst.store with groups := s.sst.store.groups.set n p } ∧
        let answered := fun (detail : Nat) =>
          t.rcc.pending = some ⟨id, .ok, detail⟩ ∧ (s.rcc.lastId = some id → t.rcc.stored = some (.ok, detail))
        (n = s.sst.active → t.sst.active = s.sst.active ∧ t.seq.pendingGroup = none ∧ answered 0) ∧
        (n ≠ s.sst.active → seqSettled s → t.sst.active = n ∧ t.sst.group = p ∧ t.seq.pendingGroup = none ∧
          recorded (.groupChange s.sst.active n) s t ∧ writeQueued (.activeGroup n) t ∧ answered 0) ∧
        (n ≠ s.sst.active → ¬ seqSettled s → t.sst.active = s.sst.active ∧ t.seq.pendingGroup = some n ∧ answered 1)) ∧
    (∀ i, s.sst.inFlight = some i →
      ∃ t, exec .retainedWriteComplete s = .next t ∧ t.sst.store = s.sst.store.withItem i ∧ t.hlc = s.hlc ∧
        (∀ b reply w, s.sst.staging = .committing b reply w →
          t.sst.staging = .committing b reply true ∧ t.sst.inFlight = none ∧ t.sst.queue = s.sst.queue) ∧
        (s.sst.staging.isCommitting = false → t.sst.staging = s.sst.staging ∧
          (s.sst.lost = true → t.sst.inFlight = none ∧ t.sst.queue = s.sst.queue) ∧
          (s.sst.lost = false → t.sst.inFlight = s.sst.queue.head? ∧ t.sst.queue = s.sst.queue.tail)))

/-- In a running part, at the completion of a commit of the global page: a changed frequency empties the windows and sets N,
fill count, measurement set and runs as a window restart, and keeps the line states; changed voltages or thresholds form both
threshold voltages anew, set the runs to 0 and keep the line states; a changed capacity rescales the charge count by the SoC,
sets the resynchronisation run to 0 and queues the count's write; a changed station id makes the channel SILENT for 0 or at
EXHAUSTED and SEARCHING otherwise, without frame timing, which where the channel is SILENT is the model's reading (log 40), and
with no entry awaiting; a changed status interval or test interval sets its countdown, the latter with no test running; a
changed wear budget keeps the wear counts, forms percents, thresholds and wear limit anew and makes the WEAR records due, phase
A first. What did not change acts on nothing. (R8, R15, R118, R126, R142, R149, R155, R176.) -/
def Obligations.GlobalCommitActs : Prop :=
  ∀ (s : State) (b : StageBuf) (reply : Bool),
    s.runs → s.sst.staging = .committing b reply true → s.sst.waiting = [] → b.target = .global →
    ∃ t, exec .commitComplete s = .next t ∧
      let old := s.sst.globalPage.field
      let new := b.page.field
      let linesKept := t.lsu.source = ⟨s.lsu.source.line, 0, 0⟩ ∧ t.lsu.load = ⟨s.lsu.load.line, 0, 0⟩
      let voltages := old 1 ≠ new 1 ∨ old 2 ≠ new 2 ∨ old 3 ≠ new 3
      (old 0 ≠ new 0 → t.lsu.winLen = (if new 0 = 60 then 133 else 160) ∧ t.lsu.window = [] ∧ t.lsu.fill = 0 ∧ linesKept ∧
        t.lsu.meas = ⟨0, 0, 0, 0, 0, 0, false, false, false, false, false, false, false⟩) ∧
      (voltages → t.lsu.liveV = new 1 * new 2 / 100 ∧ t.lsu.deadV = new 1 * new 3 / 100 ∧ linesKept) ∧
      (old 0 = new 0 → ¬ voltages → t.lsu = s.lsu) ∧
      (old 6 ≠ new 6 → t.bcu.charge = s.bcu.soc * (new 6 * 3600000) / 100 ∧ t.bcu.resync = 0 ∧ t.bcu.soc = s.bcu.soc ∧
        writeQueued (.charge t.bcu.charge) t) ∧
      (old 6 = new 6 → t.bcu.charge = s.bcu.charge ∧ t.bcu.resync = s.bcu.resync) ∧
      (old 7 ≠ new 7 → s.bcu.test = .idle → t.bcu.countdown = if new 7 = 0 then none else some (new 7 * 1440)) ∧
      (old 7 = new 7 ∨ s.bcu.test ≠ .idle → t.bcu.countdown = s.bcu.countdown) ∧
      (old 4 ≠ new 4 → t.rcc.frameMs = none ∧ (∀ e ∈ t.rcc.outbox, e.await = false) ∧
        t.rcc.chan = if new 4 = 0 ∨ s.bcu.level = .exhausted then .silent else .searching) ∧
      (old 4 = new 4 → t.rcc.chan = s.rcc.chan ∧ t.rcc.frameMs = s.rcc.frameMs) ∧
      (old 5 ≠ new 5 → t.rcc.statusLeft = if new 5 = 0 then none else some (new 5)) ∧
      (old 5 = new 5 → t.rcc.statusLeft = s.rcc.statusLeft) ∧
      (old 9 ≠ new 9 → (∀ q, (t.orl.phase q).count = (s.orl.phase q).count ∧ (t.orl.phase q).formed (new 9)) ∧
        (t.orl.limit = true ↔ ∃ q, (t.orl.phase q).percent = 100) ∧ recordedAll (wearsDue s t) 0 s t) ∧
      (old 9 = new 9 → t.orl = s.orl)

/-- In a part that serves requests, GROUP_SELECT above 3 is refused BAD_FIELD. Of the group being committed it waits, the
request current. Of the active group it makes a pending group absent and is answered OK, applied. In LOCKOUT, MECH_FAIL, or
CLOSED with all quiet, another group becomes active with its stored page in force, held content is discarded, the elements take
the application, GROUP_CHANGE is recorded, the write of the active group queued and OK answered, applied. In any other state it
is the pending group and OK is answered, held. That a selection of another group is handed to SEQ ahead of one that waits on a
commit is the model's choice between two sentences of R177 (log 56). (R35, R65, R177.) -/
def Obligations.GroupIsSelected : Prop :=
  ∀ (tag group : Byte) (s : State), s.serving → s.seq.decided = true →
    let g := group.toNat
    (3 < g → exec (.groupSelect tag group) s = .next (s.replied 0x55#8 tag .badField [])) ∧
    (g ≤ 3 → ∀ b reply w, s.sst.staging = .committing b reply w → b.target = .group g → exec (.groupSelect tag group) s =
      .next { s with sst := { s.sst with waiting := s.sst.waiting ++ [.host] }
                     hlc := { s.hlc with current := some ⟨0x55#8, tag, .groupSelect g⟩ } }) ∧
    (g ≤ 3 → (∀ b reply w, s.sst.staging = .committing b reply w → b.target ≠ .group g) →
      (g = s.sst.active → exec (.groupSelect tag group) s =
        .next ({ s with seq := { s.seq with pendingGroup := none } }.replied 0x55#8 tag .ok [0#8])) ∧
      (g ≠ s.sst.active → seqSettled s → ∃ t, exec (.groupSelect tag group) s = .next t ∧ t.sst.active = g ∧
        t.sst.group = s.sst.store.groups.getD g deliveredGroup ∧ t.sst.held = none ∧ applied s t ∧
        t.seq = { s.seq with pendingGroup := none } ∧ recorded (.groupChange s.sst.active g) s t ∧
        writeQueued (.activeGroup g) t ∧ t.answered 0x55#8 tag .ok [0#8]) ∧
      (g ≠ s.sst.active → ¬ seqSettled s → exec (.groupSelect tag group) s =
        .next ({ s with seq := { s.seq with pendingGroup := some g } }.replied 0x55#8 tag .ok [1#8])))

/-- RESTART of a part that serves requests is refused BUSY with ACT not IDLE or the buffer COMMITTING, else answered OK, after
which the part only drains. WARM_START, without a supply loss, with nothing left to write, ACT IDLE and the reply sent, begins a
start delay that keeps the log as it then stands (log 37) and the time, the charge count of the accepted RESTART, and the
radio's outbox, counts, last command id and stored result. COLD_START from any state leaves the state after reset but for the
retained store, the disconnect latch, the capacitor and the model's pulse count; a retained write in flight has landed where its
operand says so (log 21) or after a supply loss, a page write that has begun where the operand says so; after a loss a pulse has
run out. START_DELAY_END starts every block from the store, after a warm start from what was kept, and forgets no supply loss.
The values before the blocks start are those of log 9, SEQ's placeholder is log 10, that COLD_START may come in every state log
45. (R7, R86, R118, R121, R140, R165, R179, R180.) -/
def Obligations.StartsRestoreThePart : Prop :=
  ∀ (tag : Byte) (landed : Bool) (inp : StartInputs) (count : Nat) (s : State),
    (s.serving →
      ((s.act.state ≠ .idle ∨ s.sst.staging.isCommitting = true) →
        exec (.restart tag) s = .next (s.replied 0x60#8 tag .busy [])) ∧
      (s.act.state = .idle → s.sst.staging.isCommitting = false → exec (.restart tag) s =
        .next { s with restarting := some s.bcu.charge
                       hlc := { s.hlc with tx := s.hlc.tx ++ [⟨0xE0#8, tag, [0#8], false⟩], rx := [] } })) ∧
    (s.stage = .running → s.sst.lost = false → s.restarting = some count → s.sst.queue = [] → s.sst.inFlight = none →
      s.sst.staging.isCommitting = false → s.act.state = .idle → (∀ f ∈ s.hlc.tx, f.kind ≠ 0xE0#8) →
      ∃ t, exec .warmStart s = .next t ∧ t.stage = .startDelay .warm ∧ t.restarting = none ∧ t.sst.store = s.sst.store ∧
        t.sst.staging = .empty ∧ t.seq = State.reset.seq ∧ t.hlc = State.reset.hlc ∧ t.bcu.charge = count ∧
        t.act = { State.reset.act with cap := s.act.cap, pulses := s.act.pulses } ∧
        t.orl = { s.orl with sec := 0, capture := none, part := none, waiting := [] } ∧
        t.rcc = { State.reset.rcc with
          outbox := t.rcc.outbox, lost := s.rcc.lost, nextSeq := s.rcc.nextSeq, nextOrder := s.rcc.nextOrder, lastId := s.rcc.lastId,
          stored := s.rcc.stored } ∧
        (∀ e ∈ t.rcc.outbox, e.await = false) ∧ (∀ e ∈ s.rcc.outbox, e.cls ≠ .status → { e with await := false } ∈ t.rcc.outbox) ∧
        t.tripDrive = false ∧ t.closeDrive = false ∧ t.converterDrive = false ∧ t.transmitEnable = false) ∧
    (s.sst.lost = true → exec .warmStart s = .next s) ∧
    (∃ t, exec (.coldStart landed) s = .next t ∧
      t = { State.reset with
        sst := .idle t.sst.store, bcu := { State.reset.bcu with connected := s.bcu.connected },
        act := { State.reset.act with cap := s.act.cap, pulses := t.act.pulses }, pending := s.pending } ∧
      t.act.pulses = (if s.sst.lost = true ∧ (s.act.state = .tripPulse ∨ s.act.state = .closePulse) then s.act.pulses + 1
        else s.act.pulses) ∧
      let written := match s.sst.inFlight with
        | some i => if landed = true ∨ s.sst.lost = true then s.sst.store.withItem i else s.sst.store
        | none => s.sst.store
      ((landed = false ∨ ∀ b reply, s.sst.staging ≠ .committing b reply true) → t.sst.store = written) ∧
      (landed = true → ∀ b reply, s.sst.staging = .committing b reply true →
        ∃ p, isStored b.target b.page p ∧ t.sst.store = written.withPage b.target p)) ∧
    (∀ k, s.stage = .startDelay k → ∃ t, exec (.startDelayEnd inp) s = .next t ∧ t.stage = .starting k ∧
      let st := s.sst.store
      let full := st.globalPage.field 6 * 3600000
      let station := st.globalPage.field 4
      t.sst = { Sst.idle st with lost := s.sst.lost, lostMs := s.sst.lostMs } ∧ t.seq = State.reset.seq ∧ t.restarting = none ∧
      t.peu = State.reset.peu ∧ t.tag = ⟨st.tags, 0⟩ ∧ t.hlc.key = inp.key ∧ t.hlc.queue = [] ∧ t.hlc.tx = [] ∧
      t.lsu = { State.reset.lsu with
        winLen := if st.globalPage.field 0 = 60 then 133 else 160
        liveV := st.globalPage.field 1 * st.globalPage.field 2 / 100
        deadV := st.globalPage.field 1 * st.globalPage.field 3 / 100 } ∧
      t.act = { State.reset.act with
        mech := st.mech, cap := min 350 inp.cap, pulses := s.act.pulses
        converter := if inp.cap < 250 then .full else if inp.cap < 300 then .topup else .off } ∧
      t.bcu.connected = true ∧ t.bcu.test = .idle ∧ t.bcu.history = st.history ∧ t.bcu.soc = t.bcu.charge * 100 / full ∧
      t.bcu.level = (if 40 ≤ t.bcu.soc then .normal else if 20 ≤ t.bcu.soc then .lean else .conserve) ∧
      (∀ p, (t.orl.phase p).formed (st.globalPage.field 9)) ∧ t.orl.sec = 0 ∧ t.orl.capture = none ∧ t.orl.waiting = [] ∧
      t.rcc.chan = (if station = 0 then .silent else .searching) ∧ t.rcc.pending = none ∧ t.rcc.frameMs = none ∧
      (k = .cold → t.orl.ring = st.ring ∧ t.orl.next = st.next ∧ t.orl.counts = st.wear ∧ t.orl.opCount = st.opCount ∧
        t.orl.time = 0 ∧ t.orl.valid = false ∧ t.rcc.outbox = [] ∧ t.rcc.lost = 0 ∧ t.rcc.lastId = none ∧
        t.bcu.charge = min full (st.charge.getD (full * 50 / 100))) ∧
      (k = .warm → t.orl.ring = s.orl.ring ∧ t.orl.next = s.orl.next ∧ t.orl.counts = s.orl.counts ∧ t.orl.opCount = s.orl.opCount ∧
        t.orl.time = s.orl.time ∧ t.orl.valid = s.orl.valid ∧ ((∀ e ∈ s.rcc.outbox, e.await = false) → t.rcc.outbox = s.rcc.outbox) ∧
        t.rcc.lost = s.rcc.lost ∧ t.rcc.lastId = s.rcc.lastId ∧ t.rcc.stored = s.rcc.stored ∧ t.bcu.charge = s.bcu.charge))

/-- If in s the pending retained writes stand in item order with at most one of each item, none waits without a write in flight
but for a commit in progress or a loss of supply, and no retained write is in flight beside a page write that has begun, the
same holds of every state a step of s answers. (R176, R178, R179.) -/
def Obligations.WriteQueueStaysOrdered : Prop :=
  ∀ s t : State, s.sst.writesSound → step s = .next t → t.sst.writesSound

/-- At State.reset every element and indication of the PEU, SEQ's items, ACT's items, the tags running, retained and on their
way, the charge count, the load test, the operation logs, the outbox and the write queue are sound in the sense of
PeuStaysSound, SeqStaysSound, ActStaysSound, TagTableStaysSound, ChargeStaysBounded, LoadTestStaysSafe, OperationLogStaysARun,
OutboxStaysSound and WriteQueueStaysOrdered; no command waits, no coil, charger, test load or converter is driven and nothing is
sent. Reset stands at the beginning of a cold start's start delay of a delivered part; the values that the spec does not give
are log 9, SEQ's placeholder is log 10. (09_settings_groups_curves_and_retained_state.md section 9.6,
95_what_each_step_holds.md.) -/
def Obligations.ResetMeetsTheInvariants : Prop :=
  let s := State.reset
  s.peu.sound ∧ seqSound s ∧ s.act.sound ∧ tagsSound s ∧ chargeBounded s ∧ loadTestSafe s ∧ logsSound s ∧ s.rcc.sound ∧
  s.sst.writesSound ∧ s.stage = .startDelay .cold ∧ s.sst.store = Store.delivered ∧ s.pending = [] ∧ s.hlc.tx = [] ∧
  s.tripDrive = false ∧ s.closeDrive = false ∧ s.chargerDrive = false ∧ s.testLoadDrive = false ∧ s.converterDrive = false ∧
  s.transmitEnable = false

/-- With no partial frame held: the frame of each of the 22 requests, laid out with its kind, tag, body and check, has exactly
the effect of the request as a command, in every state. Of a part that serves requests, a frame of a kind outside the catalogue
is answered UNKNOWN_KIND and one whose body has another length than its kind's BAD_FIELD, with the frame's tag and its kind plus
0x80, modulo 256 from 0x80 on (log 57). With a request current and 4 frames waiting, a frame is answered BUSY while a place is
free besides the reply's (log 18). Bytes without a start byte, and a frame with a wrong check and no start byte inside, change
nothing. FRAME_BYTE_TIMEOUT discards the partial frame, every byte held (log 48), and nothing else. In a started part
KEY_SWITCH_DEBOUNCED with the switch read in one position for 20 ms takes it; a reading that differs from the last and has stood
for less leaves the position as it was; a running reading is added up (log 8). HOST_FRAME_TRANSMITTED takes the oldest frame off
the transmit list and shows its bytes on the line; with an empty list it does nothing. (R182, R183, R184, R185, R187.) -/
def Obligations.HostLineEvents : Prop :=
  ∀ (s : State) (reading : Key) (ms : Nat),
    (s.hlc.rx = [] →
      (∀ c kind tag body, spelled c = some (kind, tag, body) → exec (.hostFrameReceived (onLine kind tag body)) s = exec c s) ∧
      (∀ (kind tag : Byte) (body : Bytes), body.length ≤ 96 →
        (s.serving → (∀ n, (kind, n) ∉ catalogue) →
          exec (.hostFrameReceived (onLine kind tag body)) s = .next (s.replied kind tag .unknownKind [])) ∧
        (s.serving → ∀ n, (kind, n) ∈ catalogue → body.length ≠ n →
          exec (.hostFrameReceived (onLine kind tag body)) s = .next (s.replied kind tag .badField [])) ∧
        (s.stage = .running → s.restarting = none → s.hlc.current.isSome = true → s.hlc.queue.length = 4 → s.hlc.tx.length < 39 →
          exec (.hostFrameReceived (onLine kind tag body)) s = .next (s.replied kind tag .busy [])) ∧
        (∀ c1 c2 : Byte, [c1, c2] ≠ crcBytes (be1 body.length ++ [kind, tag] ++ body) →
          0xD2#8 ∉ be1 body.length ++ [kind, tag] ++ body ++ [c1, c2] →
          exec (.hostFrameReceived ([0xD2#8] ++ be1 body.length ++ [kind, tag] ++ body ++ [c1, c2])) s = .next s)) ∧
      (∀ bytes, 0xD2#8 ∉ bytes → exec (.hostFrameReceived bytes) s = .next s)) ∧
    exec .frameByteTimeout s = .next { s with hlc := { s.hlc with rx := [] } } ∧
    (s.stage.started = true → ∃ t, exec (.keySwitchDebounced reading ms) s = .next t ∧
      (20 ≤ ms → t.hlc.key = reading) ∧
      (ms < 20 → s.hlc.keyRaw ≠ reading → t.hlc.key = s.hlc.key ∧ t.hlc.keyRaw = reading ∧ t.hlc.keyRun = ms) ∧
      (s.hlc.keyRaw = reading → s.hlc.keyRun + ms < 20 → t.hlc.key = s.hlc.key ∧ t.hlc.keyRun = s.hlc.keyRun + ms) ∧
      (s.hlc.keyRaw = reading → 20 ≤ s.hlc.keyRun + ms → t.hlc.key = reading) ∧
      t = { s with hlc := { s.hlc with key := t.hlc.key, keyRaw := t.hlc.keyRaw, keyRun := t.hlc.keyRun } }) ∧
    (∀ f rest, s.hlc.tx = f :: rest → f.body.length ≤ 96 → exec .hostFrameTransmitted s =
      .next { s with hlc := { s.hlc with tx := rest, htx := onLine f.kind f.tag f.body } }) ∧
    (s.hlc.tx = [] → exec .hostFrameTransmitted s = .next s)

/-- In a part that serves requests: IDENTIFY answers vendor 0x4A4B, part 460, a revision from 1 on and a scaling code, the same
in every state; READ_MEASURE answers from this moment with magnitudes, flags, line states, window length, capacitor, converter,
battery, setpoints, charge count and SoC in turn; READ_STATE of sections 0..7 answers in one frame, byte for byte, the lists of
TAG (for any list of its tags by ascending number), BCU and RCC as their total, the start index and as many whole entries from
it on as fit, and of any other section BAD_FIELD; TAG_READ outside its ranges is refused BAD_FIELD, answers found with the slot
and the whole tag, or not found; RECORD_READ of 0 is refused BAD_FIELD, at or above the next number NOT_FOUND, below the oldest
retained GONE with it, and otherwise carries the whole record. The values of revision and code are open (log 17). The place and
bits of the presence masks, PEU's order element by element, the three zero bytes of a tag not found, the 2 bytes of the two
countdowns, and the encodings of the trip's kinds, the pending reply, the staging target and of loaded and unloaded are the
model's choices (log 23), and so is the order of RECORD_READ's answers once numbers have passed the top (log 67). (R16, R40,
R67, R87, R104, R105, R133, R139, R148, R166, R181, 10_host_link_messages.md R186, R189, R191.) -/
def Obligations.ReadsChangeNothing : Prop :=
  (∃ rev hi lo : Byte, rev ≠ 0#8 ∧ ∀ (tag : Byte) (s : State), s.serving → exec (.identify tag) s =
    .next (s.replied 0x01#8 tag .ok [0x4A#8, 0x4B#8, 0x01#8, 0xCC#8, rev, hi, lo])) ∧
  ∀ (tag sect start selector : Byte) (value : BitVec 16) (number : BitVec 32) (s : State), s.serving →
    (let m := s.lsu.meas
     let bits := fun (l : List Bool) => l.flatMap flag
     exec (.readMeasure tag) s = .next (s.replied 0x02#8 tag .ok
      (be2 m.a ++ be2 m.b ++ be2 m.c ++ be2 m.n ++ be2 m.vs ++ be2 m.vl ++
       bits [m.satA, m.satB, m.satC, m.satN, m.satVs, m.satVl, m.valid] ++
       be1 s.lsu.source.line.code ++ be1 s.lsu.load.line.code ++ be1 s.lsu.winLen ++
       be2 s.act.cap ++ bits [decide (150 ≤ s.act.cap), decide (s.act.cap < 250)] ++ be1 s.act.converter.code ++
       be2 s.bcu.meas.mv ++ sbe2 s.bcu.meas.ma ++ sbe2 s.bcu.meas.temp ++ bits [s.bcu.meas.supply] ++
       be2 s.bcu.absorbSp.toNat ++ be2 s.bcu.floatSp.toNat ++ be4 s.bcu.charge ++ be4 (s.sst.globalPage.field 6 * 3600000) ++
       be1 s.bcu.soc))) ∧
    (let state := fun (number : Byte) (body : Bytes) =>
       sect = number → exec (.readState tag sect start) s = .next (s.replied 0x03#8 tag .ok body)
     let held := if s.act.state = .tripHeld then s.act.heldMs else none
     let origin := if s.act.state = .closePulse then s.act.origin else none
     let oldest := s.orl.ring.head?.map (·.number)
     let newest := s.orl.ring.getLast?.map (·.number)
     let staged := s.sst.staging.buf
     let targetOf := fun (t : Target) => match t with | .group n => be1 0 ++ be1 n | .global => be1 1 ++ be1 0 | .curve n => be1 2 ++ be1 n
     let o1 := fun (x : Option Nat) => be1 (x.getD 0)
     let o2 := fun (x : Option Nat) => be2 (x.getD 0)
     let o4 := fun (x : Option Nat) => be4 (x.getD 0)
     let q := s.seq
     let kinds := (q.trip.getD []).map fun r => match r with | .element _ => 0 | .command _ => 1 | .exhaustion => 2
     let load := if s.bcu.test = .idle then none else some s.bcu.loadMs
     let suspended := if s.bcu.test = .suspended then some s.bcu.suspMs else none
     let paged := fun (number : Byte) (head : Bytes) (entries : List Bytes) => ∃ k,
       fillsPage (93 - head.length) (entries.drop start.toNat) k ∧
       state number (head ++ be1 entries.length ++ [start] ++ ((entries.drop start.toNat).take k).flatten)
     state 0 (maskOf [q.cause.isSome, q.pendingGroup.isSome, q.deadNo.isSome, q.deadLeft.isSome, q.holdReason.isSome,
         q.holdLeft.isSome, q.reclaimLeft.isSome, q.reclaimLeft.isSome, q.trip.isSome] ++
       be1 q.state.code ++ be1 q.shots ++ be1 (tripsToLockout s) ++ flag q.manual ++ o1 (q.cause.map Cause.code) ++ o1 q.pendingGroup ++
       o1 q.deadNo ++ o4 q.deadLeft ++ o1 (q.holdReason.map HoldReason.code) ++ o4 q.holdLeft ++ o4 q.reclaimLeft ++
       flag (q.reclaimLeft.isSome && s.peu.timing) ++ be1 (min 255 kinds.length) ++ (kinds.take 71).flatMap be1) ∧
     (∀ l : List Tag, l.Perm s.tag.table.tags → l.Pairwise (fun x y => x.number < y.number) →
       paged 3 (be1 s.tag.table.mode.code ++ be1 s.tag.table.tags.length ++ be2 s.tag.table.next)
         (l.map fun x => maskOf [x.left.isSome] ++ be1 (s.tag.table.slots.findIdx fun y => y.any (·.number == x.number)) ++
           be2 x.number ++ be2 x.crew ++ be1 x.mode.code ++ be1 x.auth.rank ++ o2 x.left)) ∧
     paged 4 (maskOf [s.bcu.shutdown.isSome, load.isSome, suspended.isSome, s.bcu.origin.isSome, s.bcu.countdown.isSome] ++
         be1 s.bcu.charger.code ++ be1 s.bcu.level.rank ++ o1 (s.bcu.shutdown.map Shutdown.code) ++ be1 s.bcu.test.code ++ o2 load ++
         o4 suspended ++ o1 (s.bcu.origin.map TestOrigin.code) ++ o2 s.bcu.countdown)
       (s.bcu.history.map fun x => maskOf [x.r.isSome, x.mv.isSome] ++ be1 x.outcome.code ++ o2 x.r ++ o2 x.mv ++ be2 x.loadMs ++
         be4 x.time ++ flag x.valid) ∧
     paged 6 (maskOf [s.rcc.lastFrame.isSome, s.rcc.lastId.isSome, s.rcc.pending.isSome, s.rcc.statusLeft.isSome] ++
         be1 s.rcc.chan.code ++ be1 (s.sst.globalPage.field 4) ++ o2 s.rcc.lastFrame ++ be1 s.rcc.missCount ++ be1 s.rcc.nextSeq ++
         be2 s.rcc.lost ++ o1 s.rcc.lastId ++ o1 (s.rcc.pending.map (·.id)) ++ o1 (s.rcc.pending.map (·.res.code)) ++ o2 s.rcc.statusLeft)
       (s.rcc.outbox.map fun e => maskOf [e.record.isSome, e.seqNo.isSome] ++ be1 e.cls.code ++ be1 e.cls.priority ++ o4 e.record ++
         be1 (if e.await then 1 else 0) ++ be1 e.tries ++ o1 e.seqNo) ∧
     state 1 (be1 s.peu.nextTrip ++ (elementOrder.flatMap fun e => flag ((s.peu.elems.get e).st != .disabled) ++
       be1 (s.peu.elems.get e).st.code ++ be4 (s.peu.elems.get e).acc) ++ [s.peu.detector, s.peu.timing, s.peu.allQuiet].flatMap flag) ∧
     state 2 (maskOf [s.act.pulseMs.isSome, held.isSome, origin.isSome, s.act.openC.stable.isSome, s.act.closedC.stable.isSome] ++
       be1 s.act.state.code ++ be1 (s.act.pulseMs.getD 0) ++ be4 (held.getD 0) ++ be1 ((origin.map Origin.code).getD 0) ++
       be1 s.act.position.code ++ be1 ((s.act.openC.stable.map ContactState.code).getD 0) ++
       be1 ((s.act.closedC.stable.map ContactState.code).getD 0) ++ flag s.act.mech) ∧
     state 5 (maskOf [oldest.isSome, newest.isSome] ++ be4 (oldest.getD 0) ++ be4 (newest.getD 0) ++ be4 s.orl.next ++
       be4 s.orl.wearA.count ++ be4 s.orl.wearB.count ++ be4 s.orl.wearC.count ++
       be1 s.orl.wearA.percent ++ be1 s.orl.wearB.percent ++ be1 s.orl.wearC.percent ++
       flag s.orl.limit ++ be4 s.orl.opCount ++ be4 s.orl.time ++ flag s.orl.valid) ∧
     state 7 (maskOf [staged.isSome, staged.isSome] ++ be1 s.sst.active ++ flag s.sst.held.isSome ++ be1 s.sst.staging.code ++
       ((staged.map fun b => targetOf b.target).getD [0#8, 0#8]) ++ be1 ((staged.map (·.pointer)).getD 0) ++
       ((List.range 8).flatMap fun i => flag ((s.sst.curves.getD i unloadedCurve).field 0 != 0)) ++ be1 s.sst.queue.length)) ∧
    (sect.toNat ≤ 7 → ∃ body, exec (.readState tag sect start) s = .next (s.replied 0x03#8 tag .ok body) ∧ body.length ≤ 95) ∧
    (7 < sect.toNat → exec (.readState tag sect start) s = .next (s.replied 0x03#8 tag .badField [])) ∧
    (let bad := 1 < selector.toNat ∨ (selector = 0 ∧ 7 < value.toNat) ∨ (selector = 1 ∧ value = 0)
     (bad → exec (.tagRead tag selector value) s = .next (s.replied 0x23#8 tag .badField [])) ∧
     (¬ bad → s.tag.table.sound →
       (∀ x i, s.tag.table.slots.getD i none = some x → (if selector = 0 then i = value.toNat else x.number = value.toNat) →
         exec (.tagRead tag selector value) s = .next (s.replied 0x23#8 tag .ok
           (maskOf [x.placedAt.isSome, x.left.isSome] ++ [1#8] ++ be1 i ++ encodeTag x))) ∧
       ((if selector = 0 then s.tag.table.slots.getD value.toNat none = none else s.tag.table.holds value.toNat = false) →
         exec (.tagRead tag selector value) s = .next (s.replied 0x23#8 tag .ok [0#8, 0#8, 0#8])))) ∧
    (number = 0 → exec (.recordRead tag number) s = .next (s.replied 0x30#8 tag .badField [])) ∧
    (number ≠ 0 → s.orl.next ≤ number.toNat → exec (.recordRead tag number) s = .next (s.replied 0x30#8 tag .notFound [])) ∧
    (number ≠ 0 → number.toNat < s.orl.next → s.orl.ring.Pairwise (fun x y => x.number < y.number) →
      (∀ r ∈ s.orl.ring, r.number = number.toNat →
        exec (.recordRead tag number) s = .next (s.replied 0x30#8 tag .ok (encodeRecord r))) ∧
      (∀ r ∈ s.orl.ring.head?, number.toNat < r.number →
        exec (.recordRead tag number) s = .next (s.replied 0x30#8 tag .gone (be4 r.number))))

/-- For every command but HOST_FRAME_RECEIVED, in every state with no host frame waiting, a next state has: the LSU as it was
unless the command is a magnitude update, COMMIT_COMPLETE or a start or stop; the tags unless it counts time, is a tag request
or a radio packet; the debounced contacts unless CONTACT_DEBOUNCED; the position unless that or START_READING_TIMEOUT; the
capacitor unless its measurement or START_DELAY_END; the key unless KEY_SWITCH_DEBOUNCED; the time unless it counts time, sets
it or is a radio packet; the wear counts unless a contact or WEAR_RESET; the retained store unless COMMIT_COMPLETE,
RETAINED_WRITE_COMPLETE, COLD_START or HOLD_UP_END; global page and curves unless COMMIT_COMPLETE; the buffer unless a staging
request, a write's end or SUPPLY_LOSS; the battery measurement unless a measurement; the packet in transmission unless
OWN_SLOT_START or RADIO_TRANSMIT_END; the channel unless a radio packet, BEACON_MISS_CHECK, OWN_SLOT_START, which brings the
ends of slot 0 it passes (log 26), a battery measurement or COMMIT_COMPLETE; the stage unless a contact or
START_READING_TIMEOUT. Starts and stops may change each but the store and the capacitor. (95_what_each_step_holds.md,
00_scope.md section 2.1.) -/
def Obligations.BlocksAnswerOnlyToTheirCommands : Prop :=
  ∀ (c : Instr) (s t : State), s.hlc.queue = [] → (∀ bytes, c ≠ .hostFrameReceived bytes) → exec c s = .next t →
    let contact := ∃ k x ms fin, c = .contactDebounced k x ms fin
    let packet := ∃ bytes, c = .radioPacketReceived bytes
    let anew := startsOrStops c = true
    (t.lsu = s.lsu ∨ updatesLine c = true ∨ c = .commitComplete ∨ anew) ∧
    (t.tag = s.tag ∨ countsTime c = true ∨ changesTags c = true ∨ anew) ∧
    (t.act.openC = s.act.openC ∧ t.act.closedC = s.act.closedC ∨ contact ∨ anew) ∧
    (t.act.position = s.act.position ∨ contact ∨ c = .startReadingTimeout ∨ anew) ∧
    (t.act.cap = s.act.cap ∨ (∃ v, c = .capacitorMeasurement v) ∨ ∃ inp, c = .startDelayEnd inp) ∧
    (t.hlc.key = s.hlc.key ∨ (∃ x ms, c = .keySwitchDebounced x ms) ∨ anew) ∧
    (t.orl.time = s.orl.time ∧ t.orl.valid = s.orl.valid ∨ countsTime c = true ∨ (∃ tag n, c = .timeSet tag n) ∨ packet ∨ anew) ∧
    (t.orl.counts = s.orl.counts ∨ contact ∨ (∃ tag p, c = .wearReset tag p) ∨ anew) ∧
    (t.sst.store = s.sst.store ∨ c = .commitComplete ∨ c = .retainedWriteComplete ∨ (∃ b, c = .coldStart b) ∨ c = .holdUpEnd) ∧
    (t.sst.globalPage = s.sst.globalPage ∧ t.sst.curves = s.sst.curves ∨ c = .commitComplete ∨ anew) ∧
    (t.sst.staging = s.sst.staging ∨ stages c = true ∨ anew) ∧
    (t.bcu.meas = s.bcu.meas ∨ measuresBattery c = true ∨ anew) ∧
    (t.rcc.tx = s.rcc.tx ∨ (∃ x, c = .ownSlotStart x) ∨ c = .radioTransmitEnd ∨ anew) ∧
    (t.rcc.chan = s.rcc.chan ∨ packet ∨ c = .beaconMissCheck ∨ (∃ x, c = .ownSlotStart x) ∨ measuresBattery c = true ∨ c = .commitComplete ∨ anew) ∧
    (t.stage = s.stage ∨ contact ∨ c = .startReadingTimeout ∨ anew)
end

