-- ==== Sys2Proof/Laws/State.lean ====
section
/-! SUPPORT. How State's named constructions read, field by field. Record updates written in place need no lemma: simp reads a field
of `{ s with … }` by itself. -/

namespace Sys2Proof.Machine

@[simp] theorem State.blank_reads (stage : Stage) (store : Store) (connected : Bool) (cap pulses : Nat) (pending : List Instr) :
    (State.blank stage store connected cap pulses pending).stage = stage ∧ (State.blank stage store connected cap pulses pending).restarting = none ∧
    (State.blank stage store connected cap pulses pending).lsu = .idle ∧ (State.blank stage store connected cap pulses pending).peu = .fresh ∧
    (State.blank stage store connected cap pulses pending).seq = .undecided ∧ (State.blank stage store connected cap pulses pending).act = .idle cap pulses ∧
    (State.blank stage store connected cap pulses pending).tag = .idle ∧ (State.blank stage store connected cap pulses pending).bcu = .idle connected ∧
    (State.blank stage store connected cap pulses pending).orl = .idle ∧ (State.blank stage store connected cap pulses pending).rcc = .idle ∧
    (State.blank stage store connected cap pulses pending).sst = .idle store ∧ (State.blank stage store connected cap pulses pending).hlc = .idle ∧
    (State.blank stage store connected cap pulses pending).pending = pending := by simp [State.blank]

@[simp] theorem Sst.idle_reads (store : Store) :
    (Sst.idle store).store = store ∧ (Sst.idle store).queue = [] ∧ (Sst.idle store).inFlight = none ∧
    (Sst.idle store).staging = .empty ∧ (Sst.idle store).held = none ∧ (Sst.idle store).lost = false ∧
    (Sst.idle store).globalPage = store.globalPage ∧ (Sst.idle store).active = store.active := by simp [Sst.idle]

end Sys2Proof.Machine
end

