-- ==== Sys2Proof/Laws/Ops.lean ====
section
/-! SUPPORT. What the shared operations of Machine/Ops.lean leave alone: one lemma each, used by simp as one rewrite per part. -/

namespace Sys2Proof.Machine

@[simp] theorem queueWrite_keeps (i : RetItem) (s : State) :
    (queueWrite i s).stage = s.stage ∧ (queueWrite i s).restarting = s.restarting ∧ (queueWrite i s).lsu = s.lsu ∧
    (queueWrite i s).peu = s.peu ∧ (queueWrite i s).seq = s.seq ∧ (queueWrite i s).act = s.act ∧
    (queueWrite i s).tag = s.tag ∧ (queueWrite i s).bcu = s.bcu ∧ (queueWrite i s).orl = s.orl ∧
    (queueWrite i s).rcc = s.rcc ∧ (queueWrite i s).hlc = s.hlc ∧ (queueWrite i s).pending = s.pending := by
  simp [queueWrite]

@[simp] theorem placeFrame_keeps (f : Frame) (s : State) :
    (placeFrame f s).stage = s.stage ∧ (placeFrame f s).restarting = s.restarting ∧ (placeFrame f s).lsu = s.lsu ∧
    (placeFrame f s).peu = s.peu ∧ (placeFrame f s).seq = s.seq ∧ (placeFrame f s).act = s.act ∧
    (placeFrame f s).tag = s.tag ∧ (placeFrame f s).bcu = s.bcu ∧ (placeFrame f s).orl = s.orl ∧
    (placeFrame f s).rcc = s.rcc ∧ (placeFrame f s).sst = s.sst ∧ (placeFrame f s).pending = s.pending := by
  simp [placeFrame]

@[simp] theorem placeNotice_keeps (f : Frame) (s : State) :
    (placeNotice f s).stage = s.stage ∧ (placeNotice f s).restarting = s.restarting ∧ (placeNotice f s).lsu = s.lsu ∧
    (placeNotice f s).peu = s.peu ∧ (placeNotice f s).seq = s.seq ∧ (placeNotice f s).act = s.act ∧
    (placeNotice f s).tag = s.tag ∧ (placeNotice f s).bcu = s.bcu ∧ (placeNotice f s).orl = s.orl ∧
    (placeNotice f s).rcc = s.rcc ∧ (placeNotice f s).sst = s.sst ∧ (placeNotice f s).pending = s.pending := by
  simp [placeNotice]

@[simp] theorem hostReply_keeps (res : Res) (body : Bytes) (s : State) :
    (hostReply res body s).stage = s.stage ∧ (hostReply res body s).restarting = s.restarting ∧ (hostReply res body s).lsu = s.lsu ∧
    (hostReply res body s).peu = s.peu ∧ (hostReply res body s).seq = s.seq ∧ (hostReply res body s).act = s.act ∧
    (hostReply res body s).tag = s.tag ∧ (hostReply res body s).bcu = s.bcu ∧ (hostReply res body s).orl = s.orl ∧
    (hostReply res body s).rcc = s.rcc ∧ (hostReply res body s).sst = s.sst ∧ (hostReply res body s).pending = s.pending := by
  simp [hostReply]

@[simp] theorem radioResult_keeps (id : Nat) (res : Res) (detail : Nat) (s : State) :
    (radioResult id res detail s).stage = s.stage ∧ (radioResult id res detail s).restarting = s.restarting ∧ (radioResult id res detail s).lsu = s.lsu ∧
    (radioResult id res detail s).peu = s.peu ∧ (radioResult id res detail s).seq = s.seq ∧ (radioResult id res detail s).act = s.act ∧
    (radioResult id res detail s).tag = s.tag ∧ (radioResult id res detail s).bcu = s.bcu ∧ (radioResult id res detail s).orl = s.orl ∧
    (radioResult id res detail s).sst = s.sst ∧ (radioResult id res detail s).hlc = s.hlc ∧ (radioResult id res detail s).pending = s.pending := by
  simp [radioResult]

@[simp] theorem answer_keeps (src : Src) (res : Res) (detail : Nat) (body : Bytes) (s : State) :
    (answer src res detail body s).stage = s.stage ∧ (answer src res detail body s).restarting = s.restarting ∧ (answer src res detail body s).lsu = s.lsu ∧
    (answer src res detail body s).peu = s.peu ∧ (answer src res detail body s).seq = s.seq ∧ (answer src res detail body s).act = s.act ∧
    (answer src res detail body s).tag = s.tag ∧ (answer src res detail body s).bcu = s.bcu ∧ (answer src res detail body s).orl = s.orl ∧
    (answer src res detail body s).sst = s.sst ∧ (answer src res detail body s).pending = s.pending := by
  unfold answer
  split <;> simp

@[simp] theorem report_keeps (cls : Class) (record : Option Nat) (s : State) :
    (report cls record s).stage = s.stage ∧ (report cls record s).restarting = s.restarting ∧ (report cls record s).lsu = s.lsu ∧
    (report cls record s).peu = s.peu ∧ (report cls record s).seq = s.seq ∧ (report cls record s).act = s.act ∧
    (report cls record s).tag = s.tag ∧ (report cls record s).bcu = s.bcu ∧ (report cls record s).orl = s.orl ∧
    (report cls record s).sst = s.sst ∧ (report cls record s).hlc = s.hlc ∧ (report cls record s).pending = s.pending := by
  simp [report]

@[simp] theorem addToRing_keeps (r : Record) (s : State) :
    (addToRing r s).stage = s.stage ∧ (addToRing r s).restarting = s.restarting ∧ (addToRing r s).lsu = s.lsu ∧
    (addToRing r s).peu = s.peu ∧ (addToRing r s).seq = s.seq ∧ (addToRing r s).act = s.act ∧
    (addToRing r s).tag = s.tag ∧ (addToRing r s).bcu = s.bcu ∧ (addToRing r s).rcc = s.rcc ∧
    (addToRing r s).sst = s.sst ∧ (addToRing r s).hlc = s.hlc ∧ (addToRing r s).pending = s.pending := by
  simp [addToRing]

@[simp] theorem reportRecord_keeps (r : Record) (s : State) :
    (reportRecord r s).stage = s.stage ∧ (reportRecord r s).restarting = s.restarting ∧ (reportRecord r s).lsu = s.lsu ∧
    (reportRecord r s).peu = s.peu ∧ (reportRecord r s).seq = s.seq ∧ (reportRecord r s).act = s.act ∧
    (reportRecord r s).tag = s.tag ∧ (reportRecord r s).bcu = s.bcu ∧ (reportRecord r s).orl = s.orl ∧
    (reportRecord r s).sst = s.sst ∧ (reportRecord r s).hlc = s.hlc ∧ (reportRecord r s).pending = s.pending := by
  unfold reportRecord
  split <;> simp

@[simp] theorem enterRecord_keeps (r : Record) (s : State) :
    (enterRecord r s).stage = s.stage ∧ (enterRecord r s).restarting = s.restarting ∧ (enterRecord r s).lsu = s.lsu ∧
    (enterRecord r s).peu = s.peu ∧ (enterRecord r s).seq = s.seq ∧ (enterRecord r s).act = s.act ∧
    (enterRecord r s).tag = s.tag ∧ (enterRecord r s).bcu = s.bcu ∧ (enterRecord r s).pending = s.pending := by
  simp [enterRecord]

@[simp] theorem completeNow_keeps (body : RecBody) (s : State) :
    (completeNow body s).stage = s.stage ∧ (completeNow body s).restarting = s.restarting ∧ (completeNow body s).lsu = s.lsu ∧
    (completeNow body s).peu = s.peu ∧ (completeNow body s).seq = s.seq ∧ (completeNow body s).act = s.act ∧
    (completeNow body s).tag = s.tag ∧ (completeNow body s).bcu = s.bcu ∧ (completeNow body s).pending = s.pending := by
  simp [completeNow]

@[simp] theorem hold_keeps (x : Held) (s : State) :
    (hold x s).stage = s.stage ∧ (hold x s).restarting = s.restarting ∧ (hold x s).lsu = s.lsu ∧ (hold x s).peu = s.peu ∧
    (hold x s).seq = s.seq ∧ (hold x s).act = s.act ∧ (hold x s).tag = s.tag ∧ (hold x s).bcu = s.bcu ∧
    (hold x s).rcc = s.rcc ∧ (hold x s).sst = s.sst ∧ (hold x s).hlc = s.hlc ∧ (hold x s).pending = s.pending := by
  simp [hold]

@[simp] theorem hold_orl (x : Held) (s : State) :
    (hold x s).orl.ring = s.orl.ring ∧ (hold x s).orl.next = s.orl.next ∧ (hold x s).orl.wearA = s.orl.wearA ∧
    (hold x s).orl.wearB = s.orl.wearB ∧ (hold x s).orl.wearC = s.orl.wearC ∧ (hold x s).orl.limit = s.orl.limit ∧
    (hold x s).orl.opCount = s.orl.opCount ∧ (hold x s).orl.time = s.orl.time ∧ (hold x s).orl.valid = s.orl.valid ∧
    (hold x s).orl.sec = s.orl.sec ∧ (hold x s).orl.capture = s.orl.capture ∧ (hold x s).orl.part = s.orl.part ∧
    (hold x s).orl.waiting = s.orl.waiting ++ [x] := by
  simp [hold]

@[simp] theorem complete_keeps (body : RecBody) (s : State) :
    (complete body s).stage = s.stage ∧ (complete body s).restarting = s.restarting ∧ (complete body s).lsu = s.lsu ∧
    (complete body s).peu = s.peu ∧ (complete body s).seq = s.seq ∧ (complete body s).act = s.act ∧
    (complete body s).tag = s.tag ∧ (complete body s).bcu = s.bcu ∧ (complete body s).pending = s.pending := by
  unfold complete
  split <;> simp

@[simp] theorem completeAll_keeps (bodies : List RecBody) (s : State) :
    (completeAll bodies s).stage = s.stage ∧ (completeAll bodies s).restarting = s.restarting ∧ (completeAll bodies s).lsu = s.lsu ∧
    (completeAll bodies s).peu = s.peu ∧ (completeAll bodies s).seq = s.seq ∧ (completeAll bodies s).act = s.act ∧
    (completeAll bodies s).tag = s.tag ∧ (completeAll bodies s).bcu = s.bcu ∧ (completeAll bodies s).pending = s.pending := by
  unfold completeAll
  induction bodies generalizing s with
  | nil => simp
  | cons b rest ih => simpa using ih (complete b s)

@[simp] theorem clearElements_keeps (s : State) :
    (clearElements s).stage = s.stage ∧ (clearElements s).restarting = s.restarting ∧ (clearElements s).lsu = s.lsu ∧
    (clearElements s).seq = s.seq ∧ (clearElements s).act = s.act ∧ (clearElements s).tag = s.tag ∧
    (clearElements s).bcu = s.bcu ∧ (clearElements s).orl = s.orl ∧ (clearElements s).rcc = s.rcc ∧
    (clearElements s).sst = s.sst ∧ (clearElements s).hlc = s.hlc ∧ (clearElements s).pending = s.pending := by
  simp [clearElements]

@[simp] theorem applyToElements_keeps (s : State) :
    (applyToElements s).stage = s.stage ∧ (applyToElements s).restarting = s.restarting ∧ (applyToElements s).lsu = s.lsu ∧
    (applyToElements s).seq = s.seq ∧ (applyToElements s).act = s.act ∧ (applyToElements s).tag = s.tag ∧
    (applyToElements s).bcu = s.bcu ∧ (applyToElements s).orl = s.orl ∧ (applyToElements s).rcc = s.rcc ∧
    (applyToElements s).sst = s.sst ∧ (applyToElements s).hlc = s.hlc ∧ (applyToElements s).pending = s.pending := by
  simp [applyToElements]

@[simp] theorem resumeTest_keeps (s : State) :
    (resumeTest s).stage = s.stage ∧ (resumeTest s).restarting = s.restarting ∧ (resumeTest s).lsu = s.lsu ∧
    (resumeTest s).peu = s.peu ∧ (resumeTest s).seq = s.seq ∧ (resumeTest s).act = s.act ∧
    (resumeTest s).tag = s.tag ∧ (resumeTest s).orl = s.orl ∧ (resumeTest s).rcc = s.rcc ∧
    (resumeTest s).sst = s.sst ∧ (resumeTest s).hlc = s.hlc ∧ (resumeTest s).pending = s.pending := by
  simp [resumeTest]

@[simp] theorem endTest_keeps (outcome : TestOutcome) (r mv : Option Nat) (s : State) :
    (endTest outcome r mv s).stage = s.stage ∧ (endTest outcome r mv s).restarting = s.restarting ∧ (endTest outcome r mv s).lsu = s.lsu ∧
    (endTest outcome r mv s).peu = s.peu ∧ (endTest outcome r mv s).seq = s.seq ∧ (endTest outcome r mv s).act = s.act ∧
    (endTest outcome r mv s).tag = s.tag ∧ (endTest outcome r mv s).pending = s.pending := by
  simp [endTest]

@[simp] theorem seqTo_keeps (x : SeqState) (s : State) :
    (seqTo x s).stage = s.stage ∧ (seqTo x s).restarting = s.restarting ∧ (seqTo x s).lsu = s.lsu ∧
    (seqTo x s).peu = s.peu ∧ (seqTo x s).act = s.act ∧ (seqTo x s).tag = s.tag ∧
    (seqTo x s).orl = s.orl ∧ (seqTo x s).rcc = s.rcc ∧ (seqTo x s).sst = s.sst ∧
    (seqTo x s).hlc = s.hlc ∧ (seqTo x s).pending = s.pending := by
  unfold seqTo
  split <;> simp

@[simp] theorem stopTimers_keeps (s : State) :
    (stopTimers s).stage = s.stage ∧ (stopTimers s).restarting = s.restarting ∧ (stopTimers s).lsu = s.lsu ∧
    (stopTimers s).peu = s.peu ∧ (stopTimers s).act = s.act ∧ (stopTimers s).tag = s.tag ∧
    (stopTimers s).bcu = s.bcu ∧ (stopTimers s).orl = s.orl ∧ (stopTimers s).rcc = s.rcc ∧
    (stopTimers s).sst = s.sst ∧ (stopTimers s).hlc = s.hlc ∧ (stopTimers s).pending = s.pending := by
  simp [stopTimers]

@[simp] theorem takeHeld_keeps (s : State) :
    (takeHeld s).stage = s.stage ∧ (takeHeld s).restarting = s.restarting ∧ (takeHeld s).lsu = s.lsu ∧
    (takeHeld s).seq = s.seq ∧ (takeHeld s).act = s.act ∧ (takeHeld s).tag = s.tag ∧
    (takeHeld s).bcu = s.bcu ∧ (takeHeld s).orl = s.orl ∧ (takeHeld s).rcc = s.rcc ∧
    (takeHeld s).hlc = s.hlc ∧ (takeHeld s).pending = s.pending := by
  unfold takeHeld
  split <;> simp

@[simp] theorem applyGroup_keeps (g : Nat) (s : State) :
    (applyGroup g s).stage = s.stage ∧ (applyGroup g s).restarting = s.restarting ∧ (applyGroup g s).lsu = s.lsu ∧
    (applyGroup g s).act = s.act ∧ (applyGroup g s).tag = s.tag ∧ (applyGroup g s).bcu = s.bcu ∧
    (applyGroup g s).pending = s.pending := by
  simp [applyGroup]

@[simp] theorem applyPending_keeps (s : State) :
    (applyPending s).stage = s.stage ∧ (applyPending s).restarting = s.restarting ∧ (applyPending s).lsu = s.lsu ∧
    (applyPending s).act = s.act ∧ (applyPending s).tag = s.tag ∧ (applyPending s).bcu = s.bcu ∧
    (applyPending s).pending = s.pending := by
  unfold applyPending
  split <;> simp

@[simp] theorem enterLockout_keeps (c : Cause) (s : State) :
    (enterLockout c s).stage = s.stage ∧ (enterLockout c s).restarting = s.restarting ∧ (enterLockout c s).lsu = s.lsu ∧
    (enterLockout c s).act = s.act ∧ (enterLockout c s).tag = s.tag ∧ (enterLockout c s).pending = s.pending := by
  simp [enterLockout]

@[simp] theorem enterMechFail_keeps (s : State) :
    (enterMechFail s).stage = s.stage ∧ (enterMechFail s).restarting = s.restarting ∧ (enterMechFail s).lsu = s.lsu ∧
    (enterMechFail s).act = s.act ∧ (enterMechFail s).tag = s.tag ∧ (enterMechFail s).pending = s.pending := by
  unfold enterMechFail
  split <;> simp

@[simp] theorem enterReclaim_keeps (s : State) :
    (enterReclaim s).stage = s.stage ∧ (enterReclaim s).restarting = s.restarting ∧ (enterReclaim s).lsu = s.lsu ∧
    (enterReclaim s).peu = s.peu ∧ (enterReclaim s).act = s.act ∧ (enterReclaim s).tag = s.tag ∧
    (enterReclaim s).orl = s.orl ∧ (enterReclaim s).rcc = s.rcc ∧ (enterReclaim s).sst = s.sst ∧
    (enterReclaim s).hlc = s.hlc ∧ (enterReclaim s).pending = s.pending := by
  simp [enterReclaim]

@[simp] theorem enterReclaimByHand_keeps (s : State) :
    (enterReclaimByHand s).stage = s.stage ∧ (enterReclaimByHand s).restarting = s.restarting ∧ (enterReclaimByHand s).lsu = s.lsu ∧
    (enterReclaimByHand s).peu = s.peu ∧ (enterReclaimByHand s).act = s.act ∧ (enterReclaimByHand s).tag = s.tag ∧
    (enterReclaimByHand s).orl = s.orl ∧ (enterReclaimByHand s).rcc = s.rcc ∧ (enterReclaimByHand s).sst = s.sst ∧
    (enterReclaimByHand s).hlc = s.hlc ∧ (enterReclaimByHand s).pending = s.pending := by
  simp [enterReclaimByHand]

@[simp] theorem enterClosed_keeps (s : State) :
    (enterClosed s).stage = s.stage ∧ (enterClosed s).restarting = s.restarting ∧ (enterClosed s).lsu = s.lsu ∧
    (enterClosed s).act = s.act ∧ (enterClosed s).tag = s.tag ∧ (enterClosed s).pending = s.pending := by
  simp only [enterClosed]
  split <;> simp

@[simp] theorem answerHeldClose_keeps (res : Res) (s : State) :
    (answerHeldClose res s).stage = s.stage ∧ (answerHeldClose res s).restarting = s.restarting ∧ (answerHeldClose res s).lsu = s.lsu ∧
    (answerHeldClose res s).peu = s.peu ∧ (answerHeldClose res s).act = s.act ∧ (answerHeldClose res s).tag = s.tag ∧
    (answerHeldClose res s).bcu = s.bcu ∧ (answerHeldClose res s).orl = s.orl ∧ (answerHeldClose res s).sst = s.sst ∧
    (answerHeldClose res s).pending = s.pending := by
  unfold answerHeldClose
  split <;> simp

@[simp] theorem setMech_keeps (f : Bool) (s : State) :
    (setMech f s).stage = s.stage ∧ (setMech f s).restarting = s.restarting ∧ (setMech f s).lsu = s.lsu ∧
    (setMech f s).peu = s.peu ∧ (setMech f s).seq = s.seq ∧ (setMech f s).tag = s.tag ∧
    (setMech f s).bcu = s.bcu ∧ (setMech f s).orl = s.orl ∧ (setMech f s).rcc = s.rcc ∧
    (setMech f s).hlc = s.hlc ∧ (setMech f s).pending = s.pending := by
  unfold setMech
  split <;> simp

end Sys2Proof.Machine
end

