-- ==== Sys2Proof/Laws/Actuator.lean ====
section
/-! SUPPORT. What the operations of Machine/Actuator.lean leave alone. -/

namespace Sys2Proof.Machine

@[simp] theorem countOperation_keeps (s : State) :
    (countOperation s).stage = s.stage ∧ (countOperation s).restarting = s.restarting ∧ (countOperation s).lsu = s.lsu ∧
    (countOperation s).peu = s.peu ∧ (countOperation s).seq = s.seq ∧ (countOperation s).act = s.act ∧
    (countOperation s).tag = s.tag ∧ (countOperation s).bcu = s.bcu ∧ (countOperation s).rcc = s.rcc ∧
    (countOperation s).hlc = s.hlc ∧ (countOperation s).pending = s.pending := by
  unfold countOperation
  split <;> simp

@[simp] theorem takeInterruption_keeps (p : PulsePart) (s : State) :
    (takeInterruption p s).stage = s.stage ∧ (takeInterruption p s).restarting = s.restarting ∧ (takeInterruption p s).lsu = s.lsu ∧
    (takeInterruption p s).peu = s.peu ∧ (takeInterruption p s).seq = s.seq ∧ (takeInterruption p s).act = s.act ∧
    (takeInterruption p s).tag = s.tag ∧ (takeInterruption p s).bcu = s.bcu ∧ (takeInterruption p s).rcc = s.rcc ∧
    (takeInterruption p s).hlc = s.hlc ∧ (takeInterruption p s).pending = s.pending := by
  unfold takeInterruption
  (repeat' split) <;> simp

@[simp] theorem completeTrip_keeps (sp : SeqPart) (pp : PulsePart) (s : State) :
    (completeTrip sp pp s).stage = s.stage ∧ (completeTrip sp pp s).restarting = s.restarting ∧ (completeTrip sp pp s).lsu = s.lsu ∧
    (completeTrip sp pp s).peu = s.peu ∧ (completeTrip sp pp s).seq = s.seq ∧ (completeTrip sp pp s).act = s.act ∧
    (completeTrip sp pp s).tag = s.tag ∧ (completeTrip sp pp s).bcu = s.bcu ∧ (completeTrip sp pp s).pending = s.pending := by
  simp [completeTrip]

@[simp] theorem handPart_keeps (p : TripPart) (s : State) :
    (handPart p s).stage = s.stage ∧ (handPart p s).restarting = s.restarting ∧ (handPart p s).lsu = s.lsu ∧
    (handPart p s).peu = s.peu ∧ (handPart p s).seq = s.seq ∧ (handPart p s).act = s.act ∧
    (handPart p s).tag = s.tag ∧ (handPart p s).bcu = s.bcu ∧ (handPart p s).pending = s.pending := by
  unfold handPart
  split <;> simp

@[simp] theorem seqCloseCompletion_keeps (o : PulseOutcome) (s : State) :
    (seqCloseCompletion o s).stage = s.stage ∧ (seqCloseCompletion o s).restarting = s.restarting ∧ (seqCloseCompletion o s).lsu = s.lsu ∧
    (seqCloseCompletion o s).act = s.act ∧ (seqCloseCompletion o s).tag = s.tag ∧ (seqCloseCompletion o s).pending = s.pending := by
  unfold seqCloseCompletion
  (repeat' split) <;> simp

@[simp] theorem countTrip_keeps (o : PulseOutcome) (s : State) :
    (countTrip o s).stage = s.stage ∧ (countTrip o s).restarting = s.restarting ∧ (countTrip o s).lsu = s.lsu ∧
    (countTrip o s).act = s.act ∧ (countTrip o s).tag = s.tag ∧ (countTrip o s).bcu = s.bcu ∧
    (countTrip o s).orl = s.orl ∧ (countTrip o s).rcc = s.rcc ∧ (countTrip o s).sst = s.sst ∧
    (countTrip o s).hlc = s.hlc ∧ (countTrip o s).pending = s.pending := by
  unfold countTrip
  (repeat' split) <;> simp

@[simp] theorem enterDeadTime_keeps (s : State) :
    (enterDeadTime s).stage = s.stage ∧ (enterDeadTime s).restarting = s.restarting ∧ (enterDeadTime s).lsu = s.lsu ∧
    (enterDeadTime s).peu = s.peu ∧ (enterDeadTime s).act = s.act ∧ (enterDeadTime s).tag = s.tag ∧
    (enterDeadTime s).orl = s.orl ∧ (enterDeadTime s).rcc = s.rcc ∧ (enterDeadTime s).sst = s.sst ∧
    (enterDeadTime s).hlc = s.hlc ∧ (enterDeadTime s).pending = s.pending := by
  simp [enterDeadTime]

@[simp] theorem carryOut_keeps (d : AfterTrip) (s : State) :
    (carryOut d s).stage = s.stage ∧ (carryOut d s).restarting = s.restarting ∧ (carryOut d s).lsu = s.lsu ∧
    (carryOut d s).act = s.act ∧ (carryOut d s).tag = s.tag ∧ (carryOut d s).pending = s.pending := by
  unfold carryOut
  split <;> simp

@[simp] theorem exhaustionTripEnded_keeps (s : State) :
    (exhaustionTripEnded s).stage = s.stage ∧ (exhaustionTripEnded s).restarting = s.restarting ∧ (exhaustionTripEnded s).lsu = s.lsu ∧
    (exhaustionTripEnded s).peu = s.peu ∧ (exhaustionTripEnded s).seq = s.seq ∧ (exhaustionTripEnded s).act = s.act ∧
    (exhaustionTripEnded s).tag = s.tag ∧ (exhaustionTripEnded s).orl = s.orl ∧ (exhaustionTripEnded s).rcc = s.rcc ∧
    (exhaustionTripEnded s).sst = s.sst ∧ (exhaustionTripEnded s).hlc = s.hlc ∧ (exhaustionTripEnded s).pending = s.pending := by
  simp [exhaustionTripEnded]

@[simp] theorem handSeqPart_keeps (s : State) :
    (handSeqPart s).stage = s.stage ∧ (handSeqPart s).restarting = s.restarting ∧ (handSeqPart s).lsu = s.lsu ∧
    (handSeqPart s).peu = s.peu ∧ (handSeqPart s).seq = s.seq ∧ (handSeqPart s).act = s.act ∧
    (handSeqPart s).tag = s.tag ∧ (handSeqPart s).bcu = s.bcu ∧ (handSeqPart s).pending = s.pending := by
  unfold handSeqPart
  split <;> simp

@[simp] theorem tripCompletion_keeps (o : PulseOutcome) (pp : PulsePart) (partFirst : Bool) (s : State) :
    (tripCompletion o pp partFirst s).stage = s.stage ∧ (tripCompletion o pp partFirst s).restarting = s.restarting ∧ (tripCompletion o pp partFirst s).lsu = s.lsu ∧
    (tripCompletion o pp partFirst s).act = s.act ∧ (tripCompletion o pp partFirst s).tag = s.tag ∧ (tripCompletion o pp partFirst s).pending = s.pending := by
  simp only [tripCompletion]
  (repeat' split) <;> simp

@[simp] theorem beginClose_keeps (o : Origin) (s : State) :
    (beginClose o s).stage = s.stage ∧ (beginClose o s).restarting = s.restarting ∧ (beginClose o s).lsu = s.lsu ∧
    (beginClose o s).peu = s.peu ∧ (beginClose o s).seq = s.seq ∧ (beginClose o s).tag = s.tag ∧
    (beginClose o s).bcu = s.bcu ∧ (beginClose o s).orl = s.orl ∧ (beginClose o s).rcc = s.rcc ∧
    (beginClose o s).sst = s.sst ∧ (beginClose o s).hlc = s.hlc ∧ (beginClose o s).pending = s.pending := by
  simp [beginClose]

@[simp] theorem handCloseRecord_keeps (b : RecBody) (o : PulseOutcome) (s : State) :
    (handCloseRecord b o s).stage = s.stage ∧ (handCloseRecord b o s).restarting = s.restarting ∧ (handCloseRecord b o s).lsu = s.lsu ∧
    (handCloseRecord b o s).peu = s.peu ∧ (handCloseRecord b o s).seq = s.seq ∧ (handCloseRecord b o s).act = s.act ∧
    (handCloseRecord b o s).tag = s.tag ∧ (handCloseRecord b o s).bcu = s.bcu ∧ (handCloseRecord b o s).pending = s.pending := by
  unfold handCloseRecord
  split <;> simp

@[simp] theorem endClose_keeps (o : PulseOutcome) (pulse : Nat) (fin : PulseEnd) (s : State) :
    (endClose o pulse fin s).stage = s.stage ∧ (endClose o pulse fin s).restarting = s.restarting ∧ (endClose o pulse fin s).lsu = s.lsu ∧
    (endClose o pulse fin s).tag = s.tag ∧ (endClose o pulse fin s).pending = s.pending := by
  unfold endClose
  (repeat' split) <;> simp

@[simp] theorem cutClose_keeps (s : State) :
    (cutClose s).stage = s.stage ∧ (cutClose s).restarting = s.restarting ∧ (cutClose s).lsu = s.lsu ∧
    (cutClose s).tag = s.tag ∧ (cutClose s).pending = s.pending := by
  simp [cutClose]

@[simp] theorem beginTrip_keeps (s : State) :
    (beginTrip s).stage = s.stage ∧ (beginTrip s).restarting = s.restarting ∧ (beginTrip s).lsu = s.lsu ∧
    (beginTrip s).peu = s.peu ∧ (beginTrip s).seq = s.seq ∧ (beginTrip s).tag = s.tag ∧
    (beginTrip s).bcu = s.bcu ∧ (beginTrip s).orl = s.orl ∧ (beginTrip s).rcc = s.rcc ∧
    (beginTrip s).sst = s.sst ∧ (beginTrip s).hlc = s.hlc ∧ (beginTrip s).pending = s.pending := by
  simp [beginTrip]

@[simp] theorem holdTrip_keeps (s : State) :
    (holdTrip s).stage = s.stage ∧ (holdTrip s).restarting = s.restarting ∧ (holdTrip s).lsu = s.lsu ∧
    (holdTrip s).peu = s.peu ∧ (holdTrip s).seq = s.seq ∧ (holdTrip s).tag = s.tag ∧
    (holdTrip s).bcu = s.bcu ∧ (holdTrip s).orl = s.orl ∧ (holdTrip s).rcc = s.rcc ∧
    (holdTrip s).sst = s.sst ∧ (holdTrip s).hlc = s.hlc ∧ (holdTrip s).pending = s.pending := by
  simp [holdTrip]

@[simp] theorem startTrip_keeps (s : State) :
    (startTrip s).stage = s.stage ∧ (startTrip s).restarting = s.restarting ∧ (startTrip s).lsu = s.lsu ∧
    (startTrip s).peu = s.peu ∧ (startTrip s).seq = s.seq ∧ (startTrip s).tag = s.tag ∧
    (startTrip s).bcu = s.bcu ∧ (startTrip s).orl = s.orl ∧ (startTrip s).rcc = s.rcc ∧
    (startTrip s).sst = s.sst ∧ (startTrip s).hlc = s.hlc ∧ (startTrip s).pending = s.pending := by
  unfold startTrip
  split <;> simp

@[simp] theorem actTrip_keeps (s : State) :
    (actTrip s).stage = s.stage ∧ (actTrip s).restarting = s.restarting ∧ (actTrip s).lsu = s.lsu ∧
    (actTrip s).tag = s.tag ∧ (actTrip s).pending = s.pending := by
  unfold actTrip
  split <;> simp

@[simp] theorem endTrip_keeps (o : PulseOutcome) (pulse : Nat) (fin : PulseEnd) (s : State) :
    (endTrip o pulse fin s).stage = s.stage ∧ (endTrip o pulse fin s).restarting = s.restarting ∧ (endTrip o pulse fin s).lsu = s.lsu ∧
    (endTrip o pulse fin s).tag = s.tag ∧ (endTrip o pulse fin s).pending = s.pending := by
  unfold endTrip
  split <;> simp

@[simp] theorem endHeldTrip_keeps (fin : PulseEnd) (s : State) :
    (endHeldTrip fin s).stage = s.stage ∧ (endHeldTrip fin s).restarting = s.restarting ∧ (endHeldTrip fin s).lsu = s.lsu ∧
    (endHeldTrip fin s).tag = s.tag ∧ (endHeldTrip fin s).pending = s.pending := by
  simp [endHeldTrip]

end Sys2Proof.Machine
end

