-- ==== Sys2Proof/Laws/Sequencer.lean ====
section
/-! SUPPORT. What the operations of Machine/Sequencer.lean leave alone. -/

namespace Sys2Proof.Machine

@[simp] theorem joinTrip_keeps (r : TripReq) (s : State) :
    (joinTrip r s).stage = s.stage ∧ (joinTrip r s).restarting = s.restarting ∧ (joinTrip r s).lsu = s.lsu ∧
    (joinTrip r s).peu = s.peu ∧ (joinTrip r s).act = s.act ∧ (joinTrip r s).tag = s.tag ∧
    (joinTrip r s).bcu = s.bcu ∧ (joinTrip r s).orl = s.orl ∧ (joinTrip r s).rcc = s.rcc ∧
    (joinTrip r s).sst = s.sst ∧ (joinTrip r s).hlc = s.hlc ∧ (joinTrip r s).pending = s.pending := by
  simp [joinTrip]

@[simp] theorem tripNow_keeps (r : TripReq) (s : State) :
    (tripNow r s).stage = s.stage ∧ (tripNow r s).restarting = s.restarting ∧ (tripNow r s).lsu = s.lsu ∧
    (tripNow r s).tag = s.tag ∧ (tripNow r s).pending = s.pending := by
  simp [tripNow]

@[simp] theorem tripAttempt_keeps (r : TripReq) (s : State) :
    (tripAttempt r s).stage = s.stage ∧ (tripAttempt r s).restarting = s.restarting ∧ (tripAttempt r s).lsu = s.lsu ∧
    (tripAttempt r s).tag = s.tag ∧ (tripAttempt r s).pending = s.pending := by
  unfold tripAttempt
  split <;> simp

@[simp] theorem seqTrip_keeps (r : TripReq) (s : State) :
    (seqTrip r s).stage = s.stage ∧ (seqTrip r s).restarting = s.restarting ∧ (seqTrip r s).lsu = s.lsu ∧
    (seqTrip r s).tag = s.tag ∧ (seqTrip r s).pending = s.pending := by
  unfold seqTrip
  split <;> simp

@[simp] theorem seqOpen_keeps (a : Authority) (src : Src) (s : State) :
    (seqOpen a src s).stage = s.stage ∧ (seqOpen a src s).restarting = s.restarting ∧ (seqOpen a src s).lsu = s.lsu ∧
    (seqOpen a src s).tag = s.tag ∧ (seqOpen a src s).pending = s.pending := by
  unfold seqOpen
  (repeat' split) <;> simp

@[simp] theorem commandedClose_keeps (a : Authority) (src : Src) (s : State) :
    (commandedClose a src s).stage = s.stage ∧ (commandedClose a src s).restarting = s.restarting ∧ (commandedClose a src s).lsu = s.lsu ∧
    (commandedClose a src s).peu = s.peu ∧ (commandedClose a src s).tag = s.tag ∧ (commandedClose a src s).orl = s.orl ∧
    (commandedClose a src s).rcc = s.rcc ∧ (commandedClose a src s).hlc = s.hlc ∧ (commandedClose a src s).pending = s.pending := by
  simp [commandedClose]

@[simp] theorem seqClose_keeps (a : Authority) (src : Src) (s : State) :
    (seqClose a src s).stage = s.stage ∧ (seqClose a src s).restarting = s.restarting ∧ (seqClose a src s).lsu = s.lsu ∧
    (seqClose a src s).peu = s.peu ∧ (seqClose a src s).tag = s.tag ∧ (seqClose a src s).orl = s.orl ∧
    (seqClose a src s).pending = s.pending := by
  unfold seqClose
  (repeat' split) <;> simp

@[simp] theorem enterHold_keeps (r : HoldReason) (ms : Nat) (s : State) :
    (enterHold r ms s).stage = s.stage ∧ (enterHold r ms s).restarting = s.restarting ∧ (enterHold r ms s).lsu = s.lsu ∧
    (enterHold r ms s).peu = s.peu ∧ (enterHold r ms s).act = s.act ∧ (enterHold r ms s).tag = s.tag ∧
    (enterHold r ms s).orl = s.orl ∧ (enterHold r ms s).rcc = s.rcc ∧ (enterHold r ms s).sst = s.sst ∧
    (enterHold r ms s).hlc = s.hlc ∧ (enterHold r ms s).pending = s.pending := by
  simp [enterHold]

@[simp] theorem autoRefused_keeps (r : Res) (s : State) :
    (autoRefused r s).stage = s.stage ∧ (autoRefused r s).restarting = s.restarting ∧ (autoRefused r s).lsu = s.lsu ∧
    (autoRefused r s).act = s.act ∧ (autoRefused r s).tag = s.tag ∧ (autoRefused r s).pending = s.pending := by
  unfold autoRefused
  (repeat' split) <;> simp

@[simp] theorem autoClose_keeps (s : State) :
    (autoClose s).stage = s.stage ∧ (autoClose s).restarting = s.restarting ∧ (autoClose s).lsu = s.lsu ∧
    (autoClose s).tag = s.tag ∧ (autoClose s).pending = s.pending := by
  unfold autoClose
  split <;> simp

@[simp] theorem deadEnd_keeps (d : DeadEnd) (s : State) :
    (deadEnd d s).stage = s.stage ∧ (deadEnd d s).restarting = s.restarting ∧ (deadEnd d s).lsu = s.lsu ∧
    (deadEnd d s).tag = s.tag ∧ (deadEnd d s).pending = s.pending := by
  unfold deadEnd
  split <;> simp

@[simp] theorem deadTimeEnd_keeps (s : State) :
    (deadTimeEnd s).stage = s.stage ∧ (deadTimeEnd s).restarting = s.restarting ∧ (deadTimeEnd s).lsu = s.lsu ∧
    (deadTimeEnd s).tag = s.tag ∧ (deadTimeEnd s).pending = s.pending := by
  simp [deadTimeEnd]

@[simp] theorem seqSourceLive_keeps (s : State) :
    (seqSourceLive s).stage = s.stage ∧ (seqSourceLive s).restarting = s.restarting ∧ (seqSourceLive s).lsu = s.lsu ∧
    (seqSourceLive s).tag = s.tag ∧ (seqSourceLive s).pending = s.pending := by
  unfold seqSourceLive
  split <;> simp

@[simp] theorem seqEnergyReady_keeps (s : State) :
    (seqEnergyReady s).stage = s.stage ∧ (seqEnergyReady s).restarting = s.restarting ∧ (seqEnergyReady s).lsu = s.lsu ∧
    (seqEnergyReady s).tag = s.tag ∧ (seqEnergyReady s).pending = s.pending := by
  unfold seqEnergyReady
  split <;> simp

@[simp] theorem holdEnd_keeps (s : State) :
    (holdEnd s).stage = s.stage ∧ (holdEnd s).restarting = s.restarting ∧ (holdEnd s).lsu = s.lsu ∧
    (holdEnd s).act = s.act ∧ (holdEnd s).tag = s.tag ∧ (holdEnd s).pending = s.pending := by
  unfold holdEnd
  split <;> simp

@[simp] theorem seqDeparture_keeps (s : State) :
    (seqDeparture s).stage = s.stage ∧ (seqDeparture s).restarting = s.restarting ∧ (seqDeparture s).lsu = s.lsu ∧
    (seqDeparture s).peu = s.peu ∧ (seqDeparture s).act = s.act ∧ (seqDeparture s).tag = s.tag ∧
    (seqDeparture s).pending = s.pending := by
  unfold seqDeparture
  split <;> simp

@[simp] theorem seqTagAccepted_keeps (s : State) :
    (seqTagAccepted s).stage = s.stage ∧ (seqTagAccepted s).restarting = s.restarting ∧ (seqTagAccepted s).lsu = s.lsu ∧
    (seqTagAccepted s).act = s.act ∧ (seqTagAccepted s).tag = s.tag ∧ (seqTagAccepted s).pending = s.pending := by
  unfold seqTagAccepted
  split <;> simp

@[simp] theorem seqPosition_keeps (p : Position) (s : State) :
    (seqPosition p s).stage = s.stage ∧ (seqPosition p s).restarting = s.restarting ∧ (seqPosition p s).lsu = s.lsu ∧
    (seqPosition p s).act = s.act ∧ (seqPosition p s).tag = s.tag ∧ (seqPosition p s).pending = s.pending := by
  unfold seqPosition
  (repeat' split) <;> simp

@[simp] theorem seqSelect_keeps (g : Nat) (src : Src) (s : State) :
    (seqSelect g src s).stage = s.stage ∧ (seqSelect g src s).restarting = s.restarting ∧ (seqSelect g src s).lsu = s.lsu ∧
    (seqSelect g src s).act = s.act ∧ (seqSelect g src s).tag = s.tag ∧ (seqSelect g src s).bcu = s.bcu ∧
    (seqSelect g src s).pending = s.pending := by
  unfold seqSelect
  (repeat' split) <;> simp

@[simp] theorem takeEvent_keeps (e : SeqEvent) (s : State) :
    (takeEvent e s).stage = s.stage ∧ (takeEvent e s).restarting = s.restarting ∧ (takeEvent e s).lsu = s.lsu ∧
    (takeEvent e s).tag = s.tag ∧ (takeEvent e s).pending = s.pending := by
  unfold takeEvent
  split <;> simp

@[simp] theorem seqEvent_keeps (e : SeqEvent) (s : State) :
    (seqEvent e s).stage = s.stage ∧ (seqEvent e s).restarting = s.restarting ∧ (seqEvent e s).lsu = s.lsu ∧
    (seqEvent e s).tag = s.tag ∧ (seqEvent e s).pending = s.pending := by
  unfold seqEvent
  split <;> simp

end Sys2Proof.Machine
end

