-- ==== Sys2Proof/Laws/Blocks.lean ====
section
/-! SUPPORT. What the operations of Machine/Protection.lean, Tags.lean, Battery.lean and Records.lean leave alone. -/

namespace Sys2Proof.Machine

@[simp] theorem captureFault_keeps (s : State) :
    (captureFault s).stage = s.stage ∧ (captureFault s).restarting = s.restarting ∧ (captureFault s).lsu = s.lsu ∧
    (captureFault s).peu = s.peu ∧ (captureFault s).seq = s.seq ∧ (captureFault s).act = s.act ∧
    (captureFault s).tag = s.tag ∧ (captureFault s).bcu = s.bcu ∧ (captureFault s).rcc = s.rcc ∧
    (captureFault s).sst = s.sst ∧ (captureFault s).hlc = s.hlc ∧ (captureFault s).pending = s.pending := by
  unfold captureFault
  split <;> simp

@[simp] theorem requestTrip_keeps (cause : Option Element) (s : State) :
    (requestTrip cause s).stage = s.stage ∧ (requestTrip cause s).restarting = s.restarting ∧ (requestTrip cause s).lsu = s.lsu ∧
    (requestTrip cause s).tag = s.tag ∧ (requestTrip cause s).pending = s.pending := by
  unfold requestTrip
  split <;> simp

@[simp] theorem peuUpdate_keeps (s : State) :
    (peuUpdate s).stage = s.stage ∧ (peuUpdate s).restarting = s.restarting ∧ (peuUpdate s).lsu = s.lsu ∧
    (peuUpdate s).tag = s.tag ∧ (peuUpdate s).pending = s.pending := by
  simp only [peuUpdate]
  split <;> simp

@[simp] theorem applyWhenQuiet_keeps (s : State) :
    (applyWhenQuiet s).stage = s.stage ∧ (applyWhenQuiet s).restarting = s.restarting ∧ (applyWhenQuiet s).lsu = s.lsu ∧
    (applyWhenQuiet s).act = s.act ∧ (applyWhenQuiet s).tag = s.tag ∧ (applyWhenQuiet s).bcu = s.bcu ∧
    (applyWhenQuiet s).pending = s.pending := by
  unfold applyWhenQuiet
  split <;> simp

@[simp] theorem sourceRecord_keeps (old new : LineState) (s : State) :
    (sourceRecord old new s).stage = s.stage ∧ (sourceRecord old new s).restarting = s.restarting ∧ (sourceRecord old new s).lsu = s.lsu ∧
    (sourceRecord old new s).peu = s.peu ∧ (sourceRecord old new s).seq = s.seq ∧ (sourceRecord old new s).act = s.act ∧
    (sourceRecord old new s).tag = s.tag ∧ (sourceRecord old new s).bcu = s.bcu ∧ (sourceRecord old new s).pending = s.pending := by
  unfold sourceRecord
  split <;> simp

@[simp] theorem lineUpdate_keeps (s : State) :
    (lineUpdate s).stage = s.stage ∧ (lineUpdate s).restarting = s.restarting ∧ (lineUpdate s).tag = s.tag ∧
    (lineUpdate s).pending = s.pending := by
  simp only [lineUpdate]
  split <;> simp

@[simp] theorem magnitudeUpdate_keeps (block : List SampleSet) (s : State) :
    (magnitudeUpdate block s).stage = s.stage ∧ (magnitudeUpdate block s).restarting = s.restarting ∧ (magnitudeUpdate block s).tag = s.tag ∧
    (magnitudeUpdate block s).pending = s.pending := by
  simp [magnitudeUpdate]

@[simp] theorem acceptTag_keeps (t : TagTable) (x : Tag) (s : State) :
    (acceptTag t x s).stage = s.stage ∧ (acceptTag t x s).restarting = s.restarting ∧ (acceptTag t x s).lsu = s.lsu ∧
    (acceptTag t x s).pending = s.pending := by
  simp [acceptTag]

@[simp] theorem removeTag_keeps (x : Tag) (c : RemovalCause) (a : Option Authority) (s : State) :
    (removeTag x c a s).stage = s.stage ∧ (removeTag x c a s).restarting = s.restarting ∧ (removeTag x c a s).lsu = s.lsu ∧
    (removeTag x c a s).peu = s.peu ∧ (removeTag x c a s).seq = s.seq ∧ (removeTag x c a s).act = s.act ∧
    (removeTag x c a s).bcu = s.bcu ∧ (removeTag x c a s).pending = s.pending := by
  simp [removeTag]

@[simp] theorem expireTags_keeps (s : State) :
    (expireTags s).stage = s.stage ∧ (expireTags s).restarting = s.restarting ∧ (expireTags s).lsu = s.lsu ∧
    (expireTags s).peu = s.peu ∧ (expireTags s).seq = s.seq ∧ (expireTags s).act = s.act ∧
    (expireTags s).bcu = s.bcu ∧ (expireTags s).pending = s.pending := by
  unfold expireTags
  generalize (List.filter _ _) = l
  induction l generalizing s with
  | nil => simp
  | cons x rest ih => simpa using ih (removeTag x .expired none s)

@[simp] theorem tagMinute_keeps (s : State) :
    (tagMinute s).stage = s.stage ∧ (tagMinute s).restarting = s.restarting ∧ (tagMinute s).lsu = s.lsu ∧
    (tagMinute s).peu = s.peu ∧ (tagMinute s).seq = s.seq ∧ (tagMinute s).act = s.act ∧
    (tagMinute s).bcu = s.bcu ∧ (tagMinute s).pending = s.pending := by
  simp only [tagMinute]
  split <;> simp

@[simp] theorem goSilent_keeps (s : State) :
    (goSilent s).stage = s.stage ∧ (goSilent s).restarting = s.restarting ∧ (goSilent s).lsu = s.lsu ∧
    (goSilent s).peu = s.peu ∧ (goSilent s).seq = s.seq ∧ (goSilent s).act = s.act ∧
    (goSilent s).tag = s.tag ∧ (goSilent s).bcu = s.bcu ∧ (goSilent s).orl = s.orl ∧
    (goSilent s).sst = s.sst ∧ (goSilent s).hlc = s.hlc ∧ (goSilent s).pending = s.pending := by
  simp [goSilent]

@[simp] theorem endLoaded_keeps (outcome : TestOutcome) (r : TestReading) (s : State) :
    (endLoaded outcome r s).stage = s.stage ∧ (endLoaded outcome r s).restarting = s.restarting ∧ (endLoaded outcome r s).lsu = s.lsu ∧
    (endLoaded outcome r s).peu = s.peu ∧ (endLoaded outcome r s).seq = s.seq ∧ (endLoaded outcome r s).act = s.act ∧
    (endLoaded outcome r s).tag = s.tag ∧ (endLoaded outcome r s).pending = s.pending := by
  simp [endLoaded]

@[simp] theorem endTestByLevel_keeps (r : TestReading) (s : State) :
    (endTestByLevel r s).stage = s.stage ∧ (endTestByLevel r s).restarting = s.restarting ∧ (endTestByLevel r s).lsu = s.lsu ∧
    (endTestByLevel r s).peu = s.peu ∧ (endTestByLevel r s).seq = s.seq ∧ (endTestByLevel r s).act = s.act ∧
    (endTestByLevel r s).tag = s.tag ∧ (endTestByLevel r s).pending = s.pending := by
  unfold endTestByLevel
  split <;> simp

@[simp] theorem beginShutdown_keeps (s : State) :
    (beginShutdown s).stage = s.stage ∧ (beginShutdown s).restarting = s.restarting ∧ (beginShutdown s).lsu = s.lsu ∧
    (beginShutdown s).tag = s.tag ∧ (beginShutdown s).pending = s.pending := by
  unfold beginShutdown
  split <;> simp

@[simp] theorem changeLevel_keeps (l : Level) (r : TestReading) (s : State) :
    (changeLevel l r s).stage = s.stage ∧ (changeLevel l r s).restarting = s.restarting ∧ (changeLevel l r s).lsu = s.lsu ∧
    (changeLevel l r s).tag = s.tag ∧ (changeLevel l r s).pending = s.pending := by
  unfold changeLevel
  (repeat' split) <;> simp

@[simp] theorem measureCharge_keeps (m : BattMeas) (s : State) :
    (measureCharge m s).stage = s.stage ∧ (measureCharge m s).restarting = s.restarting ∧ (measureCharge m s).lsu = s.lsu ∧
    (measureCharge m s).peu = s.peu ∧ (measureCharge m s).seq = s.seq ∧ (measureCharge m s).act = s.act ∧
    (measureCharge m s).tag = s.tag ∧ (measureCharge m s).orl = s.orl ∧ (measureCharge m s).rcc = s.rcc ∧
    (measureCharge m s).sst = s.sst ∧ (measureCharge m s).hlc = s.hlc ∧ (measureCharge m s).pending = s.pending := by
  simp [measureCharge]

@[simp] theorem countMeasurement_keeps (s : State) :
    (countMeasurement s).stage = s.stage ∧ (countMeasurement s).restarting = s.restarting ∧ (countMeasurement s).lsu = s.lsu ∧
    (countMeasurement s).peu = s.peu ∧ (countMeasurement s).seq = s.seq ∧ (countMeasurement s).act = s.act ∧
    (countMeasurement s).tag = s.tag ∧ (countMeasurement s).orl = s.orl ∧ (countMeasurement s).rcc = s.rcc ∧
    (countMeasurement s).hlc = s.hlc ∧ (countMeasurement s).pending = s.pending := by
  simp only [countMeasurement]
  split <;> simp

@[simp] theorem gradeReserve_keeps (r : TestReading) (s : State) :
    (gradeReserve r s).stage = s.stage ∧ (gradeReserve r s).restarting = s.restarting ∧ (gradeReserve r s).lsu = s.lsu ∧
    (gradeReserve r s).tag = s.tag ∧ (gradeReserve r s).pending = s.pending := by
  simp only [gradeReserve]
  split <;> simp

@[simp] theorem battMeasure_keeps (m : BattMeas) (r : TestReading) (s : State) :
    (battMeasure m r s).stage = s.stage ∧ (battMeasure m r s).restarting = s.restarting ∧ (battMeasure m r s).lsu = s.lsu ∧
    (battMeasure m r s).tag = s.tag ∧ (battMeasure m r s).pending = s.pending := by
  simp [battMeasure]

@[simp] theorem scheduledTest_keeps (s : State) :
    (scheduledTest s).stage = s.stage ∧ (scheduledTest s).restarting = s.restarting ∧ (scheduledTest s).lsu = s.lsu ∧
    (scheduledTest s).peu = s.peu ∧ (scheduledTest s).seq = s.seq ∧ (scheduledTest s).act = s.act ∧
    (scheduledTest s).tag = s.tag ∧ (scheduledTest s).orl = s.orl ∧ (scheduledTest s).rcc = s.rcc ∧
    (scheduledTest s).sst = s.sst ∧ (scheduledTest s).hlc = s.hlc ∧ (scheduledTest s).pending = s.pending := by
  unfold scheduledTest
  split <;> simp

@[simp] theorem bcuMinute_keeps (s : State) :
    (bcuMinute s).stage = s.stage ∧ (bcuMinute s).restarting = s.restarting ∧ (bcuMinute s).lsu = s.lsu ∧
    (bcuMinute s).peu = s.peu ∧ (bcuMinute s).seq = s.seq ∧ (bcuMinute s).act = s.act ∧
    (bcuMinute s).tag = s.tag ∧ (bcuMinute s).orl = s.orl ∧ (bcuMinute s).rcc = s.rcc ∧
    (bcuMinute s).sst = s.sst ∧ (bcuMinute s).hlc = s.hlc ∧ (bcuMinute s).pending = s.pending := by
  unfold bcuMinute
  (repeat' split) <;> simp

@[simp] theorem applyLoad_keeps (r : TestReading) (s : State) :
    (applyLoad r s).stage = s.stage ∧ (applyLoad r s).restarting = s.restarting ∧ (applyLoad r s).lsu = s.lsu ∧
    (applyLoad r s).peu = s.peu ∧ (applyLoad r s).seq = s.seq ∧ (applyLoad r s).act = s.act ∧
    (applyLoad r s).tag = s.tag ∧ (applyLoad r s).orl = s.orl ∧ (applyLoad r s).rcc = s.rcc ∧
    (applyLoad r s).sst = s.sst ∧ (applyLoad r s).hlc = s.hlc ∧ (applyLoad r s).pending = s.pending := by
  simp [applyLoad]

@[simp] theorem completeTest_keeps (r : TestReading) (s : State) :
    (completeTest r s).stage = s.stage ∧ (completeTest r s).restarting = s.restarting ∧ (completeTest r s).lsu = s.lsu ∧
    (completeTest r s).peu = s.peu ∧ (completeTest r s).seq = s.seq ∧ (completeTest r s).act = s.act ∧
    (completeTest r s).tag = s.tag ∧ (completeTest r s).pending = s.pending := by
  simp [completeTest]

@[simp] theorem cancelTest_keeps (s : State) :
    (cancelTest s).stage = s.stage ∧ (cancelTest s).restarting = s.restarting ∧ (cancelTest s).lsu = s.lsu ∧
    (cancelTest s).peu = s.peu ∧ (cancelTest s).seq = s.seq ∧ (cancelTest s).act = s.act ∧
    (cancelTest s).tag = s.tag ∧ (cancelTest s).pending = s.pending := by
  unfold cancelTest
  split <;> simp

@[simp] theorem setTime_keeps (t : Nat) (s : State) :
    (setTime t s).stage = s.stage ∧ (setTime t s).restarting = s.restarting ∧ (setTime t s).lsu = s.lsu ∧
    (setTime t s).peu = s.peu ∧ (setTime t s).seq = s.seq ∧ (setTime t s).act = s.act ∧
    (setTime t s).tag = s.tag ∧ (setTime t s).bcu = s.bcu ∧ (setTime t s).rcc = s.rcc ∧
    (setTime t s).sst = s.sst ∧ (setTime t s).hlc = s.hlc ∧ (setTime t s).pending = s.pending := by
  simp [setTime]

@[simp] theorem beaconTime_keeps (t : Nat) (s : State) :
    (beaconTime t s).stage = s.stage ∧ (beaconTime t s).restarting = s.restarting ∧ (beaconTime t s).lsu = s.lsu ∧
    (beaconTime t s).peu = s.peu ∧ (beaconTime t s).seq = s.seq ∧ (beaconTime t s).act = s.act ∧
    (beaconTime t s).tag = s.tag ∧ (beaconTime t s).bcu = s.bcu ∧ (beaconTime t s).rcc = s.rcc ∧
    (beaconTime t s).sst = s.sst ∧ (beaconTime t s).hlc = s.hlc ∧ (beaconTime t s).pending = s.pending := by
  unfold beaconTime
  split <;> simp

@[simp] theorem makeStatus_keeps (s : State) :
    (makeStatus s).stage = s.stage ∧ (makeStatus s).restarting = s.restarting ∧ (makeStatus s).lsu = s.lsu ∧
    (makeStatus s).peu = s.peu ∧ (makeStatus s).seq = s.seq ∧ (makeStatus s).act = s.act ∧ (makeStatus s).tag = s.tag ∧
    (makeStatus s).bcu = s.bcu ∧ (makeStatus s).orl = s.orl ∧ (makeStatus s).sst = s.sst ∧ (makeStatus s).hlc = s.hlc ∧
    (makeStatus s).pending = s.pending := by
  unfold makeStatus
  split <;> simp

@[simp] theorem statusRequest_keeps (s : State) :
    (statusRequest s).stage = s.stage ∧ (statusRequest s).restarting = s.restarting ∧ (statusRequest s).lsu = s.lsu ∧
    (statusRequest s).peu = s.peu ∧ (statusRequest s).seq = s.seq ∧ (statusRequest s).act = s.act ∧
    (statusRequest s).tag = s.tag ∧ (statusRequest s).bcu = s.bcu ∧ (statusRequest s).sst = s.sst ∧
    (statusRequest s).hlc = s.hlc ∧ (statusRequest s).pending = s.pending := by
  unfold statusRequest
  split <;> simp

@[simp] theorem rccMinute_keeps (s : State) :
    (rccMinute s).stage = s.stage ∧ (rccMinute s).restarting = s.restarting ∧ (rccMinute s).lsu = s.lsu ∧
    (rccMinute s).peu = s.peu ∧ (rccMinute s).seq = s.seq ∧ (rccMinute s).act = s.act ∧ (rccMinute s).tag = s.tag ∧
    (rccMinute s).bcu = s.bcu ∧ (rccMinute s).sst = s.sst ∧ (rccMinute s).hlc = s.hlc ∧
    (rccMinute s).pending = s.pending := by
  unfold rccMinute
  (repeat' split) <;> simp

@[simp] theorem minuteEvent_keeps (s : State) :
    (minuteEvent s).stage = s.stage ∧ (minuteEvent s).restarting = s.restarting ∧ (minuteEvent s).lsu = s.lsu ∧
    (minuteEvent s).peu = s.peu ∧ (minuteEvent s).seq = s.seq ∧ (minuteEvent s).act = s.act ∧
    (minuteEvent s).pending = s.pending := by
  simp [minuteEvent]

@[simp] theorem advanceTime_keeps (n : Nat) (s : State) :
    (advanceTime n s).stage = s.stage ∧ (advanceTime n s).restarting = s.restarting ∧ (advanceTime n s).lsu = s.lsu ∧
    (advanceTime n s).peu = s.peu ∧ (advanceTime n s).seq = s.seq ∧ (advanceTime n s).act = s.act ∧
    (advanceTime n s).tag = s.tag ∧ (advanceTime n s).bcu = s.bcu ∧ (advanceTime n s).rcc = s.rcc ∧
    (advanceTime n s).sst = s.sst ∧ (advanceTime n s).hlc = s.hlc ∧ (advanceTime n s).pending = s.pending := by
  simp [advanceTime]

@[simp] theorem completeMinute_keeps (s : State) :
    (completeMinute s).stage = s.stage ∧ (completeMinute s).restarting = s.restarting ∧ (completeMinute s).lsu = s.lsu ∧
    (completeMinute s).peu = s.peu ∧ (completeMinute s).seq = s.seq ∧ (completeMinute s).act = s.act ∧
    (completeMinute s).pending = s.pending := by
  simp [completeMinute]

@[simp] theorem runSecond_keeps (s : State) :
    (runSecond s).stage = s.stage ∧ (runSecond s).restarting = s.restarting ∧ (runSecond s).lsu = s.lsu ∧
    (runSecond s).peu = s.peu ∧ (runSecond s).seq = s.seq ∧ (runSecond s).act = s.act ∧
    (runSecond s).pending = s.pending := by
  unfold runSecond
  split <;> simp

@[simp] theorem formWear_keeps (s : State) :
    (formWear s).stage = s.stage ∧ (formWear s).restarting = s.restarting ∧ (formWear s).lsu = s.lsu ∧
    (formWear s).peu = s.peu ∧ (formWear s).seq = s.seq ∧ (formWear s).act = s.act ∧
    (formWear s).tag = s.tag ∧ (formWear s).bcu = s.bcu ∧ (formWear s).pending = s.pending := by
  simp [formWear]

@[simp] theorem resetWear_keeps (p : Phase) (s : State) :
    (resetWear p s).stage = s.stage ∧ (resetWear p s).restarting = s.restarting ∧ (resetWear p s).lsu = s.lsu ∧
    (resetWear p s).peu = s.peu ∧ (resetWear p s).seq = s.seq ∧ (resetWear p s).act = s.act ∧
    (resetWear p s).tag = s.tag ∧ (resetWear p s).bcu = s.bcu ∧ (resetWear p s).pending = s.pending := by
  simp [resetWear]

end Sys2Proof.Machine
end

