-- ==== Sys2Proof/Laws/Links.lean ====
section
/-! SUPPORT. What the operations of Machine/Settings.lean, Radio.lean and HostLink.lean leave alone. -/

namespace Sys2Proof.Machine

@[simp] theorem beginCommit_keeps (s : State) :
    (beginCommit s).stage = s.stage ∧ (beginCommit s).restarting = s.restarting ∧ (beginCommit s).lsu = s.lsu ∧
    (beginCommit s).peu = s.peu ∧ (beginCommit s).seq = s.seq ∧ (beginCommit s).act = s.act ∧
    (beginCommit s).tag = s.tag ∧ (beginCommit s).bcu = s.bcu ∧ (beginCommit s).orl = s.orl ∧
    (beginCommit s).rcc = s.rcc ∧ (beginCommit s).hlc = s.hlc ∧ (beginCommit s).pending = s.pending := by
  unfold beginCommit
  split <;> simp

@[simp] theorem stationChanged_keeps (id : Nat) (s : State) :
    (stationChanged id s).stage = s.stage ∧ (stationChanged id s).restarting = s.restarting ∧ (stationChanged id s).lsu = s.lsu ∧
    (stationChanged id s).peu = s.peu ∧ (stationChanged id s).seq = s.seq ∧ (stationChanged id s).act = s.act ∧
    (stationChanged id s).tag = s.tag ∧ (stationChanged id s).bcu = s.bcu ∧ (stationChanged id s).orl = s.orl ∧
    (stationChanged id s).sst = s.sst ∧ (stationChanged id s).hlc = s.hlc ∧ (stationChanged id s).pending = s.pending := by
  simp [stationChanged]

@[simp] theorem rescaleCharge_keeps (capacity : Nat) (s : State) :
    (rescaleCharge capacity s).stage = s.stage ∧ (rescaleCharge capacity s).restarting = s.restarting ∧ (rescaleCharge capacity s).lsu = s.lsu ∧
    (rescaleCharge capacity s).peu = s.peu ∧ (rescaleCharge capacity s).seq = s.seq ∧ (rescaleCharge capacity s).act = s.act ∧
    (rescaleCharge capacity s).tag = s.tag ∧ (rescaleCharge capacity s).orl = s.orl ∧ (rescaleCharge capacity s).rcc = s.rcc ∧
    (rescaleCharge capacity s).hlc = s.hlc ∧ (rescaleCharge capacity s).pending = s.pending := by
  simp [rescaleCharge]

@[simp] theorem globalEffects_keeps (old new : Page) (s : State) :
    (globalEffects old new s).stage = s.stage ∧ (globalEffects old new s).restarting = s.restarting ∧ (globalEffects old new s).peu = s.peu ∧
    (globalEffects old new s).seq = s.seq ∧ (globalEffects old new s).act = s.act ∧ (globalEffects old new s).tag = s.tag ∧
    (globalEffects old new s).pending = s.pending := by
  simp only [globalEffects]
  (repeat' split) <;> simp

@[simp] theorem replaceWorking_keeps (t : Target) (p : Page) (s : State) :
    (replaceWorking t p s).stage = s.stage ∧ (replaceWorking t p s).restarting = s.restarting ∧ (replaceWorking t p s).seq = s.seq ∧
    (replaceWorking t p s).act = s.act ∧ (replaceWorking t p s).tag = s.tag ∧ (replaceWorking t p s).pending = s.pending := by
  unfold replaceWorking
  (repeat' split) <;> simp

@[simp] theorem releaseSelections_keeps (t : Target) (waiting : List Src) (s : State) :
    (releaseSelections t waiting s).stage = s.stage ∧ (releaseSelections t waiting s).restarting = s.restarting ∧ (releaseSelections t waiting s).lsu = s.lsu ∧
    (releaseSelections t waiting s).tag = s.tag ∧ (releaseSelections t waiting s).pending = s.pending := by
  unfold releaseSelections
  split
  · rename_i g _
    induction waiting generalizing s with
    | nil => simp
    | cons src rest ih => simpa using ih (seqEvent (.select g src) s)
  · simp

@[simp] theorem completeCommit_keeps (b : StageBuf) (reply : Bool) (s : State) :
    (completeCommit b reply s).stage = s.stage ∧ (completeCommit b reply s).restarting = s.restarting ∧ (completeCommit b reply s).tag = s.tag ∧
    (completeCommit b reply s).pending = s.pending := by
  unfold completeCommit
  split <;> simp

@[simp] theorem selectGroup_keeps (g : Nat) (src : Src) (s : State) :
    (selectGroup g src s).stage = s.stage ∧ (selectGroup g src s).restarting = s.restarting ∧ (selectGroup g src s).lsu = s.lsu ∧
    (selectGroup g src s).tag = s.tag ∧ (selectGroup g src s).pending = s.pending := by
  unfold selectGroup
  (repeat' split) <;> simp

@[simp] theorem completeWrite_keeps (i : RetItem) (s : State) :
    (completeWrite i s).stage = s.stage ∧ (completeWrite i s).restarting = s.restarting ∧ (completeWrite i s).lsu = s.lsu ∧
    (completeWrite i s).peu = s.peu ∧ (completeWrite i s).seq = s.seq ∧ (completeWrite i s).act = s.act ∧
    (completeWrite i s).tag = s.tag ∧ (completeWrite i s).bcu = s.bcu ∧ (completeWrite i s).orl = s.orl ∧
    (completeWrite i s).rcc = s.rcc ∧ (completeWrite i s).hlc = s.hlc ∧ (completeWrite i s).pending = s.pending := by
  simp [completeWrite]

@[simp] theorem mechFailCleared_keeps (s : State) :
    (mechFailCleared s).1.stage = s.stage ∧ (mechFailCleared s).1.restarting = s.restarting ∧ (mechFailCleared s).1.lsu = s.lsu ∧
    (mechFailCleared s).1.tag = s.tag ∧ (mechFailCleared s).1.pending = s.pending := by
  unfold mechFailCleared
  (repeat' split) <;> simp

@[simp] theorem placeTag_keeps (a : Authority) (crew mode expiry : Nat) (s : State) :
    (placeTag a crew mode expiry s).1.stage = s.stage ∧ (placeTag a crew mode expiry s).1.restarting = s.restarting ∧ (placeTag a crew mode expiry s).1.lsu = s.lsu ∧
    (placeTag a crew mode expiry s).1.pending = s.pending := by
  simp only [placeTag]
  (repeat' split) <;> simp

@[simp] theorem tagRemove_keeps (a : Authority) (number crew : Nat) (s : State) :
    (tagRemove a number crew s).1.stage = s.stage ∧ (tagRemove a number crew s).1.restarting = s.restarting ∧ (tagRemove a number crew s).1.lsu = s.lsu ∧
    (tagRemove a number crew s).1.peu = s.peu ∧ (tagRemove a number crew s).1.seq = s.seq ∧ (tagRemove a number crew s).1.act = s.act ∧
    (tagRemove a number crew s).1.bcu = s.bcu ∧ (tagRemove a number crew s).1.pending = s.pending := by
  unfold tagRemove
  (repeat' split) <;> simp

@[simp] theorem tagClear_keeps (a : Authority) (number : Nat) (s : State) :
    (tagClear a number s).1.stage = s.stage ∧ (tagClear a number s).1.restarting = s.restarting ∧ (tagClear a number s).1.lsu = s.lsu ∧
    (tagClear a number s).1.peu = s.peu ∧ (tagClear a number s).1.seq = s.seq ∧ (tagClear a number s).1.act = s.act ∧
    (tagClear a number s).1.bcu = s.bcu ∧ (tagClear a number s).1.pending = s.pending := by
  unfold tagClear
  (repeat' split) <;> simp

@[simp] theorem stageOpen_keeps (kind number : Nat) (s : State) :
    (stageOpen kind number s).1.stage = s.stage ∧ (stageOpen kind number s).1.restarting = s.restarting ∧ (stageOpen kind number s).1.lsu = s.lsu ∧
    (stageOpen kind number s).1.peu = s.peu ∧ (stageOpen kind number s).1.seq = s.seq ∧ (stageOpen kind number s).1.act = s.act ∧
    (stageOpen kind number s).1.tag = s.tag ∧ (stageOpen kind number s).1.bcu = s.bcu ∧ (stageOpen kind number s).1.orl = s.orl ∧
    (stageOpen kind number s).1.rcc = s.rcc ∧ (stageOpen kind number s).1.hlc = s.hlc ∧ (stageOpen kind number s).1.pending = s.pending := by
  unfold stageOpen
  split <;> simp

@[simp] theorem stageLoad_keeps (value : Int) (advance : Nat) (s : State) :
    (stageLoad value advance s).1.stage = s.stage ∧ (stageLoad value advance s).1.restarting = s.restarting ∧ (stageLoad value advance s).1.lsu = s.lsu ∧
    (stageLoad value advance s).1.peu = s.peu ∧ (stageLoad value advance s).1.seq = s.seq ∧ (stageLoad value advance s).1.act = s.act ∧
    (stageLoad value advance s).1.tag = s.tag ∧ (stageLoad value advance s).1.bcu = s.bcu ∧ (stageLoad value advance s).1.orl = s.orl ∧
    (stageLoad value advance s).1.rcc = s.rcc ∧ (stageLoad value advance s).1.hlc = s.hlc ∧ (stageLoad value advance s).1.pending = s.pending := by
  unfold stageLoad
  (repeat' split) <;> simp

@[simp] theorem stageSeek_keeps (field : Nat) (s : State) :
    (stageSeek field s).1.stage = s.stage ∧ (stageSeek field s).1.restarting = s.restarting ∧ (stageSeek field s).1.lsu = s.lsu ∧
    (stageSeek field s).1.peu = s.peu ∧ (stageSeek field s).1.seq = s.seq ∧ (stageSeek field s).1.act = s.act ∧
    (stageSeek field s).1.tag = s.tag ∧ (stageSeek field s).1.bcu = s.bcu ∧ (stageSeek field s).1.orl = s.orl ∧
    (stageSeek field s).1.rcc = s.rcc ∧ (stageSeek field s).1.hlc = s.hlc ∧ (stageSeek field s).1.pending = s.pending := by
  unfold stageSeek
  (repeat' split) <;> simp

@[simp] theorem refuseCommand_keeps (id : Nat) (r : Res) (s : State) :
    (refuseCommand id r s).stage = s.stage ∧ (refuseCommand id r s).restarting = s.restarting ∧ (refuseCommand id r s).lsu = s.lsu ∧
    (refuseCommand id r s).peu = s.peu ∧ (refuseCommand id r s).seq = s.seq ∧ (refuseCommand id r s).act = s.act ∧
    (refuseCommand id r s).tag = s.tag ∧ (refuseCommand id r s).bcu = s.bcu ∧ (refuseCommand id r s).orl = s.orl ∧
    (refuseCommand id r s).sst = s.sst ∧ (refuseCommand id r s).hlc = s.hlc ∧ (refuseCommand id r s).pending = s.pending := by
  simp [refuseCommand]

@[simp] theorem repeatCommand_keeps (id : Nat) (s : State) :
    (repeatCommand id s).stage = s.stage ∧ (repeatCommand id s).restarting = s.restarting ∧ (repeatCommand id s).lsu = s.lsu ∧
    (repeatCommand id s).peu = s.peu ∧ (repeatCommand id s).seq = s.seq ∧ (repeatCommand id s).act = s.act ∧
    (repeatCommand id s).tag = s.tag ∧ (repeatCommand id s).bcu = s.bcu ∧ (repeatCommand id s).orl = s.orl ∧
    (repeatCommand id s).sst = s.sst ∧ (repeatCommand id s).hlc = s.hlc ∧ (repeatCommand id s).pending = s.pending := by
  unfold repeatCommand
  split <;> simp

@[simp] theorem ownCommand_keeps (c : RadioCmd) (s : State) :
    (ownCommand c s).stage = s.stage ∧ (ownCommand c s).restarting = s.restarting ∧ (ownCommand c s).lsu = s.lsu ∧
    (ownCommand c s).pending = s.pending := by
  unfold ownCommand
  split <;> simp

@[simp] theorem executeCommand_keeps (c : RadioCmd) (s : State) :
    (executeCommand c s).stage = s.stage ∧ (executeCommand c s).restarting = s.restarting ∧ (executeCommand c s).lsu = s.lsu ∧
    (executeCommand c s).pending = s.pending := by
  simp [executeCommand]

@[simp] theorem takeCommand_keeps (c : RadioCmd) (s : State) :
    (takeCommand c s).stage = s.stage ∧ (takeCommand c s).restarting = s.restarting ∧ (takeCommand c s).lsu = s.lsu ∧
    (takeCommand c s).pending = s.pending := by
  unfold takeCommand
  (repeat' split) <;> simp

@[simp] theorem takeCommands_keeps (cmds : List RadioCmd) (s : State) :
    (takeCommands cmds s).stage = s.stage ∧ (takeCommands cmds s).restarting = s.restarting ∧ (takeCommands cmds s).lsu = s.lsu ∧
    (takeCommands cmds s).pending = s.pending := by
  unfold takeCommands
  split <;> simp

@[simp] theorem takeBeacon_keeps (b : Beacon) (s : State) :
    (takeBeacon b s).stage = s.stage ∧ (takeBeacon b s).restarting = s.restarting ∧ (takeBeacon b s).lsu = s.lsu ∧
    (takeBeacon b s).pending = s.pending := by
  simp [takeBeacon]

@[simp] theorem sendReport_keeps (e : Entry) (s : State) :
    (sendReport e s).stage = s.stage ∧ (sendReport e s).restarting = s.restarting ∧ (sendReport e s).lsu = s.lsu ∧
    (sendReport e s).peu = s.peu ∧ (sendReport e s).seq = s.seq ∧ (sendReport e s).act = s.act ∧
    (sendReport e s).tag = s.tag ∧ (sendReport e s).bcu = s.bcu ∧ (sendReport e s).orl = s.orl ∧
    (sendReport e s).sst = s.sst ∧ (sendReport e s).hlc = s.hlc ∧ (sendReport e s).pending = s.pending := by
  simp [sendReport]

@[simp] theorem slotPacket_keeps (s : State) :
    (slotPacket s).stage = s.stage ∧ (slotPacket s).restarting = s.restarting ∧ (slotPacket s).lsu = s.lsu ∧
    (slotPacket s).peu = s.peu ∧ (slotPacket s).seq = s.seq ∧ (slotPacket s).act = s.act ∧
    (slotPacket s).tag = s.tag ∧ (slotPacket s).bcu = s.bcu ∧ (slotPacket s).orl = s.orl ∧
    (slotPacket s).sst = s.sst ∧ (slotPacket s).hlc = s.hlc ∧ (slotPacket s).pending = s.pending := by
  unfold slotPacket
  (repeat' split) <;> simp

@[simp] theorem useSlot_keeps (carrier : Bool) (s : State) :
    (useSlot carrier s).stage = s.stage ∧ (useSlot carrier s).restarting = s.restarting ∧ (useSlot carrier s).lsu = s.lsu ∧
    (useSlot carrier s).peu = s.peu ∧ (useSlot carrier s).seq = s.seq ∧ (useSlot carrier s).act = s.act ∧
    (useSlot carrier s).tag = s.tag ∧ (useSlot carrier s).bcu = s.bcu ∧ (useSlot carrier s).orl = s.orl ∧
    (useSlot carrier s).sst = s.sst ∧ (useSlot carrier s).hlc = s.hlc ∧ (useSlot carrier s).pending = s.pending := by
  simp only [useSlot]
  split <;> simp

@[simp] theorem takeSlot_keeps (carrier : Bool) (s : State) :
    (takeSlot carrier s).stage = s.stage ∧ (takeSlot carrier s).restarting = s.restarting ∧ (takeSlot carrier s).lsu = s.lsu ∧
    (takeSlot carrier s).peu = s.peu ∧ (takeSlot carrier s).seq = s.seq ∧ (takeSlot carrier s).act = s.act ∧
    (takeSlot carrier s).tag = s.tag ∧ (takeSlot carrier s).bcu = s.bcu ∧ (takeSlot carrier s).orl = s.orl ∧
    (takeSlot carrier s).sst = s.sst ∧ (takeSlot carrier s).hlc = s.hlc ∧ (takeSlot carrier s).pending = s.pending := by
  simp only [takeSlot]
  split <;> simp

@[simp] theorem serveMechFailClear_keeps (a : Authority) (s : State) :
    (serveMechFailClear a s).stage = s.stage ∧ (serveMechFailClear a s).restarting = s.restarting ∧ (serveMechFailClear a s).lsu = s.lsu ∧
    (serveMechFailClear a s).tag = s.tag ∧ (serveMechFailClear a s).pending = s.pending := by
  unfold serveMechFailClear
  split <;> simp

@[simp] theorem serveTagPlace_keeps (a : Authority) (crew mode expiry : Nat) (s : State) :
    (serveTagPlace a crew mode expiry s).stage = s.stage ∧ (serveTagPlace a crew mode expiry s).restarting = s.restarting ∧ (serveTagPlace a crew mode expiry s).lsu = s.lsu ∧
    (serveTagPlace a crew mode expiry s).pending = s.pending := by
  simp [serveTagPlace]

@[simp] theorem serveWearReset_keeps (a : Authority) (phase : Nat) (s : State) :
    (serveWearReset a phase s).stage = s.stage ∧ (serveWearReset a phase s).restarting = s.restarting ∧ (serveWearReset a phase s).lsu = s.lsu ∧
    (serveWearReset a phase s).peu = s.peu ∧ (serveWearReset a phase s).seq = s.seq ∧ (serveWearReset a phase s).act = s.act ∧
    (serveWearReset a phase s).tag = s.tag ∧ (serveWearReset a phase s).bcu = s.bcu ∧ (serveWearReset a phase s).pending = s.pending := by
  unfold serveWearReset
  (repeat' split) <;> simp

@[simp] theorem serveTestStart_keeps (s : State) :
    (serveTestStart s).stage = s.stage ∧ (serveTestStart s).restarting = s.restarting ∧ (serveTestStart s).lsu = s.lsu ∧
    (serveTestStart s).peu = s.peu ∧ (serveTestStart s).seq = s.seq ∧ (serveTestStart s).act = s.act ∧
    (serveTestStart s).tag = s.tag ∧ (serveTestStart s).orl = s.orl ∧ (serveTestStart s).rcc = s.rcc ∧
    (serveTestStart s).sst = s.sst ∧ (serveTestStart s).pending = s.pending := by
  unfold serveTestStart
  split <;> simp

@[simp] theorem serveCommit_keeps (s : State) :
    (serveCommit s).stage = s.stage ∧ (serveCommit s).restarting = s.restarting ∧ (serveCommit s).lsu = s.lsu ∧
    (serveCommit s).peu = s.peu ∧ (serveCommit s).seq = s.seq ∧ (serveCommit s).act = s.act ∧
    (serveCommit s).tag = s.tag ∧ (serveCommit s).bcu = s.bcu ∧ (serveCommit s).orl = s.orl ∧
    (serveCommit s).rcc = s.rcc ∧ (serveCommit s).pending = s.pending := by
  unfold serveCommit
  split <;> simp

@[simp] theorem serveRestart_keeps (s : State) :
    (serveRestart s).stage = s.stage ∧ (serveRestart s).lsu = s.lsu ∧ (serveRestart s).peu = s.peu ∧
    (serveRestart s).seq = s.seq ∧ (serveRestart s).act = s.act ∧ (serveRestart s).tag = s.tag ∧
    (serveRestart s).bcu = s.bcu ∧ (serveRestart s).orl = s.orl ∧ (serveRestart s).rcc = s.rcc ∧
    (serveRestart s).sst = s.sst ∧ (serveRestart s).pending = s.pending := by
  unfold serveRestart
  split <;> simp

@[simp] theorem serveReadState_keeps (sect start : Nat) (s : State) :
    (serveReadState sect start s).stage = s.stage ∧ (serveReadState sect start s).restarting = s.restarting ∧ (serveReadState sect start s).lsu = s.lsu ∧
    (serveReadState sect start s).peu = s.peu ∧ (serveReadState sect start s).seq = s.seq ∧ (serveReadState sect start s).act = s.act ∧
    (serveReadState sect start s).tag = s.tag ∧ (serveReadState sect start s).bcu = s.bcu ∧ (serveReadState sect start s).orl = s.orl ∧
    (serveReadState sect start s).rcc = s.rcc ∧ (serveReadState sect start s).sst = s.sst ∧ (serveReadState sect start s).pending = s.pending := by
  unfold serveReadState
  split <;> simp

@[simp] theorem serve_keeps (a : Authority) (r : Request) (s : State) :
    (serve a r s).stage = s.stage ∧ (serve a r s).lsu = s.lsu ∧ (serve a r s).pending = s.pending := by
  cases r <;> simp [serve]

@[simp] theorem serveNext_keeps (s : State) :
    (serveNext s).stage = s.stage ∧ (serveNext s).lsu = s.lsu ∧ (serveNext s).pending = s.pending := by
  unfold serveNext
  split <;> simp

@[simp] theorem pumpFor_keeps (n : Nat) (s : State) :
    (pumpFor n s).stage = s.stage ∧ (pumpFor n s).lsu = s.lsu ∧ (pumpFor n s).pending = s.pending := by
  induction n generalizing s with
  | zero => simp [pumpFor]
  | succ n ih =>
    unfold pumpFor
    split
    · simpa using ih (serveNext s)
    · simp

@[simp] theorem pump_keeps (s : State) :
    (pump s).stage = s.stage ∧ (pump s).lsu = s.lsu ∧ (pump s).pending = s.pending := by
  simp [pump]

@[simp] theorem queueFrame_keeps (f : RxFrame) (s : State) :
    (queueFrame f s).stage = s.stage ∧ (queueFrame f s).restarting = s.restarting ∧ (queueFrame f s).lsu = s.lsu ∧
    (queueFrame f s).peu = s.peu ∧ (queueFrame f s).seq = s.seq ∧ (queueFrame f s).act = s.act ∧
    (queueFrame f s).tag = s.tag ∧ (queueFrame f s).bcu = s.bcu ∧ (queueFrame f s).orl = s.orl ∧
    (queueFrame f s).rcc = s.rcc ∧ (queueFrame f s).sst = s.sst ∧ (queueFrame f s).pending = s.pending := by
  unfold queueFrame
  (repeat' split) <;> simp

@[simp] theorem receive_keeps (f : RxFrame) (s : State) :
    (receive f s).stage = s.stage ∧ (receive f s).lsu = s.lsu ∧ (receive f s).pending = s.pending := by
  unfold receive
  split <;> simp

@[simp] theorem receiveBytes_keeps (n : Nat) (bs : Bytes) (s : State) :
    (receiveBytes n bs s).stage = s.stage ∧ (receiveBytes n bs s).lsu = s.lsu ∧ (receiveBytes n bs s).pending = s.pending := by
  induction n generalizing bs s with
  | zero => simp [receiveBytes]
  | succ n ih =>
    unfold receiveBytes
    split
    · exact ih _ s
    · simp
    · rename_i f rest _
      simpa using ih rest (receive f s)

@[simp] theorem feed_keeps (bytes : Bytes) (s : State) :
    (feed bytes s).stage = s.stage ∧ (feed bytes s).lsu = s.lsu ∧ (feed bytes s).pending = s.pending := by
  unfold feed
  split <;> simp

end Sys2Proof.Machine
end

