-- ==== Sys2Proof/Laws/Second.lean ====
section
/-! SUPPORT. The second count of the time base (spec/07 R145): every operation but the time base's own and the starts leaves it alone. -/

namespace Sys2Proof.Machine

/-- A fold of operations that leave the second count alone leaves it alone. -/
theorem foldl_sec {α : Type} (f : State → α → State) (h : ∀ t x, (f t x).orl.sec = t.orl.sec) (l : List α) (s : State) :
    (l.foldl f s).orl.sec = s.orl.sec := by
  induction l generalizing s with
  | nil => rfl
  | cons x rest ih => rw [List.foldl_cons, ih, h]

/-! ### Machine/Ops.lean -/

@[simp] theorem queueWrite_sec (i : RetItem) (s : State) : (queueWrite i s).orl.sec = s.orl.sec := by
  rfl

@[simp] theorem placeFrame_sec (f : Frame) (s : State) : (placeFrame f s).orl.sec = s.orl.sec := by
  rfl

@[simp] theorem placeNotice_sec (f : Frame) (s : State) : (placeNotice f s).orl.sec = s.orl.sec := by
  rfl

@[simp] theorem hostReply_sec (res : Res) (body : Bytes) (s : State) : (hostReply res body s).orl.sec = s.orl.sec := by
  rfl

@[simp] theorem radioResult_sec (id : Nat) (res : Res) (detail : Nat) (s : State) :
    (radioResult id res detail s).orl.sec = s.orl.sec := by
  rfl

@[simp] theorem answer_sec (src : Src) (res : Res) (detail : Nat) (body : Bytes) (s : State) :
    (answer src res detail body s).orl.sec = s.orl.sec := by
  unfold answer
  split <;> rfl

@[simp] theorem report_sec (cls : Class) (record : Option Nat) (s : State) : (report cls record s).orl.sec = s.orl.sec := by
  rfl

@[simp] theorem addToRing_sec (r : Record) (s : State) : (addToRing r s).orl.sec = s.orl.sec := by
  rfl

@[simp] theorem reportRecord_sec (r : Record) (s : State) : (reportRecord r s).orl.sec = s.orl.sec := by
  unfold reportRecord
  split <;> rfl

@[simp] theorem enterRecord_sec (r : Record) (s : State) : (enterRecord r s).orl.sec = s.orl.sec := by
  simp [enterRecord]

@[simp] theorem completeNow_sec (body : RecBody) (s : State) : (completeNow body s).orl.sec = s.orl.sec := by
  simp [completeNow]

@[simp] theorem hold_sec (x : Held) (s : State) : (hold x s).orl.sec = s.orl.sec := by
  rfl

@[simp] theorem complete_sec (body : RecBody) (s : State) : (complete body s).orl.sec = s.orl.sec := by
  unfold complete
  split <;> simp

@[simp] theorem completeAll_sec (bodies : List RecBody) (s : State) : (completeAll bodies s).orl.sec = s.orl.sec := by
  unfold completeAll
  exact foldl_sec _ (fun _ _ => by simp) _ _

@[simp] theorem clearElements_sec (s : State) : (clearElements s).orl.sec = s.orl.sec := by
  rfl

@[simp] theorem applyToElements_sec (s : State) : (applyToElements s).orl.sec = s.orl.sec := by
  rfl

@[simp] theorem resumeTest_sec (s : State) : (resumeTest s).orl.sec = s.orl.sec := by
  rfl

@[simp] theorem endTest_sec (outcome : TestOutcome) (r mv : Option Nat) (s : State) :
    (endTest outcome r mv s).orl.sec = s.orl.sec := by
  simp [endTest]

@[simp] theorem seqTo_sec (x : SeqState) (s : State) : (seqTo x s).orl.sec = s.orl.sec := by
  unfold seqTo
  split <;> rfl

@[simp] theorem stopTimers_sec (s : State) : (stopTimers s).orl.sec = s.orl.sec := by
  rfl

@[simp] theorem takeHeld_sec (s : State) : (takeHeld s).orl.sec = s.orl.sec := by
  unfold takeHeld
  split <;> rfl

@[simp] theorem applyGroup_sec (g : Nat) (s : State) : (applyGroup g s).orl.sec = s.orl.sec := by
  simp [applyGroup]

@[simp] theorem applyPending_sec (s : State) : (applyPending s).orl.sec = s.orl.sec := by
  unfold applyPending
  split <;> simp

@[simp] theorem enterLockout_sec (c : Cause) (s : State) : (enterLockout c s).orl.sec = s.orl.sec := by
  simp [enterLockout]

@[simp] theorem enterMechFail_sec (s : State) : (enterMechFail s).orl.sec = s.orl.sec := by
  unfold enterMechFail
  split <;> simp

@[simp] theorem enterReclaim_sec (s : State) : (enterReclaim s).orl.sec = s.orl.sec := by
  rfl

@[simp] theorem enterReclaimByHand_sec (s : State) : (enterReclaimByHand s).orl.sec = s.orl.sec := by
  rfl

@[simp] theorem enterClosed_sec (s : State) : (enterClosed s).orl.sec = s.orl.sec := by
  simp only [enterClosed]
  split <;> simp

@[simp] theorem answerHeldClose_sec (res : Res) (s : State) : (answerHeldClose res s).orl.sec = s.orl.sec := by
  unfold answerHeldClose
  split <;> simp

@[simp] theorem setMech_sec (f : Bool) (s : State) : (setMech f s).orl.sec = s.orl.sec := by
  unfold setMech
  split <;> rfl

/-! ### Machine/Actuator.lean -/

@[simp] theorem countOperation_sec (s : State) : (countOperation s).orl.sec = s.orl.sec := by
  unfold countOperation
  split <;> rfl

@[simp] theorem takeInterruption_sec (p : PulsePart) (s : State) : (takeInterruption p s).orl.sec = s.orl.sec := by
  simp only [takeInterruption]
  (repeat' split) <;> simp [Orl.form, Orl.addWear]
  all_goals (split <;> rfl)

@[simp] theorem completeTrip_sec (sp : SeqPart) (pp : PulsePart) (s : State) : (completeTrip sp pp s).orl.sec = s.orl.sec := by
  simp [completeTrip]

@[simp] theorem handPart_sec (p : TripPart) (s : State) : (handPart p s).orl.sec = s.orl.sec := by
  unfold handPart
  split <;> simp

@[simp] theorem seqCloseCompletion_sec (o : PulseOutcome) (s : State) : (seqCloseCompletion o s).orl.sec = s.orl.sec := by
  unfold seqCloseCompletion
  (repeat' split) <;> simp

@[simp] theorem countTrip_sec (o : PulseOutcome) (s : State) : (countTrip o s).orl.sec = s.orl.sec := by
  unfold countTrip
  (repeat' split) <;> simp

@[simp] theorem enterDeadTime_sec (s : State) : (enterDeadTime s).orl.sec = s.orl.sec := by
  rfl

@[simp] theorem carryOut_sec (d : AfterTrip) (s : State) : (carryOut d s).orl.sec = s.orl.sec := by
  unfold carryOut
  split <;> simp

@[simp] theorem exhaustionTripEnded_sec (s : State) : (exhaustionTripEnded s).orl.sec = s.orl.sec := by
  rfl

@[simp] theorem handSeqPart_sec (s : State) : (handSeqPart s).orl.sec = s.orl.sec := by
  unfold handSeqPart
  split <;> simp

@[simp] theorem tripCompletion_sec (o : PulseOutcome) (pp : PulsePart) (partFirst : Bool) (s : State) :
    (tripCompletion o pp partFirst s).orl.sec = s.orl.sec := by
  simp only [tripCompletion]
  (repeat' split) <;> simp

@[simp] theorem beginClose_sec (o : Origin) (s : State) : (beginClose o s).orl.sec = s.orl.sec := by
  rfl

@[simp] theorem handCloseRecord_sec (b : RecBody) (o : PulseOutcome) (s : State) :
    (handCloseRecord b o s).orl.sec = s.orl.sec := by
  unfold handCloseRecord
  split <;> simp

@[simp] theorem endClose_sec (o : PulseOutcome) (pulse : Nat) (fin : PulseEnd) (s : State) :
    (endClose o pulse fin s).orl.sec = s.orl.sec := by
  unfold endClose
  (repeat' split) <;> simp

@[simp] theorem cutClose_sec (s : State) : (cutClose s).orl.sec = s.orl.sec := by
  simp [cutClose]

@[simp] theorem beginTrip_sec (s : State) : (beginTrip s).orl.sec = s.orl.sec := by
  rfl

@[simp] theorem holdTrip_sec (s : State) : (holdTrip s).orl.sec = s.orl.sec := by
  rfl

@[simp] theorem startTrip_sec (s : State) : (startTrip s).orl.sec = s.orl.sec := by
  unfold startTrip
  split <;> rfl

@[simp] theorem actTrip_sec (s : State) : (actTrip s).orl.sec = s.orl.sec := by
  unfold actTrip
  split <;> simp

@[simp] theorem endTrip_sec (o : PulseOutcome) (pulse : Nat) (fin : PulseEnd) (s : State) :
    (endTrip o pulse fin s).orl.sec = s.orl.sec := by
  unfold endTrip
  split <;> simp

@[simp] theorem endHeldTrip_sec (fin : PulseEnd) (s : State) : (endHeldTrip fin s).orl.sec = s.orl.sec := by
  simp [endHeldTrip]

/-! ### Machine/Sequencer.lean -/

@[simp] theorem joinTrip_sec (r : TripReq) (s : State) : (joinTrip r s).orl.sec = s.orl.sec := by
  rfl

@[simp] theorem tripNow_sec (r : TripReq) (s : State) : (tripNow r s).orl.sec = s.orl.sec := by
  simp [tripNow]

@[simp] theorem tripAttempt_sec (r : TripReq) (s : State) : (tripAttempt r s).orl.sec = s.orl.sec := by
  unfold tripAttempt
  split <;> simp

@[simp] theorem seqTrip_sec (r : TripReq) (s : State) : (seqTrip r s).orl.sec = s.orl.sec := by
  unfold seqTrip
  split <;> simp

@[simp] theorem seqOpen_sec (a : Authority) (src : Src) (s : State) : (seqOpen a src s).orl.sec = s.orl.sec := by
  unfold seqOpen
  (repeat' split) <;> simp

@[simp] theorem commandedClose_sec (a : Authority) (src : Src) (s : State) : (commandedClose a src s).orl.sec = s.orl.sec := by
  rfl

@[simp] theorem seqClose_sec (a : Authority) (src : Src) (s : State) : (seqClose a src s).orl.sec = s.orl.sec := by
  unfold seqClose
  (repeat' split) <;> simp

@[simp] theorem enterHold_sec (r : HoldReason) (ms : Nat) (s : State) : (enterHold r ms s).orl.sec = s.orl.sec := by
  rfl

@[simp] theorem autoRefused_sec (r : Res) (s : State) : (autoRefused r s).orl.sec = s.orl.sec := by
  unfold autoRefused
  (repeat' split) <;> simp

@[simp] theorem autoClose_sec (s : State) : (autoClose s).orl.sec = s.orl.sec := by
  unfold autoClose
  split <;> simp

@[simp] theorem deadEnd_sec (d : DeadEnd) (s : State) : (deadEnd d s).orl.sec = s.orl.sec := by
  unfold deadEnd
  split <;> simp

@[simp] theorem deadTimeEnd_sec (s : State) : (deadTimeEnd s).orl.sec = s.orl.sec := by
  simp [deadTimeEnd]

@[simp] theorem seqSourceLive_sec (s : State) : (seqSourceLive s).orl.sec = s.orl.sec := by
  unfold seqSourceLive
  split <;> simp

@[simp] theorem seqEnergyReady_sec (s : State) : (seqEnergyReady s).orl.sec = s.orl.sec := by
  unfold seqEnergyReady
  split <;> simp

@[simp] theorem holdEnd_sec (s : State) : (holdEnd s).orl.sec = s.orl.sec := by
  unfold holdEnd
  split <;> simp

@[simp] theorem seqDeparture_sec (s : State) : (seqDeparture s).orl.sec = s.orl.sec := by
  unfold seqDeparture
  split <;> simp

@[simp] theorem seqTagAccepted_sec (s : State) : (seqTagAccepted s).orl.sec = s.orl.sec := by
  unfold seqTagAccepted
  split <;> simp

@[simp] theorem seqPosition_sec (p : Position) (s : State) : (seqPosition p s).orl.sec = s.orl.sec := by
  unfold seqPosition
  (repeat' split) <;> simp

@[simp] theorem seqSelect_sec (g : Nat) (src : Src) (s : State) : (seqSelect g src s).orl.sec = s.orl.sec := by
  unfold seqSelect
  (repeat' split) <;> simp

@[simp] theorem takeEvent_sec (e : SeqEvent) (s : State) : (takeEvent e s).orl.sec = s.orl.sec := by
  unfold takeEvent
  split <;> simp

@[simp] theorem seqEvent_sec (e : SeqEvent) (s : State) : (seqEvent e s).orl.sec = s.orl.sec := by
  unfold seqEvent
  split <;> simp

@[simp] theorem mechFailCleared_sec (s : State) : (mechFailCleared s).1.orl.sec = s.orl.sec := by
  unfold mechFailCleared
  (repeat' split) <;> simp

/-! ### Machine/Protection.lean -/

@[simp] theorem captureFault_sec (s : State) : (captureFault s).orl.sec = s.orl.sec := by
  unfold captureFault
  split <;> rfl

@[simp] theorem requestTrip_sec (cause : Option Element) (s : State) : (requestTrip cause s).orl.sec = s.orl.sec := by
  unfold requestTrip
  split <;> simp

@[simp] theorem peuUpdate_sec (s : State) : (peuUpdate s).orl.sec = s.orl.sec := by
  simp only [peuUpdate]
  split <;> simp

@[simp] theorem applyWhenQuiet_sec (s : State) : (applyWhenQuiet s).orl.sec = s.orl.sec := by
  unfold applyWhenQuiet
  split <;> simp

@[simp] theorem sourceRecord_sec (old new : LineState) (s : State) : (sourceRecord old new s).orl.sec = s.orl.sec := by
  unfold sourceRecord
  split <;> simp

@[simp] theorem lineUpdate_sec (s : State) : (lineUpdate s).orl.sec = s.orl.sec := by
  simp only [lineUpdate]
  split <;> simp

@[simp] theorem magnitudeUpdate_sec (block : List SampleSet) (s : State) : (magnitudeUpdate block s).orl.sec = s.orl.sec := by
  simp [magnitudeUpdate]

/-! ### Machine/Tags.lean -/

@[simp] theorem acceptTag_sec (t : TagTable) (x : Tag) (s : State) : (acceptTag t x s).orl.sec = s.orl.sec := by
  simp [acceptTag]

@[simp] theorem placeTag_sec (a : Authority) (crew mode expiry : Nat) (s : State) :
    (placeTag a crew mode expiry s).1.orl.sec = s.orl.sec := by
  simp only [placeTag]
  (repeat' split) <;> simp

@[simp] theorem removeTag_sec (x : Tag) (c : RemovalCause) (a : Option Authority) (s : State) :
    (removeTag x c a s).orl.sec = s.orl.sec := by
  simp [removeTag]

@[simp] theorem tagRemove_sec (a : Authority) (number crew : Nat) (s : State) :
    (tagRemove a number crew s).1.orl.sec = s.orl.sec := by
  unfold tagRemove
  (repeat' split) <;> simp

@[simp] theorem tagClear_sec (a : Authority) (number : Nat) (s : State) : (tagClear a number s).1.orl.sec = s.orl.sec := by
  unfold tagClear
  (repeat' split) <;> simp

@[simp] theorem expireTags_sec (s : State) : (expireTags s).orl.sec = s.orl.sec := by
  unfold expireTags
  exact foldl_sec _ (fun _ _ => removeTag_sec _ _ _ _) _ _

@[simp] theorem tagMinute_sec (s : State) : (tagMinute s).orl.sec = s.orl.sec := by
  simp only [tagMinute]
  split <;> simp

/-! ### Machine/Battery.lean -/

@[simp] theorem goSilent_sec (s : State) : (goSilent s).orl.sec = s.orl.sec := by
  rfl

@[simp] theorem endLoaded_sec (outcome : TestOutcome) (r : TestReading) (s : State) :
    (endLoaded outcome r s).orl.sec = s.orl.sec := by
  simp [endLoaded]

@[simp] theorem endTestByLevel_sec (r : TestReading) (s : State) : (endTestByLevel r s).orl.sec = s.orl.sec := by
  unfold endTestByLevel
  split <;> simp

@[simp] theorem beginShutdown_sec (s : State) : (beginShutdown s).orl.sec = s.orl.sec := by
  unfold beginShutdown
  split <;> simp

@[simp] theorem changeLevel_sec (l : Level) (r : TestReading) (s : State) : (changeLevel l r s).orl.sec = s.orl.sec := by
  unfold changeLevel
  (repeat' split) <;> simp

@[simp] theorem measureCharge_sec (m : BattMeas) (s : State) : (measureCharge m s).orl.sec = s.orl.sec := by
  rfl

@[simp] theorem countMeasurement_sec (s : State) : (countMeasurement s).orl.sec = s.orl.sec := by
  simp only [countMeasurement]
  split <;> simp

@[simp] theorem gradeReserve_sec (r : TestReading) (s : State) : (gradeReserve r s).orl.sec = s.orl.sec := by
  simp only [gradeReserve]
  split <;> simp

@[simp] theorem battMeasure_sec (m : BattMeas) (r : TestReading) (s : State) : (battMeasure m r s).orl.sec = s.orl.sec := by
  simp [battMeasure]

@[simp] theorem scheduledTest_sec (s : State) : (scheduledTest s).orl.sec = s.orl.sec := by
  unfold scheduledTest
  split <;> rfl

@[simp] theorem bcuMinute_sec (s : State) : (bcuMinute s).orl.sec = s.orl.sec := by
  unfold bcuMinute
  (repeat' split) <;> simp

@[simp] theorem applyLoad_sec (r : TestReading) (s : State) : (applyLoad r s).orl.sec = s.orl.sec := by
  rfl

@[simp] theorem completeTest_sec (r : TestReading) (s : State) : (completeTest r s).orl.sec = s.orl.sec := by
  simp [completeTest]

@[simp] theorem cancelTest_sec (s : State) : (cancelTest s).orl.sec = s.orl.sec := by
  unfold cancelTest
  split <;> simp

/-! ### Machine/Records.lean -/

@[simp] theorem setTime_sec (t : Nat) (s : State) : (setTime t s).orl.sec = s.orl.sec := by
  rfl

@[simp] theorem beaconTime_sec (t : Nat) (s : State) : (beaconTime t s).orl.sec = s.orl.sec := by
  unfold beaconTime
  split <;> rfl

@[simp] theorem makeStatus_sec (s : State) : (makeStatus s).orl.sec = s.orl.sec := by
  unfold makeStatus
  split <;> rfl

@[simp] theorem statusRequest_sec (s : State) : (statusRequest s).orl.sec = s.orl.sec := by
  unfold statusRequest
  split <;> simp

@[simp] theorem rccMinute_sec (s : State) : (rccMinute s).orl.sec = s.orl.sec := by
  unfold rccMinute
  (repeat' split) <;> simp

@[simp] theorem minuteEvent_sec (s : State) : (minuteEvent s).orl.sec = s.orl.sec := by
  simp [minuteEvent]

@[simp] theorem formWear_sec (s : State) : (formWear s).orl.sec = s.orl.sec := by
  simp [formWear, Orl.form]

@[simp] theorem resetWear_sec (p : Phase) (s : State) : (resetWear p s).orl.sec = s.orl.sec := by
  cases p <;> simp [resetWear, Orl.resetPhase]

/-! ### Machine/Settings.lean -/

@[simp] theorem stageOpen_sec (kind number : Nat) (s : State) : (stageOpen kind number s).1.orl.sec = s.orl.sec := by
  unfold stageOpen
  split <;> rfl

@[simp] theorem stageLoad_sec (value : Int) (advance : Nat) (s : State) :
    (stageLoad value advance s).1.orl.sec = s.orl.sec := by
  unfold stageLoad
  (repeat' split) <;> simp

@[simp] theorem stageSeek_sec (field : Nat) (s : State) : (stageSeek field s).1.orl.sec = s.orl.sec := by
  unfold stageSeek
  (repeat' split) <;> simp

@[simp] theorem beginCommit_sec (s : State) : (beginCommit s).orl.sec = s.orl.sec := by
  unfold beginCommit
  split <;> rfl

@[simp] theorem stationChanged_sec (id : Nat) (s : State) : (stationChanged id s).orl.sec = s.orl.sec := by
  rfl

@[simp] theorem rescaleCharge_sec (capacity : Nat) (s : State) : (rescaleCharge capacity s).orl.sec = s.orl.sec := by
  simp [rescaleCharge]

@[simp] theorem globalEffects_sec (old new : Page) (s : State) : (globalEffects old new s).orl.sec = s.orl.sec := by
  simp only [globalEffects]
  (repeat' split) <;> simp

@[simp] theorem replaceWorking_sec (t : Target) (p : Page) (s : State) : (replaceWorking t p s).orl.sec = s.orl.sec := by
  unfold replaceWorking
  (repeat' split) <;> simp

@[simp] theorem releaseSelections_sec (t : Target) (waiting : List Src) (s : State) :
    (releaseSelections t waiting s).orl.sec = s.orl.sec := by
  unfold releaseSelections
  split
  · exact foldl_sec _ (fun _ _ => by simp) _ _
  · rfl

@[simp] theorem completeCommit_sec (b : StageBuf) (reply : Bool) (s : State) :
    (completeCommit b reply s).orl.sec = s.orl.sec := by
  unfold completeCommit
  split <;> simp

@[simp] theorem selectGroup_sec (g : Nat) (src : Src) (s : State) : (selectGroup g src s).orl.sec = s.orl.sec := by
  unfold selectGroup
  (repeat' split) <;> simp

@[simp] theorem completeWrite_sec (i : RetItem) (s : State) : (completeWrite i s).orl.sec = s.orl.sec := by
  rfl

/-! ### Machine/Radio.lean -/

@[simp] theorem refuseCommand_sec (id : Nat) (r : Res) (s : State) : (refuseCommand id r s).orl.sec = s.orl.sec := by
  rfl

@[simp] theorem repeatCommand_sec (id : Nat) (s : State) : (repeatCommand id s).orl.sec = s.orl.sec := by
  unfold repeatCommand
  split <;> rfl

@[simp] theorem ownCommand_sec (c : RadioCmd) (s : State) : (ownCommand c s).orl.sec = s.orl.sec := by
  unfold ownCommand
  split <;> simp

@[simp] theorem executeCommand_sec (c : RadioCmd) (s : State) : (executeCommand c s).orl.sec = s.orl.sec := by
  simp [executeCommand]

@[simp] theorem takeCommand_sec (c : RadioCmd) (s : State) : (takeCommand c s).orl.sec = s.orl.sec := by
  unfold takeCommand
  (repeat' split) <;> simp

@[simp] theorem takeCommands_sec (cmds : List RadioCmd) (s : State) : (takeCommands cmds s).orl.sec = s.orl.sec := by
  unfold takeCommands
  split <;> simp

@[simp] theorem takeBeacon_sec (b : Beacon) (s : State) : (takeBeacon b s).orl.sec = s.orl.sec := by
  simp [takeBeacon]

@[simp] theorem sendReport_sec (e : Entry) (s : State) : (sendReport e s).orl.sec = s.orl.sec := by
  rfl

@[simp] theorem slotPacket_sec (s : State) : (slotPacket s).orl.sec = s.orl.sec := by
  unfold slotPacket
  (repeat' split) <;> simp

@[simp] theorem useSlot_sec (carrier : Bool) (s : State) : (useSlot carrier s).orl.sec = s.orl.sec := by
  unfold useSlot
  split <;> simp

@[simp] theorem takeSlot_sec (carrier : Bool) (s : State) : (takeSlot carrier s).orl.sec = s.orl.sec := by
  simp only [takeSlot]
  split <;> simp

/-! ### Machine/HostLink.lean -/

@[simp] theorem serveMechFailClear_sec (a : Authority) (s : State) : (serveMechFailClear a s).orl.sec = s.orl.sec := by
  unfold serveMechFailClear
  split <;> simp

@[simp] theorem serveTagPlace_sec (a : Authority) (crew mode expiry : Nat) (s : State) :
    (serveTagPlace a crew mode expiry s).orl.sec = s.orl.sec := by
  simp [serveTagPlace]

@[simp] theorem serveWearReset_sec (a : Authority) (phase : Nat) (s : State) :
    (serveWearReset a phase s).orl.sec = s.orl.sec := by
  unfold serveWearReset
  (repeat' split) <;> simp

@[simp] theorem serveTestStart_sec (s : State) : (serveTestStart s).orl.sec = s.orl.sec := by
  unfold serveTestStart
  split <;> rfl

@[simp] theorem serveCommit_sec (s : State) : (serveCommit s).orl.sec = s.orl.sec := by
  unfold serveCommit
  split <;> simp

@[simp] theorem serveRestart_sec (s : State) : (serveRestart s).orl.sec = s.orl.sec := by
  unfold serveRestart
  split <;> rfl

@[simp] theorem serveReadState_sec (sect start : Nat) (s : State) : (serveReadState sect start s).orl.sec = s.orl.sec := by
  unfold serveReadState
  split <;> rfl

@[simp] theorem serve_sec (a : Authority) (r : Request) (s : State) : (serve a r s).orl.sec = s.orl.sec := by
  unfold serve
  split <;> simp

@[simp] theorem serveNext_sec (s : State) : (serveNext s).orl.sec = s.orl.sec := by
  unfold serveNext
  split <;> simp

@[simp] theorem pumpFor_sec (n : Nat) (s : State) : (pumpFor n s).orl.sec = s.orl.sec := by
  induction n generalizing s with
  | zero => rfl
  | succ n ih =>
    unfold pumpFor
    split
    · simpa using ih (serveNext s)
    · rfl

@[simp] theorem pump_sec (s : State) : (pump s).orl.sec = s.orl.sec := by
  simp [pump]

@[simp] theorem queueFrame_sec (f : RxFrame) (s : State) : (queueFrame f s).orl.sec = s.orl.sec := by
  unfold queueFrame
  (repeat' split) <;> simp

@[simp] theorem receive_sec (f : RxFrame) (s : State) : (receive f s).orl.sec = s.orl.sec := by
  unfold receive
  split <;> simp

@[simp] theorem receiveBytes_sec (n : Nat) (bs : Bytes) (s : State) : (receiveBytes n bs s).orl.sec = s.orl.sec := by
  induction n generalizing bs s with
  | zero => rfl
  | succ n ih =>
    unfold receiveBytes
    split
    · exact ih _ s
    · rfl
    · rename_i f rest _
      simpa using ih rest (receive f s)

@[simp] theorem feed_sec (bytes : Bytes) (s : State) : (feed bytes s).orl.sec = s.orl.sec := by
  unfold feed
  split <;> simp

/-! ### Machine/Starts.lean -/

@[simp] theorem decideStart_sec (p : Position) (s : State) : (decideStart p s).orl.sec = s.orl.sec := by
  simp [decideStart]

@[simp] theorem release_sec (x : Held) (s : State) : (release x s).orl.sec = s.orl.sec := by
  unfold release
  split <;> simp

@[simp] theorem announceStart_sec (k : StartKind) (s : State) : (announceStart k s).orl.sec = s.orl.sec := by
  simp only [announceStart]
  rw [foldl_sec _ (fun t x => release_sec x t)]
  simp

@[simp] theorem takeHeldEvents_sec (s : State) : (takeHeldEvents s).orl.sec = s.orl.sec := by
  unfold takeHeldEvents
  exact foldl_sec _ (fun t x => takeEvent_sec x t) _ _

@[simp] theorem startReading_sec (k : StartKind) (p : Position) (s : State) : (startReading k p s).orl.sec = s.orl.sec := by
  simp [startReading]

@[simp] theorem endByPosition_sec (p : Position) (fin : PulseEnd) (s : State) :
    (endByPosition p fin s).orl.sec = s.orl.sec := by
  unfold endByPosition
  split <;> simp

@[simp] theorem changePosition_sec (p : Position) (fin : PulseEnd) (s : State) :
    (changePosition p fin s).orl.sec = s.orl.sec := by
  simp [changePosition]

@[simp] theorem takePosition_sec (p : Position) (fin : PulseEnd) (s : State) : (takePosition p fin s).orl.sec = s.orl.sec := by
  unfold takePosition
  (repeat' split) <;> simp

@[simp] theorem contactRead_sec (c : Contact) (x : ContactState) (ms : Nat) (fin : PulseEnd) (s : State) :
    (contactRead c x ms fin s).orl.sec = s.orl.sec := by
  simp only [contactRead]
  split <;> simp

@[simp] theorem releaseHeld_sec (s : State) : (releaseHeld s).orl.sec = s.orl.sec := by
  unfold releaseHeld
  split <;> rfl

@[simp] theorem endSpent_sec (volts : Nat) (s : State) : (endSpent volts s).orl.sec = s.orl.sec := by
  unfold endSpent
  split <;> simp

@[simp] theorem rechargeReview_sec (before : Bool) (s : State) : (rechargeReview before s).orl.sec = s.orl.sec := by
  unfold rechargeReview
  (repeat' split) <;> simp

@[simp] theorem measureCap_sec (volts : Nat) (s : State) : (measureCap volts s).orl.sec = s.orl.sec := by
  simp only [measureCap]
  split <;> simp

@[simp] theorem loseSupply_sec (s : State) : (loseSupply s).orl.sec = s.orl.sec := by
  rfl

@[simp] theorem runOutPulse_sec (s : State) : (runOutPulse s).orl.sec = s.orl.sec := by
  unfold runOutPulse
  split <;> simp

@[simp] theorem tick_sec (s : State) : (tick s).orl.sec = s.orl.sec := by
  unfold tick
  split <;> rfl

/-! ### The time base and the starts -/

@[simp] theorem advanceTime_sec (n : Nat) (s : State) : (advanceTime n s).orl.sec = s.orl.sec := rfl

@[simp] theorem completeMinute_sec (s : State) : (completeMinute s).orl.sec = 0 := by
  simp [completeMinute]

theorem runSecond_sec (s : State) (h : s.orl.sec ≤ 59) : (runSecond s).orl.sec ≤ 59 := by
  simp only [runSecond]
  split <;> simp
  omega

@[simp] theorem startBlocks_sec (k : StartKind) (inp : StartInputs) (s : State) : (startBlocks k inp s).orl.sec = 0 := by
  cases k <;> simp [startBlocks, startOrl]

@[simp] theorem holdUpEnd_sec (s : State) : (holdUpEnd s).orl.sec = 0 := rfl

@[simp] theorem coldStart_sec (land : Bool) (s : State) : (coldStart land s).orl.sec = 0 := rfl

@[simp] theorem warmStart_sec (s : State) : (warmStart s).orl.sec = 0 := rfl

@[simp] theorem stopPart_sec (s : State) : (stopPart s).orl.sec = 0 := rfl

end Sys2Proof.Machine
end

