-- ==== Sys2Proof/Laws/Specs.lean ====
section
/-! SUPPORT. What the shared operations do, said once: writes, records, replies, elements, the outbox. -/

namespace Sys2Proof.Machine

/-! ### Lists -/

theorem lastN_length_le {α : Type} (n : Nat) (l : List α) : (lastN n l).length ≤ n := by
  simp only [lastN, List.length_drop]
  omega

theorem lastN_getLast? {α : Type} (n : Nat) (l : List α) (x : α) (hn : 0 < n) : (lastN n (l ++ [x])).getLast? = some x := by
  have h : ¬ (l ++ [x]).length ≤ (l ++ [x]).length - n := by simp only [List.length_append, List.length_singleton]; omega
  rw [lastN, List.getLast?_drop, if_neg h, List.getLast?_concat]

/-! ### Retained writes (spec/09 R178) -/

theorem mem_insertWrite_self (x : RetItem) (l : List RetItem) : x ∈ insertWrite x l := by
  induction l with
  | nil => simp [insertWrite]
  | cons y rest ih => rw [insertWrite]; split_ifs <;> simp [ih]

theorem mem_insertWrite (x y : RetItem) (l : List RetItem) (h : y ∈ insertWrite x l) : y = x ∨ y ∈ l := by
  induction l with
  | nil => simpa [insertWrite] using h
  | cons z rest ih =>
    rw [insertWrite] at h
    split_ifs at h
    · simpa using h
    · rcases List.mem_cons.1 h with h | h <;> simp [h]
    · rcases List.mem_cons.1 h with h | h
      · simp [h]
      · rcases ih h with h | h <;> simp [h]

/-- Starting a write loses no item. -/
theorem kick_queued (x : Sst) (i : RetItem) :
    (x.kick.inFlight = some i ∨ i ∈ x.kick.queue) ↔ (x.inFlight = some i ∨ i ∈ x.queue) := by
  unfold Sst.kick
  split_ifs with h
  · exact Iff.rfl
  · have hf : x.inFlight = none := by
      cases hx : x.inFlight with
      | none => rfl
      | some j => simp [hx] at h
    split
    · exact Iff.rfl
    · rename_i hq
      simp [hf, hq, eq_comm]

theorem queueWrite_queued (i : RetItem) (s : State) : writeQueued i (queueWrite i s) :=
  (kick_queued _ i).2 (Or.inr (mem_insertWrite_self i s.sst.queue))

theorem insertWrite_head (x : RetItem) (l : List RetItem) (n : Nat) (hx : n < x.item) (h : ∀ y ∈ l, n < y.item) :
    ∀ y ∈ insertWrite x l, n < y.item := fun y hy => by
  rcases mem_insertWrite x y l hy with rfl | hy
  · exact hx
  · exact h y hy

/-- A queued write keeps the queue in item order, one write per item. -/
theorem insertWrite_sorted (x : RetItem) (l : List RetItem) (h : l.Pairwise fun i j => i.item < j.item) :
    (insertWrite x l).Pairwise fun i j => i.item < j.item := by
  induction l with
  | nil => simp [insertWrite]
  | cons y rest ih =>
    obtain ⟨hy, hr⟩ := List.pairwise_cons.1 h
    rw [insertWrite]
    split_ifs with h1 h2
    · refine List.pairwise_cons.2 ⟨fun z hz => ?_, h⟩
      rcases List.mem_cons.1 hz with rfl | hz
      · exact h1
      · exact lt_trans h1 (hy z hz)
    · exact List.pairwise_cons.2 ⟨fun z hz => by rw [h2]; exact hy z hz, hr⟩
    · exact List.pairwise_cons.2 ⟨insertWrite_head x rest y.item (by omega) hy, ih hr⟩

/-- After a loss of supply no write starts (R179). -/
theorem kick_lost (x : Sst) (h : x.lost = true) : x.kick = x := by
  simp [Sst.kick, h]

/-- What a start of the next write leaves alone. -/
@[simp] theorem kick_keeps (x : Sst) :
    x.kick.store = x.store ∧ x.kick.staging = x.staging ∧ x.kick.lost = x.lost ∧ x.kick.held = x.held ∧ x.kick.waiting = x.waiting := by
  unfold Sst.kick
  split_ifs
  · simp
  · split <;> simp

theorem kick_writesSound (x : Sst) (h1 : x.queue.Pairwise fun i j => i.item < j.item)
    (h2 : ∀ b reply, x.staging = .committing b reply true → x.inFlight = none) : x.kick.writesSound := by
  unfold Sst.kick
  split_ifs with h
  · refine ⟨h1, fun hf => ?_, h2⟩
    simpa [hf] using Or.inr h
  · cases hq : x.queue with
    | nil => exact ⟨by simp [hq], fun _ => Or.inl hq, h2⟩
    | cons i rest =>
      refine ⟨(List.pairwise_cons.1 (hq ▸ h1)).2, by simp, fun b reply hb => ?_⟩
      have hs : x.staging = .committing b reply true := hb
      simp [hs, Staging.isCommitting] at h

/-- A handed write keeps the queue sound. -/
theorem queueWrite_writesSound (i : RetItem) (s : State) (h : s.sst.writesSound) : (queueWrite i s).sst.writesSound :=
  kick_writesSound _ (insertWrite_sorted i _ h.1) h.2.2

/-! ### Records (spec/07 R136) -/

/-- A record number is followed by one in range (R134, log 16). -/
theorem recordAfter_real (n : Nat) (h : 1 ≤ n) : realNumber (recordAfter n) := by
  unfold recordAfter realNumber numberTop
  split_ifs with hn
  · omega
  · have := Nat.mod_lt Config.recordNumberAfterTop (show 0 < 4294967295 by decide)
    omega

theorem recordAfter_below (n : Nat) (h : n < 4294967295) : recordAfter n = n + 1 := if_pos h

theorem enterRecord_ring (r : Record) (s : State) : (enterRecord r s).orl.ring = lastN 64 (s.orl.ring ++ [r]) := by
  simp [enterRecord, addToRing, ringTop]

theorem enterRecord_next (r : Record) (s : State) : (enterRecord r s).orl.next = recordAfter s.orl.next := by
  simp [enterRecord, addToRing]

theorem completeNow_ring (body : RecBody) (s : State) : (completeNow body s).orl.ring = lastN 64 (s.orl.ring ++ [stamp body s]) :=
  enterRecord_ring (stamp body s) s

theorem completeNow_recorded (body : RecBody) (s : State) : recorded body s (completeNow body s) := by
  rw [recorded, completeNow_ring]
  exact lastN_getLast? 64 _ _ (by decide)

/-! ### Paged lists (spec/10 R186, R191) -/

theorem pageEntry_closed (room : Nat) (l : List Bytes) (b : Bytes) : (l.foldl (pageEntry room) (b, false)).1 = b := by
  induction l with
  | nil => rfl
  | cons e rest ih => simpa [pageEntry] using ih

theorem pageEntry_fills (l : List Bytes) : ∀ (room : Nat) (b : Bytes), b.length ≤ room →
    ∃ k, fillsPage (room - b.length) l k ∧ (l.foldl (pageEntry room) (b, true)).1 = b ++ (l.take k).flatten := by
  induction l with
  | nil => exact fun room b _ => ⟨0, by simp [fillsPage], by simp⟩
  | cons e rest ih =>
    intro room b hb
    by_cases he : b.length + e.length ≤ room
    · obtain ⟨k, ⟨h1, h2, h3⟩, h4⟩ := ih room (b ++ e) (by simpa using he)
      rw [List.length_append] at h2 h3
      refine ⟨k + 1, ⟨by simpa using h1, ?_, fun hk => ?_⟩, ?_⟩
      · simp only [List.take_succ_cons, List.flatten_cons, List.length_append]
        omega
      · have := h3 (by simpa using hk)
        simp only [List.take_succ_cons, List.flatten_cons, List.length_append]
        omega
      · have hp : pageEntry room (b, true) e = (b ++ e, true) := by simp [pageEntry, he]
        rw [List.foldl_cons, hp, h4]
        simp
    · have hp : pageEntry room (b, true) e = (b, false) := by simp [pageEntry, he]
      refine ⟨0, ⟨by simp, by simp, fun _ => ?_⟩, ?_⟩
      · simp only [Nat.zero_add, List.take_succ_cons, List.take_zero, List.flatten_cons, List.flatten_nil, List.append_nil]
        omega
      · rw [List.foldl_cons, hp, pageEntry_closed]
        simp

/-- A paged list is its total, the start index, and the most whole entries from there on that fit. -/
theorem pagedList_fills (used start : Nat) (entries : List Bytes) :
    ∃ k, fillsPage (94 - used) (entries.drop start) k ∧
      pagedList used start entries = be1 entries.length ++ be1 start ++ ((entries.drop start).take k).flatten := by
  obtain ⟨k, h1, h2⟩ := pageEntry_fills (entries.drop start) (96 - used - 2) [] (Nat.zero_le _)
  refine ⟨k, by simpa [Nat.sub_sub, Nat.add_comm, show 96 - (used + 2) = 94 - used by omega] using h1, ?_⟩
  exact congrArg (be1 entries.length ++ be1 start ++ ·) h2

/-! ### Replies (spec/10 R184) -/

theorem hostReply_answered (res : Res) (body : Bytes) (s : State) (f : RxFrame) (h : s.hlc.current = some f) :
    (hostReply res body s).answered f.kind f.tag res body := by
  simp [State.answered, hostReply, h, replyFrame]

/-! ### Elements (spec/02 R34, R35) -/

@[simp] theorem Elems.get_build (f : Element → Elem) (e : Element) : (Elems.build f).get e = f e := by
  cases e <;> rfl

@[simp] theorem clearElements_get (s : State) (e : Element) :
    (clearElements s).peu.elems.get e = (s.peu.elems.get e).clear := Elems.get_build _ e

@[simp] theorem applyToElements_get (s : State) (e : Element) :
    (applyToElements s).peu.elems.get e = (s.peu.elems.get e).apply := Elems.get_build _ e

theorem clearElements_cleared (s : State) : cleared s (clearElements s) := by
  intro e
  rw [clearElements_get, Elem.clear]
  split_ifs <;> rfl

/-! ### The outbox (spec/08 R152, R153, R156) -/

theorem insertEntry_length (x : Entry) (l : List Entry) : (insertEntry x l).length = l.length + 1 := by
  induction l with
  | nil => rfl
  | cons y rest ih => rw [insertEntry]; split_ifs <;> simp [ih]

theorem eraseLast_length_le (p : Entry → Bool) (l : List Entry) : (eraseLast p l).length ≤ l.length := by
  simpa [eraseLast] using List.length_eraseP_le (p := p) (l := l.reverse)

theorem mem_of_mem_eraseLast (p : Entry → Bool) (l : List Entry) (e : Entry) (h : e ∈ eraseLast p l) : e ∈ l := by
  have h' : e ∈ l.reverse.eraseP p := by simpa [eraseLast] using h
  simpa using List.mem_of_mem_eraseP h'

/-- After a return no entry awaits an answer. -/
theorem returnAwait_none_awaits (t : Bool) (l : List Entry) (e : Entry) (h : e ∈ returnAwait t l) : e.await = false := by
  have hb (tries : Entry → Nat) : ∀ x ∈ l.map (fun e => if e.await then { e with await := false, tries := tries e } else e),
      x.await = false := by
    intro x hx
    obtain ⟨y, -, rfl⟩ := List.mem_map.1 hx
    cases hy : y.await <;> simp [hy]
  rw [returnAwait] at h
  by_cases hs : (l.any (fun e => e.await && e.cls == .status) && decide (1 < (l.map (fun e =>
      if e.await then { e with await := false, tries := if t then min 4 (e.tries + 1) else e.tries } else e)).countP
        (fun e => e.cls == .status))) = true
  · exact hb _ e (mem_of_mem_eraseLast _ _ _ (by rwa [if_pos hs] at h))
  · exact hb _ e (by rwa [if_neg hs] at h)

/-! ### The frame timing (spec/08 R150, R152) -/

/-- The end of slot 0 of a frame with a beacon moves the timing and its marks alone. -/
theorem Rcc.endSlotZero_seen (r : Rcc) (h : r.beaconSeen = true) :
    r.endSlotZero = { r with frameMs := some (if r.missTested then 500 else max 500 (r.frameMs.getD 0)), missTested := true,
                             beaconSeen := false } := if_pos h

/-- Without a beacon it is a beacon miss, after which no entry awaits an answer. -/
theorem Rcc.endSlotZero_missed (r : Rcc) (h : r.beaconSeen = false) :
    r.endSlotZero.missCount = min 4 (r.missCount + 1) ∧ r.endSlotZero.outbox = returnAwait false r.outbox ∧
    r.endSlotZero.slotTaken = false := by
  simp [Rcc.endSlotZero, Rcc.miss, h]

theorem Rcc.endSlotZero_tested (r : Rcc) : r.endSlotZero.missTested = true := by
  unfold Rcc.endSlotZero
  dsimp only
  split_ifs <;> rfl

/-- Before its slot a station whose slot 0 has been tested waits for nothing. -/
theorem Rcc.toOwnSlot_ready (station : Nat) (r : Rcc) (h : r.missTested = true) (hn : ∀ n ∈ r.frameMs, n ≤ 500 * station) :
    r.toOwnSlot station = r := by
  unfold Rcc.toOwnSlot
  cases hf : r.frameMs with
  | none => simp [h, hf]
  | some n =>
    have := hn n (by simp [hf])
    simp [h, hf, this]

/-! ### Starts and losses (spec/09 R179, R180) -/

/-- A cold start that no loss of supply precedes drops a pulse with the running state (log 45). -/
theorem coldStart_without_loss (land : Bool) (s : State) (h : s.sst.lost = false) : coldStart land s = beginCold land s := by
  simp [coldStart, h]

theorem coldStart_after_a_loss (land : Bool) (s : State) (h : s.sst.lost = true) :
    coldStart land s = beginCold land (runOutPulse s) := by simp [coldStart, h]

@[simp] theorem runOutPulse_keeps (s : State) :
    (runOutPulse s).stage = s.stage ∧ (runOutPulse s).restarting = s.restarting ∧ (runOutPulse s).lsu = s.lsu ∧
    (runOutPulse s).tag = s.tag ∧ (runOutPulse s).pending = s.pending := by
  unfold runOutPulse
  split <;> simp

/-! ### A trip pulse at its 120 ms (spec/04 R74) -/

theorem Act.spent_iff (a : Act) : a.spent = true ↔ a.state = .tripPulse ∧ a.pulseMs = some 120 := by
  simp [Act.spent, tripPulseMs]

theorem endSpent_of_spent (volts : Nat) (s : State) (h : s.act.spent = true) :
    endSpent volts s = endTrip .noMove 120 ⟨volts, true⟩ s := if_pos h

theorem endSpent_of_not_spent (volts : Nat) (s : State) (h : s.act.spent = false) : endSpent volts s = s := by
  simp [endSpent, h]

@[simp] theorem endSpent_keeps (volts : Nat) (s : State) :
    (endSpent volts s).stage = s.stage ∧ (endSpent volts s).restarting = s.restarting ∧ (endSpent volts s).lsu = s.lsu ∧
    (endSpent volts s).tag = s.tag ∧ (endSpent volts s).pending = s.pending := by
  unfold endSpent
  split <;> simp

/-- The trip coil is driven in a trip pulse that is not spent. -/
theorem State.tripDrive_iff (s : State) : s.tripDrive = true ↔ s.act.state = .tripPulse ∧ s.act.spent = false := by
  simp [State.tripDrive]

/-! ### The load test's suspension (spec/06 R129) -/

/-- A suspension leaves the battery without the test load, whatever the test was doing. -/
theorem Bcu.suspend_not_loaded (b : Bcu) : b.suspend.test ≠ .loaded := by
  unfold Bcu.suspend
  cases h : b.test <;> simp [TestState.inProgress, h]

/-- A test in progress stands SUSPENDED after a suspension, with its load time kept. -/
theorem Bcu.suspend_inProgress (b : Bcu) (h : b.test.inProgress = true) :
    b.suspend.test = .suspended ∧ b.suspend.suspMs = 0 ∧ b.suspend.loadMs = b.loadMs := by
  simp [Bcu.suspend, h]

/-- A fresh attempt is handed to ACT with the test load off. -/
theorem tripAttempt_fresh (r : TripReq) (s : State) (h : s.seq.trip = none) :
    ∃ x, tripAttempt r s = actTrip x ∧ x.testLoadDrive = false ∧ x.seq = { s.seq with trip := some [r] } ∧ x.act = s.act := by
  refine ⟨{ s with seq := { s.seq with trip := some [r] }, bcu := s.bcu.suspend }, by simp [tripAttempt, h], ?_, rfl, rfl⟩
  simpa [State.testLoadDrive] using Bcu.suspend_not_loaded s.bcu

/-! ### The charger (spec/06 R112) -/

/-- The charger's output is on exactly in BULK, ABSORB and FLOAT. -/
theorem State.chargerDrive_iff (s : State) : s.chargerDrive = true ↔ s.bcu.charger ∈ [Charger.bulk, .absorb, .float] := by
  unfold State.chargerDrive State.chargerOutput
  cases s.bcu.charger <;> simp

end Sys2Proof.Machine
end

