-- ==== Sys2Proof/Tests/Slice0.lean ====
section
/-! SUPPORT. Tests on small states. Expected values come from the worked examples and tables of spec/; each test's comment names
them. The witnesses named witness_… meet the premises of the obligation their name ends in. -/

namespace Sys2Proof.Tests

open Sys2Proof.Machine

set_option Elab.async false

/-! ### Helpers -/

/-- The next state of a result, reset where there is none. -/
def after (r : Result) : State :=
  match r with
  | .next s => s
  | .fault _ => State.reset
  | .refused _ => State.reset

/-- The state a command is followed by. -/
def run (c : Instr) (s : State) : State := after (exec c s)

/-- A running part: breaker closed, SEQ CLOSED, capacitor at 300 V, reserve NORMAL, supply present. -/
def base : State :=
  { State.blank .running .delivered true 300 0 [] with
    seq := { Seq.undecided with state := .closed, cause := none, decided := true }
    act := { Act.idle 300 0 with position := .closed, startRead := true, converter := .off,
                                 openC := ⟨some .notMade, 4, some .notMade⟩, closedC := ⟨some .made, 4, some .made⟩ }
    bcu := { Bcu.idle true with level := .normal, soc := 90, charge := 55080000, charger := .float, meas := ⟨27300, 90, 25, true⟩ } }

/-- The same part in LOCKOUT with the breaker open. -/
def locked : State :=
  { base with seq := { base.seq with state := .lockout, cause := some .shots, shots := 3 }
              act := { base.act with position := .isOpen, openC := ⟨some .made, 4, some .made⟩, closedC := ⟨some .notMade, 4, some .notMade⟩ } }

/-- A trip of PF in flight with its pulse running for 44 ms. -/
def tripping : State :=
  { base with seq := { base.seq with state := .tripping, trip := some [.element .pf] }
              act := { base.act with state := .tripPulse, pulseMs := some 44, before := some 300, converter := .paused,
                                     position := .unknown, closedC := ⟨some .notMade, 4, some .notMade⟩ } }

/-- At the end of the dead time after the first trip, the source side live. -/
def deadEnded : State :=
  { locked with seq := { locked.seq with state := .deadTime, cause := none, shots := 1, deadNo := some 1, deadLeft := some 0 }
                lsu := { locked.lsu with source := ⟨.live, 50, 0⟩ } }

/-- An automatic close with its pulse running for 35 ms. -/
def reclosing : State :=
  { deadEnded with seq := { deadEnded.seq with state := .reclosing, deadNo := none, deadLeft := none }
                   act := { deadEnded.act with state := .closePulse, pulseMs := some 35, before := some 305, origin := some .auto,
                                               converter := .paused, position := .unknown,
                                               openC := ⟨some .notMade, 4, some .notMade⟩ } }

/-- A load test with its load applied, from a baseline of 26,000 mV and 90 mA. -/
def loaded : State :=
  { base with bcu := { base.bcu with test := .loaded, charger := .test, baseline := some ⟨26000, 90⟩, origin := some .request } }

/-- Sixteen times one sample set. -/
def blockOf (x : SampleSet) : List SampleSet := List.replicate 16 x

/-- Sixteen sets of no signal. -/
def quietBlock : List SampleSet := blockOf ⟨0, 0, 0, 0, 0, 0⟩

/-- An LSU whose window is full of one set. -/
def fullLsu (x : SampleSet) : Lsu := { Lsu.start deliveredGlobal with window := List.replicate 160 x, fill := 160 }

/-- The pulse ends with the capacitor at 250 V, ACT's part first. -/
def fin250 : PulseEnd := ⟨250, true⟩

/-! ### The terms WellFormed refuses -/

theorem test_refuses_short_update : (Instr.magnitudeUpdate []).wellFormed = false := by decide
theorem test_refuses_long_update : (Instr.magnitudeUpdate (List.replicate 17 ⟨0, 0, 0, 0, 0, 0⟩)).wellFormed = false := by decide
theorem test_refuses_short_live : (Instr.liveQualified .source []).wellFormed = false := by decide
theorem test_refuses_short_dead : (Instr.deadQualified .load []).wellFormed = false := by decide
theorem test_refuses_short_operate : (Instr.elementOperate []).wellFormed = false := by decide
theorem test_refuses_no_contact_time : (Instr.contactDebounced .openContact .made 0 ⟨300, true⟩).wellFormed = false := by decide
theorem test_refuses_no_key_time : (Instr.keySwitchDebounced .loc 0).wellFormed = false := by decide
theorem test_refuses_empty_packet : (Instr.radioPacketReceived []).wellFormed = false := by decide
theorem test_refuses_empty_frame : (Instr.hostFrameReceived []).wellFormed = false := by decide
theorem test_accepts_update : (Instr.magnitudeUpdate quietBlock).wellFormed = true := by decide
theorem test_short_update_faults : exec (.magnitudeUpdate []) base = .fault .blockLength := rfl
theorem test_no_word_spells_a_command : decodeTableWord 16 0x1234 = none := by decide

/-! ### Line sensing (spec/01 section 1.7) -/

/-- Section 1.7.1: 159 samples of 300 and one of 500 give 301. -/
theorem test_rms_of_one_window : rms 160 (List.replicate 159 300 ++ [500]) = 301 := by decide +kernel

/-- R3: the largest mean square, of 60,000 V throughout. -/
theorem test_rms_largest : rms 160 (List.replicate 160 (-60000)) = 60000 := by decide +kernel

/-- Section 1.7.1: a sample of 28,000 in the window reads 20,000 with the flag set. -/
theorem test_saturated_window_reads_ceiling :
    let m := (run (.magnitudeUpdate (⟨99999, 0, 0, 0, 0, 0⟩ :: List.replicate 15 ⟨300, 0, 0, 0, 0, 0⟩))
      { base with lsu := fullLsu ⟨300, 0, 0, 0, 0, 0⟩ }).lsu.meas
    m.a = 20000 ∧ m.satA = true ∧ m.b = 0 ∧ m.satB = false := by decide +kernel

/-- R5: a saturated voltage window is clamped to 40,000, not forced. -/
theorem test_voltage_ceiling :
    let m := (run (.magnitudeUpdate (blockOf ⟨0, 0, 0, 0, 60000, 500⟩)) { base with lsu := fullLsu ⟨0, 0, 0, 0, 60000, 500⟩ }).lsu.meas
    m.vs = 40000 ∧ m.satVs = true ∧ m.vl = 500 ∧ m.satVl = false := by decide +kernel

/-- Section 1.7.3: at update u + 39 the dead run reaches 30 and SOURCE_LOST is recorded. -/
theorem test_source_lost :
    let s := run (.deadQualified .source quietBlock)
      { base with lsu := { fullLsu ⟨0, 0, 0, 0, 0, 0⟩ with source := ⟨.live, 0, 29⟩ } }
    s.lsu.source = ⟨.dead, 0, 30⟩ ∧ s.orl.ring.map (·.body) = [.sourceLost] := by decide +kernel

/-- Section 1.7.4: at update v + 54 the live run reaches 50 and SOURCE_RESTORED is recorded. -/
theorem test_source_restored :
    let s := run (.liveQualified .source (blockOf ⟨0, 0, 0, 0, 11000, 0⟩))
      { base with lsu := { fullLsu ⟨0, 0, 0, 0, 11000, 0⟩ with source := ⟨.dead, 49, 0⟩ } }
    s.lsu.source = ⟨.live, 50, 0⟩ ∧ s.orl.ring.map (·.body) = [.sourceRestored] := by decide +kernel

/-- R11: 6,350 V with the default thresholds gives 4,445 V and 1,905 V. -/
theorem test_thresholds : liveVoltage (deliveredGlobal.set 1 6350) = 4445 ∧ deadVoltage (deliveredGlobal.set 1 6350) = 1905 := by
  decide

theorem witness_UpdateFormsMagnitudes : (fullLsu ⟨0, 0, 0, 0, 0, 0⟩).fillsNow ∧ (fullLsu ⟨0, 0, 0, 0, 0, 0⟩).sound ∧
    (fullLsu ⟨0, 0, 0, 0, 0, 0⟩).deadV < (fullLsu ⟨0, 0, 0, 0, 0, 0⟩).liveV ∧ base.stage.started = true := by
  refine ⟨by decide +kernel, ⟨Or.inl rfl, by decide +kernel, by decide +kernel, fun x hx => ?_, by decide, by decide⟩, by decide, rfl⟩
  obtain rfl := List.eq_of_mem_replicate hx
  decide

theorem witness_UpdateFormsMagnitudes_filling : ¬ base.lsu.fillsNow ∧ base.lsu.sound := by
  exact ⟨by decide, Or.inl rfl, rfl, by decide, fun x hx => absurd hx (List.not_mem_nil), by decide, by decide⟩

/-- The premises of SideQualifies at a LIVE and at a DEAD side. -/
theorem witness_SideQualifies :
    let l := { fullLsu ⟨0, 0, 0, 0, 11000, 0⟩ with source := ⟨.dead, 49, 0⟩, load := ⟨.live, 0, 29⟩ }
    l.liveV ≤ (l.push (blockOf ⟨0, 0, 0, 0, 11000, 0⟩)).meas.volts .source ∧
    (l.push (blockOf ⟨0, 0, 0, 0, 11000, 0⟩)).meas.volts .load < l.deadV := by decide +kernel

theorem witness_SideQualifies_records : base.runs ∧ base.seq.pendingGroup = none ∧ base.sst.held = none ∧
    (peuInputs { base with lsu := base.lsu.push quietBlock }).cause base.peu = none ∧
    (peuInputs { base with lsu := base.lsu.push quietBlock }).departure base.peu = false := by
  refine ⟨⟨rfl, rfl, rfl⟩, rfl, rfl, by decide +kernel, by decide +kernel⟩

/-! ### Protection (spec/02 section 2.9) -/

/-- R28: the table of curve times, built-in curve by curve. -/
theorem test_curve_times : [1, 2, 3].map (fun c => [100, 150, 250, 400, 1000, 3000, 4000].map (curveTime (builtInCurve c))) =
    [[1200, 750, 264, 154, 40, 34, 30], [12000, 7500, 2650, 1600, 450, 275, 250], [40000, 24000, 6900, 3600, 500, 220, 180]] := by
  decide +kernel

/-- Cases 1 and 6: PD at 800 A and at 600 A. -/
theorem test_delayed_increments :
    let pd : ElemSettings := ⟨true, 200, 2, 50, 50, 0⟩
    increment pd (builtInCurve 2) 800 = 2500 ∧ increment pd (builtInCurve 2) 600 = 1739 ∧ dropout 200 = 190 := by decide +kernel

/-- Case 4: the fastest and the slowest element. Case 5: HS with its minimum time. -/
theorem test_limit_increments :
    increment ⟨true, 5, 1, 5, 0, 0⟩ (builtInCurve 1) 20000 = 200000 ∧ increment ⟨true, 5, 3, 200, 0, 0⟩ (builtInCurve 3) 5 = 33 ∧
    increment ⟨true, 1500, 1, 100, 50, 0⟩ (builtInCurve 1) 18000 = 40000 ∧
    increment ⟨true, 1500, 0, 35, 0, 0⟩ (builtInCurve 0) 18000 = 5714 ∧ decrement 60000 = 33 := by decide +kernel

/-- Case 5: 2,650 ms at TM 35 and TM 5 round half up. -/
theorem test_effective_time_rounds : effectiveTime 2650 35 0 = 928 ∧ effectiveTime 2650 5 0 = 133 ∧ effectiveTime 30 5 0 = 10 := by decide +kernel

/-- Case 3: 600,000 with reset time 1,000 falls to 598,000, and from 2,000 to 0. -/
theorem test_reset_decay :
    (Elem.step true ⟨true, 400, 1, 100, 0, 1000⟩ [] 0 ⟨.timing, 600000⟩) = ⟨.resetting, 598000⟩ ∧
    (Elem.step true ⟨true, 400, 1, 100, 0, 1000⟩ [] 0 ⟨.resetting, 2000⟩) = ⟨.quiet, 0⟩ := by decide +kernel

/-- PF one update short of full, with phase A at 20,000 A. -/
def aboutToOperate : State :=
  { base with lsu := fullLsu ⟨28000, 0, 0, 0, 0, 0⟩
              peu := { base.peu with elems := { base.peu.elems with pf := ⟨.timing, 999000⟩, pd := ⟨.quiet, 0⟩,
                                                                     gf := ⟨.quiet, 0⟩, gd := ⟨.quiet, 0⟩ } } }

/-- R31, R44, R72: PF operates, SEQ trips and the trip coil is driven. -/
theorem test_element_operate :
    let s := run (.elementOperate (blockOf ⟨28000, 0, 0, 0, 0, 0⟩)) aboutToOperate
    s.peu.elems.pf = ⟨.operated, 1000000⟩ ∧ s.seq.state = .tripping ∧ s.seq.trip = some [.element .pf] ∧
    s.act.state = .tripPulse ∧ s.orl.capture = some ⟨20000, 0, 0, 0⟩ := by decide +kernel

theorem witness_PeuStaysSound : base.peu.sound := by
  refine ⟨?_, rfl, rfl⟩
  intro e
  cases e <;> rfl

theorem witness_CurveTimeIsInterpolated :
    ([] ++ (100, 1200) :: (200, 300) :: [(500, 80)] : List (Nat × Nat)).Pairwise (fun x y => x.1 < y.1 ∧ y.2 ≤ x.2) := by decide

/-! ### The sequencer (spec/03 section 3.12) -/

/-- 4.311 s: an element trip with the counter at 1 opens; L is 3. -/
theorem test_trip_opens_to_dead_time :
    let s := run (.contactDebounced .openContact .made 4 fin250) { tripping with seq := { tripping.seq with shots := 1 } }
    s.seq.state = .deadTime ∧ s.seq.shots = 2 ∧ s.seq.deadNo = some 2 ∧ s.seq.deadLeft = some 5000 ∧ s.seq.trip = none := by
  decide +kernel

/-- 31.845 s: the third trip locks out, and the pending group is applied after the LOCKOUT record. -/
theorem test_third_trip_locks_out :
    let s := run (.contactDebounced .openContact .made 4 fin250)
      { tripping with seq := { tripping.seq with shots := 2, pendingGroup := some 2 } }
    s.seq.state = .lockout ∧ s.seq.cause = some .shots ∧ s.seq.shots = 3 ∧ s.sst.active = 2 ∧ s.seq.pendingGroup = none ∧
    s.orl.ring.map (·.body.kindCode) = [0, 2, 11] := by decide +kernel

/-- 9.311 s: a dead source holds the reclose for 60 s. -/
theorem test_dead_timer_holds_for_source :
    let s := run .deadTimerExpiry { deadEnded with lsu := { deadEnded.lsu with source := ⟨.dead, 0, 30⟩ } }
    s.seq.state = .recloseHold ∧ s.seq.holdReason = some .source ∧ s.seq.holdLeft = some 60000 := by decide +kernel

/-- 23.900 s: the close pulse begins. -/
theorem test_dead_timer_closes :
    let s := run .deadTimerExpiry deadEnded
    s.seq.state = .reclosing ∧ s.act.state = .closePulse ∧ s.act.origin = some .auto := by decide +kernel

theorem test_hold_timer_locks_out :
    let s := run .holdTimerExpiry { deadEnded with seq := { deadEnded.seq with state := .recloseHold, deadNo := none, deadLeft := none,
                                                                               holdReason := some .energy, holdLeft := some 0 } }
    s.seq.state = .lockout ∧ s.seq.cause = some .energy ∧ s.seq.shots = 1 := by decide +kernel

/-- R59: the counter 0, the flag clear. -/
theorem test_reclaim_ends :
    let s := run .reclaimTimerExpiry { base with seq := { base.seq with state := .reclaim, shots := 2, manual := true, reclaimLeft := some 0 } }
    s.seq.state = .closed ∧ s.seq.shots = 0 ∧ s.seq.manual = false := by decide +kernel

/-- 23.960 s: DONE from RECLOSING, the counter kept, 30,000 ms of reclaim. -/
theorem test_reclose_done :
    let s := run (.contactDebounced .closedContact .made 4 fin250) reclosing
    s.seq.state = .reclaim ∧ s.seq.shots = 1 ∧ s.seq.reclaimLeft = some 30000 ∧
    s.orl.ring.map (·.body) = [.close .auto .done 35 305 250] := by decide +kernel

/-- R49: NO_MOVE. -/
theorem test_trip_pulse_runs_out :
    let s := run (.tripPulseTimeout fin250) tripping
    s.seq.state = .mechFail ∧ s.act.mech = true ∧ s.seq.shots = 0 ∧ s.orl.ring.map (·.body.kindCode) = [0, 3] := by decide +kernel

/-- R74: at 120 ms the coil is off and nothing is due; the next measurement ends the pulse and is its voltage after. -/
theorem test_trip_pulse_waits_for_its_measurement :
    let s : State := { tripping with act := { tripping.act with pulseMs := some 120 } }
    let t := run (.capacitorMeasurement 61) s
    tripping.tripDrive = true ∧ s.tripDrive = false ∧ due s = none ∧ t.seq.state = .mechFail ∧ t.act.mech = true ∧
    t.orl.ring.head?.map (·.body) = some (.trip ⟨.element .pf, 0⟩ none ⟨.noMove, 120, none, 300, 61, 0, 0, 0⟩) ∧
    (run (.capacitorMeasurement 61) tripping).act.state = .tripPulse := by decide +kernel

/-- R56: an automatic close that did not move the breaker. -/
theorem test_close_pulse_runs_out :
    let s := run (.closePulseTimeout fin250) reclosing
    s.seq.state = .lockout ∧ s.seq.cause = some .mechCleared ∧ s.act.mech = true := by decide +kernel

/-- R45: OPEN from REMOTE in CLOSED, answered OK (0x90, result 0). -/
theorem test_host_open :
    let s := run (.hostOpen 7#8) base
    s.seq.state = .tripping ∧ s.seq.trip = some [.command .link] ∧ s.hlc.tx = [⟨0x90#8, 7#8, [0#8], false⟩] := by decide +kernel

/-- 1,500.000 s: CLOSE from LOCAL over a NO_RECLOSE tag. -/
theorem test_host_close_local_over_tag :
    let s := run (.hostClose 9#8) { locked with hlc := { locked.hlc with key := .loc }
                                                tag := ⟨⟨some ⟨1, 17, .noReclose, .radio, none, none⟩ :: List.replicate 7 none, 2⟩, 0⟩ }
    s.seq.state = .closing ∧ s.seq.shots = 0 ∧ s.seq.manual = true ∧ s.hlc.tx = [] := by decide +kernel

/-- The same CLOSE from REMOTE is refused TAG_NO_RECLOSE, code 15. -/
theorem test_host_close_link_over_tag :
    let s := run (.hostClose 9#8) { locked with
      tag := ⟨⟨some ⟨1, 17, .noReclose, .radio, none, none⟩ :: List.replicate 7 none, 2⟩, 0⟩ }
    s.seq.state = .lockout ∧ s.hlc.tx = [⟨0x91#8, 9#8, [15#8], false⟩] := by decide +kernel

/-- R64: from LOCAL with the position OPEN. -/
theorem test_mech_fail_clear :
    let s := run (.mechFailClear 1#8) { locked with seq := { locked.seq with state := .mechFail, cause := none }
                                                    act := { locked.act with mech := true }, hlc := { locked.hlc with key := .loc } }
    s.seq.state = .lockout ∧ s.seq.cause = some .mechCleared ∧ s.act.mech = false := by decide +kernel

/-- R66 at 100 ms without a start reading. -/
def starting : State :=
  { base with stage := .starting .cold, seq := .undecided, act := { Act.idle 300 0 with closedC := ⟨some .notMade, 4, some .notMade⟩ } }

theorem test_start_reading_timeout :
    let s := run .startReadingTimeout starting
    s.stage = .running ∧ s.seq.state = .lockout ∧ s.seq.cause = some .restart ∧ s.orl.ring.map (·.body) = [.restart .cold none none] := by
  decide +kernel

/-- A trip whose breaker opens: the requests joined, the state and shutdown it meets, and the state, cause, counter and shutdown after. -/
def openings : List (List TripReq × SeqState × ActState × Option Shutdown × SeqState × Option Cause × Nat × Option Shutdown) :=
  [([.element .pf], .tripping, .tripPulse, none, .deadTime, none, 1, none),
   ([.element .pf, .element .gf], .tripping, .tripHeld, none, .deadTime, none, 1, none),
   ([.element .pf, .command .link], .tripping, .tripPulse, none, .lockout, some .commandOpen, 0, none),
   ([.command .loc, .element .pf], .tripping, .tripHeld, none, .lockout, some .commandOpen, 0, none),
   ([.command .loc, .exhaustion], .tripping, .tripPulse, some .tripWait, .lockout, some .exhaustion, 0, some .writeWait),
   ([.element .pf], .lockout, .tripPulse, none, .lockout, some .shots, 0, none),
   ([.element .pf, .exhaustion], .lockout, .tripHeld, some .tripWait, .lockout, some .shots, 0, some .writeWait),
   ([.command .link], .mechFail, .tripPulse, some .tripWait, .mechFail, none, 0, some .tripWait)]

theorem witness_TripCompletesOpen :
    (tripping.runs ∧ tripping.seq.decided = true ∧ opensNow tripping ∧ tripping.orl.part = none) ∧
    ∀ x ∈ openings,
      let s : State := { tripping with
        seq := { tripping.seq with trip := some x.1, state := x.2.1, cause := if x.2.1 = .lockout then some .shots else none }
        act := { tripping.act with state := x.2.2.1, heldMs := if x.2.2.1 = .tripHeld then some 7 else none }
        bcu := { tripping.bcu with shutdown := x.2.2.2.1 } }
      let t := run (.contactDebounced .openContact .made 4 fin250) s
      (t.seq.state, t.seq.cause, t.seq.shots, t.bcu.shutdown) = x.2.2.2.2 ∧ t.seq.trip = none ∧
      t.orl.ring.head?.map (·.body.kindCode) = some 0 ∧
      (t.orl.ring.any (·.body.kindCode == 2) = true ↔ s.seq.state = .tripping ∧ t.seq.state = .lockout) := by
  exact ⟨⟨⟨rfl, rfl, rfl⟩, rfl, ⟨rfl, by decide +kernel⟩, rfl⟩, by decide +kernel⟩

theorem witness_CloseCompletes : reclosing.runs ∧ closesNow reclosing ∧ reclosing.seq.state ∈ [SeqState.reclosing, .closing] := by
  exact ⟨⟨rfl, rfl, rfl⟩, ⟨rfl, by decide +kernel⟩, by decide +kernel⟩

theorem witness_BreakerMovesUnasked : opensNow { base with act := { base.act with position := .unknown, closedC := ⟨some .notMade, 4, some .notMade⟩ } } ∧ closesNow { locked with act := { locked.act with openC := ⟨some .notMade, 4, some .notMade⟩ } } ∧
    base.act.state = .idle ∧ base.seq.trip = none := by
  exact ⟨⟨by decide +kernel, by decide +kernel⟩, ⟨rfl, by decide +kernel⟩, rfl, rfl⟩

/-- A phase fault that left PF timing and has gone. -/
def departing : State :=
  { base with lsu := { fullLsu ⟨0, 0, 0, 0, 11000, 0⟩ with source := ⟨.live, 50, 0⟩ }
              peu := { base.peu with elems := { base.peu.elems with pf := ⟨.timing, 90000⟩, gf := ⟨.quiet, 0⟩ } } }

/-- 0.042 s: the departure is a coordination step. -/
theorem test_coordination_step :
    let s := run (.magnitudeUpdate (blockOf ⟨0, 0, 0, 0, 11000, 0⟩)) departing
    s.seq.state = .reclaim ∧ s.seq.shots = 1 ∧ s.seq.reclaimLeft = some 30000 ∧ s.orl.ring.map (·.body) = [.coordination 1] := by
  decide +kernel

theorem witness_SeqStaysSound : seqSound deadEnded ∧ seqSound State.reset := by
  constructor <;> simp +decide [seqSound]

theorem witness_StartDecidesTheState : starting.stage = .starting .cold ∧ starting.orl.waiting = [] ∧ starting.hlc.queue = [] := ⟨rfl, rfl, rfl⟩

/-! ### The actuator (spec/04 section 4.9) -/

/-- R68: 3 ms are not enough, and 3 ms and 1 ms are. -/
theorem test_debounce :
    debounce ⟨some .made, 4, some .made⟩ .notMade 3 = ⟨some .notMade, 3, some .made⟩ ∧
    debounce ⟨some .notMade, 3, some .made⟩ .notMade 1 = ⟨some .notMade, 4, some .notMade⟩ := by decide

/-- R69: CLOSED, then UNKNOWN. -/
theorem test_contact_leaves_closed :
    (run (.contactDebounced .closedContact .notMade 4 fin250) base).act.position = .unknown ∧
    (run (.contactDebounced .closedContact .notMade 4 fin250) base).seq.state = .closed := by decide +kernel

/-- Section 4.9.2: a trip held for 2,244 ms is released at 150 V. -/
theorem test_capacitor_releases_held_trip :
    let s := run (.capacitorMeasurement 150) { tripping with
      act := { tripping.act with state := .tripHeld, pulseMs := none, before := none, heldMs := some 2244, cap := 149, converter := .full } }
    s.act.state = .tripPulse ∧ s.act.before = some 150 ∧ s.act.heldMs = some 2244 ∧ s.act.converter = .paused := by decide +kernel

/-- R83: 289 V tops up, 290 V stays off, and 351 V is read as 350. -/
theorem test_converter_band :
    (run (.capacitorMeasurement 289) base).act.converter = .topup ∧ (run (.capacitorMeasurement 290) base).act.converter = .off ∧
    (run (.capacitorMeasurement 351) base).act.cap = 350 := by decide +kernel

/-- Section 4.9.2: opened by hand at 1,800, held 1,534 ms, 147 / 147. -/
theorem test_held_trip_opened_by_hand :
    let s := run (.contactDebounced .openContact .made 4 fin250) { tripping with act := { tripping.act with
      state := .tripHeld, pulseMs := none, before := none, heldMs := some 1534, cap := 147, converter := .full } }
    s.orl.ring.head?.map (·.body) = some (.trip ⟨.element .pf, 1⟩ none ⟨.done, 0, some 1534, 147, 147, 0, 0, 0⟩) ∧
    s.act.state = .idle := by decide +kernel

/-- Section 4.9.1: OPEN at 50 ms of a LOCAL close from 300 V, the capacitor at 196 V: CUT, then the trip. -/
theorem test_open_cuts_close :
    let s := run (.hostOpen 3#8) { reclosing with
      act := { reclosing.act with pulseMs := some 50, before := some 300, cap := 196, origin := some .loc } }
    s.orl.ring.map (·.body) = [.close .loc .cut 50 300 196] ∧ s.act.state = .tripPulse ∧ s.act.before = some 196 ∧
    s.seq.state = .tripping := by decide +kernel

/-- R55, R84: through 250 V the held reclose goes on. -/
theorem test_energy_ready :
    let s := { deadEnded with seq := { deadEnded.seq with state := .recloseHold, deadNo := none, deadLeft := none,
                                                          holdReason := some .energy, holdLeft := some 5000 }
                              act := { deadEnded.act with cap := 249 } }
    s.seq.shots < tripsToLockout s ∧ s.act.position = .isOpen ∧ (run (.capacitorMeasurement 250) s).seq.state = .reclosing := by
  decide +kernel

theorem base_contacts_agree : base.act.openC.raw ≠ some .made ∧ base.act.openC.stable = some .notMade ∧
    base.act.closedC.stable = some .made ∧ base.act.position = decodePosition .notMade .made := by decide +kernel

theorem witness_ActStaysSound : base.act.sound ∧ tripping.act.sound ∧ reclosing.act.sound := by
  refine ⟨?_, ?_, ?_⟩ <;> simp +decide [Act.sound]

theorem witness_ClosesOnlyWithPermission : locked.hlc.queue = [] ∧ locked.act.state = .idle ∧
    (run (.hostClose 1#8) locked).act.state = .closePulse := by decide +kernel

/-! ### Crew tags (spec/05 sections 5.7 and 5.8) -/

/-- A tag of a number and a crew, placed at LINK. -/
def linkTag (n crew : Nat) : Tag := ⟨n, crew, .noReclose, .link, none, none⟩

/-- Section 5.8: seven tags, the next number 65534. -/
def sevenTags : TagTable :=
  ⟨[some (linkTag 65535 1), some (linkTag 1 2), some (linkTag 7 300), some (linkTag 12 4), some (linkTag 300 5),
    some (linkTag 301 6), some (linkTag 302 7), none], 65534⟩

/-- A running part with a tag table. -/
def withTags (t : TagTable) : State := { base with tag := ⟨t, 0⟩ }

/-- Section 5.8: 65534 is free and is assigned; the next is 65535. -/
theorem test_tag_number_assigned :
    let t := (run (.tagPlace 5#8 55#16 0#8 0#16) (withTags sevenTags)).tag.table
    (t.slots.getD 7 none).map (·.number) = some 65534 ∧ t.next = 65535 := by decide +kernel

/-- Section 5.8: from 65535, held, past 0 and 1 to 2, in slot 2. -/
theorem test_tag_number_wraps :
    let t := (run (.tagPlace 5#8 56#16 0#8 0#16)
      (withTags ((sevenTags.store (linkTag 0 55)).remove 7))).tag.table
    (t.slots.getD 2 none).map (·.number) = some 2 ∧ t.next = 3 ∧
    t.sorted.map (·.number) = [1, 2, 12, 300, 301, 302, 65534, 65535] := by decide +kernel

/-- Section 5.7, 10:00: refreshed at LOCAL with 120, 180 left: LOCAL, 180, REFRESHED. -/
theorem test_tag_refreshed :
    let s := run (.tagPlace 5#8 1207#16 0#8 120#16) { withTags ⟨some ⟨41, 1207, .noReclose, .radio, some 9, some 180⟩ :: List.replicate 7 none, 43⟩
      with hlc := { base.hlc with key := .loc } }
    s.tag.table.slots.head? = some (some ⟨41, 1207, .noReclose, .loc, some 9, some 180⟩) ∧
    s.hlc.tx = [⟨0xF0#8, 0#8, [0#8, 0#8, 0#8, 1#8, 4#8], true⟩, ⟨0xA0#8, 5#8, [1#8, 0#8, 1#8, 0#8, 41#8, 0#8, 0#8, 180#8], false⟩] := by decide +kernel

/-- Section 5.7, 10:30 from LINK over a LINK tag, and 10:06 from LINK over a LOCAL tag: AUTHORITY, code 9. -/
theorem test_tag_removed_by_rank :
    (run (.tagRemove 5#8 12#16 4#16) (withTags sevenTags)).tag.table.slots.getD 3 none = none ∧
    (run (.tagRemove 5#8 41#16 1207#16) (withTags ⟨[some ⟨41, 1207, .noReclose, .loc, none, none⟩], 43⟩)).hlc.tx =
      [⟨0xA1#8, 5#8, [9#8], false⟩] := by decide +kernel

/-- R99: TAG_CLEAR from LOCAL. -/
theorem test_tag_cleared :
    let s := run (.tagClear 5#8 300#16) { withTags sevenTags with hlc := { base.hlc with key := .loc } }
    s.tag.table.holds 300 = false ∧ s.orl.ring.map (·.body) = [.tagRemoved (linkTag 300 5) .forced (some .loc)] := by decide +kernel

/-- R104: an empty slot is not found, and a slot above 7 is BAD_FIELD. -/
theorem test_tag_read :
    (run (.tagRead 5#8 0#8 7#16) (withTags sevenTags)).hlc.tx = [⟨0xA3#8, 5#8, [0#8, 0#8, 0#8, 0#8], false⟩] ∧
    (run (.tagRead 5#8 0#8 8#16) (withTags sevenTags)).hlc.tx = [⟨0xA3#8, 5#8, [6#8], false⟩] := by decide +kernel

/-- R101: one minute left expires, two become one. -/
theorem test_tag_expires :
    let s := run .tagExpiry (withTags ⟨[some ⟨41, 1207, .noReclose, .radio, none, some 1⟩, some ⟨42, 9, .noReclose, .radio, none, some 2⟩], 43⟩)
    s.tag.table.slots = [none, some ⟨42, 9, .noReclose, .radio, none, some 1⟩] ∧ s.orl.ring.map (·.body.kindCode) = [5] := by
  decide +kernel

/-- R103: the 60th minute event writes the table. -/
theorem test_tag_hourly_write :
    let t : TagTable := ⟨[some ⟨42, 9, .noReclose, .radio, none, some 109⟩], 43⟩
    (run .tagHourlyWrite { withTags t with tag := ⟨t, 59⟩ }).sst.inFlight =
      some (.tags ⟨[some ⟨42, 9, .noReclose, .radio, none, some 108⟩], 43⟩) := by decide +kernel

theorem witness_TagTable : sevenTags.sound ∧ sevenTags.tags.length < 8 := by
  refine ⟨⟨rfl, ?_, by decide, by decide, by decide⟩, by decide⟩
  intro x hx
  fin_cases hx <;> simp [Tag.sound, linkTag]

theorem witness_TagTableStaysSound : tagsSound base := by
  refine ⟨⟨rfl, fun x hx => absurd hx ?_, by decide, by decide, by decide⟩, ⟨rfl, fun x hx => absurd hx ?_, by decide, by decide, by decide⟩, ?_⟩
  · exact List.not_mem_nil
  · exact List.not_mem_nil
  · intro t h
    rcases h with h | h
    · have h' : (none : Option RetItem) = some (.tags t) := h
      cases h'
    · exact absurd h (List.not_mem_nil)

/-! ### Battery care (spec/06 section 6.8) -/

/-- Section 6.8.1. -/
theorem test_setpoints : [-30, -10, 25, 40, 56].map absorbSetpoint = [30420, 30060, 28800, 28260, 27900] ∧
    [-30, -10, 25, 40, 56].map floatSetpoint = [28920, 28560, 27300, 26760, 26400] := by decide +kernel

/-- Section 6.8.2: 1,350 mA of charge add 1,282; 350 mA of discharge take 350; the level falls to LEAN at 39 %. -/
theorem test_charge_count :
    moveCharge 61200000 24479750 1350 = 24481032 ∧ moveCharge 61200000 24480100 (-350) = 24479750 ∧
    socOf 61200000 24479750 = 39 := by decide

theorem test_level_falls_to_lean :
    let s := run (.batteryMeasurement ⟨25000, -350, 25, false⟩ ⟨0, 0⟩) { base with bcu := { base.bcu with charge := 24480100, soc := 40 } }
    s.bcu.level = .lean ∧ s.orl.ring.map (·.body) = [.battery .lean 39 25000] ∧ s.bcu.charger = .noSupply := by decide +kernel

/-- R113: the 14,400th measurement in ABSORB; the 60th low one in FLOAT (float 27,300 less 600). -/
theorem test_charger_limits :
    (run (.absorbTimeLimit ⟨28800, 900, 25, true⟩ ⟨0, 0⟩) { base with bcu := { base.bcu with charger := .absorb, absorbTime := 14399 } }).bcu.charger
      = .float ∧
    (run (.floatLowRunLimit ⟨26699, 90, 25, true⟩ ⟨0, 0⟩) { base with bcu := { base.bcu with floatLow := 59 } }).bcu.charger = .bulk := by
  decide +kernel

/-- R114: the 600th clear measurement; R117: the 3,600th quiet one; R118: the 600th. -/
theorem test_battery_runs :
    (run (.faultClearRunComplete ⟨27000, 0, 50, true⟩ ⟨0, 0⟩) { base with bcu := { base.bcu with charger := .fault, faultClear := 599 } }).bcu.charger
      = .bulk ∧
    (run (.resyncRunComplete ⟨27300, 90, 25, true⟩ ⟨0, 0⟩) { base with bcu := { base.bcu with resync := 3599 } }).bcu.charge = 61200000 ∧
    (run (.chargeCountWrite ⟨27300, 100, 25, true⟩ ⟨0, 0⟩) { base with bcu := { base.bcu with measCount := 599 } }).sst.inFlight =
      some (.charge 55080095) := by decide +kernel

/-- Section 6.8.4: measurement m + 10. -/
def sagging : State :=
  { base with bcu := { base.bcu with level := .conserve, soc := 3, charge := 1836350, exhRun := 9, lowRun := 10, charger := .noSupply,
                                     meas := ⟨20880, -350, 25, false⟩ }
              sst := { base.sst with globalPage := base.sst.globalPage.set 10 1 } }

theorem test_exhaustion :
    let s := run (.batteryMeasurement ⟨20870, -350, 25, false⟩ ⟨0, 0⟩) sagging
    s.bcu.level = .exhausted ∧ s.bcu.charge = 0 ∧ s.bcu.shutdown = some .tripWait ∧ s.act.state = .tripPulse ∧
    s.orl.ring.map (·.body) = [.battery .exhausted 3 20870] := by decide +kernel

/-- Section 6.8.4: at 30 s with the trip held the BCU waits no more. -/
theorem test_trip_wait_timeout :
    (run .tripWaitTimeout { sagging with bcu := { sagging.bcu with shutdown := some .tripWait },
                                         act := { sagging.act with state := .tripHeld } }).bcu.shutdown = some .writeWait := by decide +kernel

theorem test_part_stop :
    let s := run .partStop { sagging with bcu := { sagging.bcu with shutdown := some .writeWait } }
    s.stage = .stopped ∧ s.bcu.connected = false := by decide +kernel

/-- Section 6.8.3: 25,400 mV and -320 mA, then 25,180 mV and -2,320 mA: 110 milliohms, PASS. -/
theorem test_load_test_passes :
    let s := run (.loadTestComplete ⟨25180, -2320⟩) { loaded with bcu := { loaded.bcu with baseline := some ⟨25400, -320⟩ } }
    s.orl.ring.map (·.body) = [.test .pass (some 110) (some 25180)] ∧ s.bcu.test = .idle ∧ s.bcu.charger = .bulk := by decide +kernel

/-- Section 6.8.3: the older battery, 479 milliohms and 23,950 mV: FAIL. -/
theorem test_load_test_fails :
    resistance ⟨24900, -320⟩ ⟨23950, -2300⟩ = some 479 ∧ testOutcome 120 ⟨24900, -320⟩ ⟨23950, -2300⟩ = .fail := by decide +kernel

theorem test_settling_complete :
    let s := run (.settlingComplete ⟨25520, -330⟩) { loaded with bcu := { loaded.bcu with test := .settling } }
    s.bcu.test = .loaded ∧ s.bcu.baseline = some ⟨25520, -330⟩ := by decide +kernel

/-- Section 6.8.3: abandoned with 12,400 ms in its entry. -/
theorem test_abandoned :
    (run .testAbandonTimeout { loaded with bcu := { loaded.bcu with test := .suspended, loadMs := 12400 } }).bcu.history =
      [⟨.abandoned, none, none, 12400, 0, false⟩] := by decide +kernel

/-- R125: OK at SoC 90; R131: no test was running. -/
theorem test_battery_requests :
    (run (.batteryTestStart 1#8) base).bcu.test = .settling ∧ (run (.batteryTestStart 1#8) base).bcu.charger = .test ∧
    (run (.batteryTestCancel 1#8) base).hlc.tx = [⟨0xC1#8, 1#8, [0#8, 1#8], false⟩] := by decide +kernel

/-- R126: a scheduled test that cannot run is due again in an hour. -/
theorem test_scheduled_test :
    (run .scheduledTestDue { base with bcu := { base.bcu with countdown := some 1 } }).bcu.test = .settling ∧
    (run .scheduledTestDue { base with bcu := { base.bcu with countdown := some 1, soc := 79 } }).bcu.countdown = some 60 := by decide +kernel

theorem witness_LoadTestStarts : testMayStart base ∧ base.serving := by
  exact ⟨by simp +decide [testMayStart], ⟨⟨rfl, rfl, rfl⟩, rfl⟩⟩

theorem witness_ChargeStaysBounded : chargeBounded base ∧ chargeBounded State.reset := by
  constructor <;> simp +decide [chargeBounded]

theorem witness_LoadTestStaysSafe : loadTestSafe loaded ∧ loadTestSafe State.reset := by
  constructor <;> simp +decide [loadTestSafe]

/-! ### Records, wear and time (spec/07 section 7.9) -/

/-- Section 7.9.1: 800, 760 and 120 A add 64, 57 and 1; R141: 4,200 A add 1,764 and 300 A add 9. -/
theorem test_wear_units : [800, 760, 120, 4200, 300, 28000].map wearUnits = [64, 57, 1, 1764, 9, 40000] := by decide +kernel

/-- Section 7.9.3: 79 %, then 81 % with one record; from 79 to 100 two records. -/
theorem test_wear_records :
    wearPercent 2000000 1590000 = 79 ∧ wearRecords .a (wearPercent 2000000 1630000) .none = [.wear .a 81] ∧
    wearRecords .a 100 .none = [.wear .a 100, .wear .a 100] := by decide

/-- A ring of the 64 records 1,007 to 1,070 (section 7.9.2). -/
def fullRing : State :=
  { base with orl := { base.orl with ring := (List.range 64).map (fun i => ⟨1007 + i, .sourceLost, 0, false⟩), next := 1071 } }

/-- Section 7.9.2: NOT_FOUND (11), GONE (24) with 1,007, BAD_FIELD (6). -/
theorem test_record_read :
    (run (.recordRead 4#8 1071#32) fullRing).hlc.tx = [⟨0xB0#8, 4#8, [11#8], false⟩] ∧
    (run (.recordRead 4#8 1006#32) fullRing).hlc.tx = [⟨0xB0#8, 4#8, [24#8, 0#8, 0#8, 3#8, 0xEF#8], false⟩] ∧
    (run (.recordRead 4#8 0#32) fullRing).hlc.tx = [⟨0xB0#8, 4#8, [6#8], false⟩] := by decide +kernel

/-- R190: SOURCE_LOST 1,030: number, kind 6, time, flag, empty mask. -/
theorem test_record_bytes :
    (run (.recordRead 4#8 1030#32) fullRing).hlc.tx =
      [⟨0xB0#8, 4#8, [0#8, 0#8, 0#8, 4#8, 6#8, 6#8, 0#8, 0#8, 0#8, 0#8, 0#8, 0#8, 0#8], false⟩] := by decide +kernel

/-- Section 7.9.2: record 1,071 removes 1,007. -/
theorem test_ring_turns :
    let s := completeNow .sourceLost fullRing
    s.orl.ring.length = 64 ∧ s.orl.ring.head?.map (·.number) = some 1008 ∧ s.orl.ring.getLast?.map (·.number) = some 1071 := by
  decide +kernel

/-- R143: the count held before is answered. -/
theorem test_wear_reset :
    let s := run (.wearReset 2#8 0#8) { base with orl := { base.orl with wearA := ⟨10000000, 100, .hundred⟩, limit := true }
                                                  hlc := { base.hlc with key := .loc } }
    s.orl.wearA = ⟨0, 0, .none⟩ ∧ s.orl.limit = false ∧ s.hlc.tx = [⟨0xB1#8, 2#8, [0#8, 0#8, 0x98#8, 0x96#8, 0x80#8], false⟩] := by decide +kernel

/-- Section 7.9.4: the 60th second. -/
theorem test_time_base_second :
    let s := run .timeBaseSecond { base with orl := { base.orl with time := 1718100022, valid := true, sec := 59 } }
    s.orl.time = 1718100023 ∧ s.orl.sec = 0 ∧ s.tag.minutes = 1 := by decide +kernel

theorem test_minute_event : (run .minuteEvent { base with orl := { base.orl with sec := 37 } }).orl.sec = 0 ∧
    (run .minuteEvent { base with orl := { base.orl with sec := 37 } }).tag.minutes = 1 := by decide +kernel

/-- R146. -/
theorem test_time_set :
    let s := run (.timeSet 6#8 1718100164#32) { base with orl := { base.orl with sec := 20 } }
    s.orl.time = 1718100164 ∧ s.orl.valid = true ∧ s.orl.sec = 20 ∧ s.hlc.tx = [⟨0xB2#8, 6#8, [0#8], false⟩] := by decide +kernel

theorem witness_WearIsReset : base.serving ∧ ∀ q, (base.orl.phase q).formed (base.sst.globalPage.field 9) := by
  refine ⟨⟨⟨rfl, rfl, rfl⟩, rfl⟩, fun q => ?_⟩
  cases q <;> exact ⟨by decide, by decide⟩


/-! ### The radio (spec/08 section 8.8) -/

/-- R167: the check of the digits 1 to 9 under this generator and initial value. -/
theorem test_crc : crc16 [0x31#8, 0x32#8, 0x33#8, 0x34#8, 0x35#8, 0x36#8, 0x37#8, 0x38#8, 0x39#8] = 0x29B1#16 := by decide +kernel

/-- R168: frame 258, time 1,718,100,000, the pair (6, 39) and REMOTE_CLOSE for station 6 under id 88, written out byte by byte. -/
theorem test_beacon_bytes :
    parseBeacon [0xB6#8, 0x0F#8, 0x20#8, 0x01#8, 0x02#8, 0x66#8, 0x68#8, 0x20#8, 0x20#8, 0x01#8, 0x06#8, 0x27#8, 0x01#8, 0x06#8,
      0x58#8, 0x02#8, 0x00#8, 0x12#8, 0xD7#8] = some ⟨258, 1718100000, [(6, 39)], [⟨6, 88, 2, []⟩]⟩ := by decide +kernel

/-- R169: the same packet with one damaged bit. -/
theorem test_damaged_beacon :
    parseBeacon [0xB6#8, 0x0F#8, 0x20#8, 0x01#8, 0x02#8, 0x66#8, 0x68#8, 0x20#8, 0x20#8, 0x01#8, 0x06#8, 0x26#8, 0x01#8, 0x06#8,
      0x58#8, 0x02#8, 0x00#8, 0x12#8, 0xD7#8] = none := by decide +kernel

/-- The outbox of section 8.8.1: 4 of priority 1, 18 of priority 2, 10 of priority 3. -/
def stormOutbox : List Entry :=
  [⟨.trip, some 700, true, 0, some 39, none, 0⟩, ⟨.trip, some 703, false, 0, none, none, 1⟩, ⟨.trip, some 706, false, 0, none, none, 2⟩,
    ⟨.trip, some 709, false, 0, none, none, 3⟩] ++
  (List.range 18).map (fun i => ⟨.source, some (710 + i), false, 0, none, none, 4 + i⟩) ++
  (List.range 10).map (fun i => ⟨.coord, some (740 + i), false, 0, none, none, 22 + i⟩)

/-- Section 8.8.1, step 0: station 6, SYNCED, remote control permitted. -/
def storm : State :=
  { base with rcc := { Rcc.idle with chan := .synced, frameMs := some 450, slotTaken := true, outbox := stormOutbox, nextSeq := 40,
                                     nextOrder := 32 }
              sst := { base.sst with globalPage := (base.sst.globalPage.set 4 6).set 11 1 } }

/-- The entries of each priority. -/
def byPriority (s : State) : List Nat := [0, 1, 2, 3].map fun p => s.rcc.outbox.countP fun e => e.cls.priority == p

/-- A beacon with some acknowledgements and commands. -/
def beaconOf (acks : List (Nat × Nat)) (cmds : List RadioCmd) : Instr := .radioPacketReceived (Beacon.bytes ⟨7, 1718100000, acks, cmds⟩)

/-- Section 8.8.1, steps 1 and 2. -/
theorem test_full_outbox :
    let s1 := report .lockout (some 731) storm
    let s2 := report .test (some 732) s1
    byPriority s1 = [1, 4, 18, 9] ∧ s1.rcc.lost = 1 ∧ s1.rcc.outbox.head?.map (·.record) = some (some 731) ∧
    s1.rcc.outbox.any (·.record == some 749) = false ∧ byPriority s2 = [1, 4, 18, 9] ∧ s2.rcc.lost = 2 := by decide +kernel

/-- Section 8.8.1, step 3: the pair (6, 39) removes TRIP 700. -/
theorem test_beacon_acknowledges :
    let s := run (beaconOf [(6, 39)] []) storm
    s.rcc.outbox.length = 31 ∧ s.rcc.outbox.any (·.record == some 700) = false ∧ s.rcc.chan = .synced ∧ s.rcc.frameMs = some 400 ∧
    s.orl.time = 1718100000 ∧ s.orl.valid = true := by decide +kernel

/-- Section 8.8.1, step 10: another number leaves the entry, with one try. -/
theorem test_beacon_does_not_acknowledge :
    (run (beaconOf [(6, 38), (5, 39)] []) storm).rcc.outbox.head? = some ⟨.trip, some 700, false, 1, some 39, none, 0⟩ := by decide +kernel

/-- Section 8.8.1, step 6: a miss returns the entry with its tries. -/
theorem test_beacon_miss :
    let s := run .beaconMissCheck storm
    s.rcc.missCount = 1 ∧ s.rcc.chan = .synced ∧ s.rcc.outbox.head? = some ⟨.trip, some 700, false, 0, some 39, none, 0⟩ := by decide +kernel

/-- R152: the fourth miss in turn. -/
theorem test_fourth_miss :
    let s := run .beaconMissCheck { storm with rcc := { storm.rcc with missCount := 3 } }
    s.rcc.chan = .searching ∧ s.rcc.frameMs = none ∧ s.rcc.missCount = 4 := by decide +kernel

/-- Section 8.8.1, step 13: at LEAN the head is TRIP 703, overwritten: a GAP report under 41. -/
theorem test_gap_report :
    let s := run (.ownSlotStart false) { storm with
      rcc := { storm.rcc with slotTaken := false, outbox := stormOutbox.drop 1, nextSeq := 41 }, bcu := { storm.bcu with level := .lean } }
    s.rcc.tx = some [0xB6#8, 0x0A#8, 0x21#8, 0x06#8, 0x29#8, 0x01#8, 0x02#8, 0x01#8, 0x00#8, 0x00#8, 0x02#8, 0xBF#8, 0x51#8, 0xB5#8] ∧
    s.rcc.outbox.head? = some ⟨.trip, some 703, true, 0, some 41, none, 1⟩ ∧ s.rcc.nextSeq = 42 := by decide +kernel

/-- Section 8.8.1, step 7: an occupied channel costs no try. -/
theorem test_occupied_channel :
    let s := run (.ownSlotStart true) { storm with rcc := { storm.rcc with slotTaken := false, outbox := stormOutbox.drop 1 } }
    s.rcc.tx = none ∧ s.rcc.outbox = stormOutbox.drop 1 := by decide +kernel

/-- Section 8.8.3: the reply (88, OK) of station 6; RTE falls with its last byte. -/
theorem test_reply_packet :
    let s := run (.ownSlotStart false) { storm with rcc := { storm.rcc with slotTaken := false, pending := some ⟨88, .ok, 0⟩ } }
    s.rcc.tx = some [0xB6#8, 0x05#8, 0x22#8, 0x06#8, 0x58#8, 0x00#8, 0x00#8, 0xD1#8, 0xD0#8] ∧ s.rcc.pending = none ∧
    s.transmitEnable = true ∧ (run .radioTransmitEnd s).transmitEnable = false := by decide +kernel

/-- Section 8.8.2: the acknowledged STATUS entry takes 2 of 5 with it. -/
theorem test_status_takes_its_count :
    (run (beaconOf [(6, 52)] []) { storm with
      rcc := { storm.rcc with lost := 5, outbox := [⟨.status, none, true, 0, some 52, some 2, 0⟩] } }).rcc.lost = 3 := by decide +kernel

/-- Section 8.8.2: of the two STATUS entries the younger goes at a miss, and the count stays. -/
theorem test_younger_status_removed :
    let s := run .beaconMissCheck { storm with rcc := { storm.rcc with
      lost := 5, outbox := [⟨.status, none, true, 0, some 52, some 2, 0⟩, ⟨.status, none, false, 0, none, none, 1⟩] } }
    s.rcc.outbox = [⟨.status, none, false, 0, some 52, some 2, 0⟩] ∧ s.rcc.lost = 5 := by decide +kernel

/-- R155: the countdown at 1. -/
theorem test_status_interval :
    let s := run .statusIntervalDue { storm with
      rcc := { storm.rcc with statusLeft := some 1, outbox := [] }, sst := { storm.sst with globalPage := storm.sst.globalPage.set 5 15 } }
    s.rcc.outbox = [⟨.status, none, false, 0, none, none, 32⟩] ∧ s.rcc.statusLeft = some 15 := by decide +kernel

/-- Section 8.8.3: a station in LOCKOUT, cause SHOTS, 300 V, last id 87. -/
def lockedStation : State := { locked with rcc := { storm.rcc with outbox := [], lastId := some 87 }, sst := storm.sst }

theorem test_remote_close :
    let s := run (beaconOf [] [⟨6, 88, 2, []⟩]) lockedStation
    s.seq.state = .closing ∧ s.act.origin = some .radio ∧ s.rcc.lastId = some 88 ∧ s.rcc.stored = none ∧ s.rcc.pending = none := by
  decide +kernel

/-- Section 8.8.3: the id again, in LOCAL too, is answered from the stored result; id 89 is refused. -/
theorem test_repeated_close :
    let s := { lockedStation with rcc := { lockedStation.rcc with lastId := some 88, stored := some (.ok, 0) }
                                  hlc := { lockedStation.hlc with key := .loc } }
    (run (beaconOf [] [⟨6, 88, 2, []⟩]) s).rcc.pending = some ⟨88, .ok, 0⟩ ∧ (run (beaconOf [] [⟨6, 88, 2, []⟩]) s).seq.state = .lockout ∧
    (run (beaconOf [] [⟨6, 89, 2, []⟩]) s).rcc.pending = some ⟨89, .refusedLocal, 0⟩ ∧
    (run (beaconOf [] [⟨6, 89, 2, []⟩]) s).rcc.lastId = some 88 := by decide +kernel

theorem witness_BeaconLayout : (⟨7, 1718100000, [(6, 39)], [⟨6, 88, 2, []⟩]⟩ : Beacon).fits := by
  refine ⟨by decide, by decide, by decide, by decide, by decide, by decide, by decide +kernel⟩

theorem witness_RemoteCommandIsChecked : lockedStation.runs ∧ lockedStation.seq.decided = true ∧ listening lockedStation ∧
    commandFor lockedStation ⟨7, 0, [], [⟨6, 88, 2, []⟩]⟩ ⟨6, 88, 2, []⟩ :=
  ⟨⟨rfl, rfl, rfl⟩, rfl, ⟨by decide +kernel, fun e h => absurd h (List.not_mem_nil)⟩, by unfold commandFor; decide +kernel⟩

theorem witness_RemoteCommandIsExecuted : lockedStation.hlc.key = .remote ∧ lockedStation.sst.globalPage.field 11 = 1 ∧
    lockedStation.rcc.outbox.length < 32 ∧ lockedStation.tag.table.tags = [] ∧ lockedStation.sst.staging = .empty ∧
    seqSettled lockedStation := ⟨rfl, by decide +kernel, by decide +kernel, by decide +kernel, rfl, Or.inl rfl⟩

/-- A report in flight and two that wait. -/
theorem witness_OutboxStaysSound : State.reset.rcc.sound ∧
    { storm.rcc with outbox := [⟨.trip, some 700, true, 0, some 39, none, 0⟩, ⟨.coord, some 740, false, 0, none, none, 22⟩,
      ⟨.status, none, false, 1, some 38, some 2, 23⟩] }.sound := by
  constructor <;>
  simp +decide [Rcc.sound, Entry.sound, Entry.ahead, storm, State.reset, State.blank, Rcc.idle, Class.priority]

/-! ### Settings and starts (spec/09 section 9.7) -/

/-- Section 9.7: the stored page after the nine loads, and as corrected. -/
def curvePage (third : Nat) : Page := [4, 100, 5000, 300, 1200, third, 600, 2000, 200] ++ List.replicate 24 0

/-- A part whose buffer is OPEN on curve 6 with a page and a pointer. -/
def onCurve6 (p : Page) (pointer : Nat) : State := { base with sst := { base.sst with staging := .opened ⟨.curve 6, p, pointer⟩ } }

/-- Section 9.7: group 1 active, curve 6 loaded, the commit of group 2 with PD on curve 6 under way for the host. -/
def committing2 : State :=
  { base with sst := { base.sst with
                store := { base.sst.store with active := 1, curves := base.sst.store.curves.set 2 (curvePage 600) }
                active := 1
                curves := base.sst.curves.set 2 (curvePage 600)
                staging := .committing ⟨.group 2, deliveredGroup.set 8 6, 9⟩ true true }
              hlc := { base.hlc with current := some ⟨0x54#8, 9#8, .commit⟩ } }

/-- Section 9.7: STAGE_OPEN for curve 6: OK, nothing discarded. -/
theorem test_stage_open :
    let s := run (.stageOpen 5#8 2#8 6#8) base
    s.sst.staging = .opened ⟨.curve 6, List.replicate 33 0, 0⟩ ∧ s.hlc.tx = [⟨0xD0#8, 5#8, [0#8, 0#8], false⟩] := by decide +kernel

/-- Section 9.7: the last of the nine loads leaves the pointer at 9. -/
theorem test_stage_load :
    (run (.stageLoad 5#8 200#32 1#8) (onCurve6 ((curvePage 300).set 8 0) 8)).sst.staging = .opened ⟨.curve 6, curvePage 300, 9⟩ ∧
    (run (.stageLoad 5#8 9#32 1#8) (onCurve6 (curvePage 300) 2)).hlc.tx = [⟨0xD1#8, 5#8, [6#8], false⟩] := by decide +kernel

/-- Section 9.7: STAGE_SEEK 5; STAGE_READ there carries pointer 5 and 300. -/
theorem test_stage_seek :
    let s := run (.stageSeek 5#8 5#8) (onCurve6 (curvePage 300) 9)
    s.sst.staging = .opened ⟨.curve 6, curvePage 300, 5⟩ ∧
    (run (.stageRead 6#8) s).hlc.tx.getLast? = some ⟨0xD3#8, 6#8, [0#8, 5#8, 0#8, 0#8, 1#8, 0x2C#8], false⟩ := by decide +kernel

/-- Section 9.7: INVALID (23), first bad field 5; corrected, the commit is taken and its page write begins. -/
theorem test_commit :
    (run (.commit 5#8) (onCurve6 (curvePage 300) 9)).hlc.tx = [⟨0xD4#8, 5#8, [23#8, 5#8], false⟩] ∧
    (run (.commit 5#8) (onCurve6 (curvePage 600) 5)).sst.staging = .committing ⟨.curve 6, curvePage 600, 5⟩ true true := by
  decide +kernel

/-- Section 9.7: at the completion curve 6 is loaded and the reply is OK. -/
theorem test_commit_complete :
    let s := run .commitComplete (run (.commit 5#8) (onCurve6 (curvePage 600) 5))
    s.sst.store.curves.getD 2 [] = curvePage 600 ∧ s.sst.staging = .empty ∧ s.hlc.tx = [⟨0xD4#8, 5#8, [0#8], false⟩] := by decide +kernel

/-- Section 9.7: the selection of group 2 waits on its commit, is applied at the completion, and curve 6 is then IN_USE (21). -/
theorem test_group_select_waits :
    let s := run .commitComplete { committing2 with sst := { committing2.sst with waiting := [.radio 7] }
                                                    rcc := { committing2.rcc with lastId := some 7 } }
    s.sst.active = 2 ∧ s.orl.ring.map (·.body) = [.groupChange 1 2] ∧ s.sst.queue = [.activeGroup 2] ∧
    s.rcc.pending = some ⟨7, .ok, 0⟩ ∧
    (run (.commit 5#8) { s with sst := { s.sst with staging := .opened ⟨.curve 6, curvePage 600, 0⟩ }, hlc := { s.hlc with tx := [] } }).hlc.tx
      = [⟨0xD4#8, 5#8, [21#8], false⟩] := by decide +kernel

/-- R65: applied in CLOSED with all quiet, held in RECLAIM. -/
theorem test_group_select :
    (run (.groupSelect 5#8 3#8) base).sst.active = 3 ∧
    (run (.groupSelect 5#8 3#8) { base with seq := { base.seq with state := .reclaim, reclaimLeft := some 9 } }).seq.pendingGroup = some 3 := by
  decide +kernel

/-- R178: the store has the value, and the lowest pending item is in flight. -/
theorem test_retained_write_complete :
    let s := run .retainedWriteComplete { base with sst := { base.sst with inFlight := some (.mech true), queue := [.activeGroup 2, .opCount 9] } }
    s.sst.store.mech = true ∧ s.sst.inFlight = some (.activeGroup 2) ∧ s.sst.queue = [.opCount 9] := by decide +kernel

/-- R180: OK, then a warm start once the reply has gone; the charge count is the one the RESTART found (R118). -/
theorem test_restart :
    let s := run (.restart 5#8) base
    s.hlc.tx = [⟨0xE0#8, 5#8, [0#8], false⟩] ∧ s.restarting = some base.bcu.charge ∧ (run .warmStart s).stage = .running := by decide +kernel

theorem test_warm_start :
    let s := run .warmStart { base with restarting := some 55000000 }
    s.stage = .startDelay .warm ∧ s.bcu.charge = 55000000 := by decide +kernel

/-- R180: a write in flight lands or does not; running state is lost. -/
theorem test_cold_start :
    let s := { base with sst := { base.sst with inFlight := some (.mech true) } }
    (run (.coldStart true) s).sst.store.mech = true ∧ (run (.coldStart false) s).sst.store.mech = false ∧
    (run (.coldStart true) s).stage = .startDelay .cold := by decide +kernel

/-- R118, R121: a count never written is taken at 50 %, LEAN or better from 40 %; R86: 240 V is FULL. -/
theorem test_start_delay_end :
    let s := run (.startDelayEnd ⟨.loc, 240, ⟨26000, 0, 25, true⟩⟩) State.reset
    s.stage = .starting .cold ∧ s.bcu.charge = 30600000 ∧ s.bcu.level = .normal ∧ s.act.converter = .full ∧ s.hlc.key = .loc := by
  decide +kernel

/-- R179: no queued write starts after the loss, and the one in flight is in the store at the end, 200 ms after the loss at the
earliest. -/
theorem test_supply_loss :
    let s := run .supplyLoss { base with sst := { base.sst with inFlight := some (.mech true), queue := [.activeGroup 2] } }
    let gone := run .holdUpEnd { s with sst := { s.sst with lostMs := 200 } }
    (run .retainedWriteComplete s).sst.inFlight = none ∧ gone.stage = .stopped ∧ gone.sst.store.mech = true ∧
    gone.sst.store.active = 0 ∧ run .holdUpEnd { s with sst := { s.sst with lostMs := 199 } } = { s with sst := { s.sst with lostMs := 199 } } := by
  decide +kernel

/-- A supply lost in a trip pulse (R179, spec/04 R86). -/
def lostInPulse : State := { tripping with sst := { tripping.sst with lost := true, lostMs := 250 } }

/-- The hold-up supply does not end in a pulse; the supply that comes back then finds the pulse ended, and the write that was in flight
at the loss in the store. -/
theorem test_hold_up_completes_the_pulse :
    run .holdUpEnd lostInPulse = lostInPulse ∧
    let s := run (.coldStart false) { lostInPulse with sst := { lostInPulse.sst with inFlight := some (.activeGroup 2) } }
    s.act.pulses = 1 ∧ s.sst.store.active = 2 ∧ s.stage = .startDelay .cold := by decide +kernel

/-- R179: after a loss no warm start. -/
theorem test_no_warm_start_after_a_loss :
    (run .warmStart { base with restarting := some 5, sst := { base.sst with lost := true } }).stage = .running := by decide +kernel

theorem witness_StagingRequests : (onCurve6 (curvePage 300) 9).serving ∧ (9 : Nat) ≤ lastOf (.curve 6) ∧ Target.real (.curve 6) ∧
    names 2#8 6#8 (.curve 6) ∧ inRange (.curve 6) 9 100 := by
  refine ⟨⟨⟨rfl, rfl, rfl⟩, rfl⟩, by decide, ⟨by decide, by decide⟩, ⟨rfl, rfl⟩, ?_⟩
  simp [inRange]

/-- The page of the example fails at 5 and at no field below, and corrected it fails nowhere. -/
theorem witness_CommitIsChecked : (onCurve6 (curvePage 300) 9).serving ∧
    failsCheck base.sst.store (.curve 6) (curvePage 300) 5 ∧ (∀ j < 5, ¬ failsCheck base.sst.store (.curve 6) (curvePage 300) j) ∧
    (∀ j ≤ 32, ¬ failsCheck base.sst.store (.curve 6) (curvePage 600) j) := by
  refine ⟨⟨⟨rfl, rfl, rfl⟩, rfl⟩, ?_, ?_, ?_⟩ <;> simp only [failsCheck, inRange] <;> decide +kernel

theorem witness_CommitIsChecked_settled : seqSettled base ∧ base.seq.state ≠ .lockout ∧ locked.serving ∧
    ¬ usesCurve base.sst.group 6 ∧ usesCurve (deliveredGroup.set 8 6) 6 := by
  refine ⟨Or.inr (Or.inr ⟨rfl, rfl⟩), by decide, ⟨⟨rfl, rfl, rfl⟩, rfl⟩, ?_, ?_⟩ <;> unfold usesCurve <;> decide +kernel

/-- The global page with every field of the statement changed. -/
def globalCommit : State :=
  { locked with sst := { locked.sst with staging := .committing ⟨.global, [60, 12000, 80, 40, 6, 15, 20, 7, 120, 10000000, 0, 0], 0⟩ true true } }

theorem witness_GlobalCommitActs : globalCommit.runs ∧ globalCommit.bcu.test = .idle ∧
    let s := run .commitComplete globalCommit
    s.lsu.winLen = 133 ∧ s.lsu.liveV = 9600 ∧ s.bcu.charge = 64800000 ∧ s.rcc.chan = .searching ∧ s.bcu.countdown = some 10080 ∧
    s.rcc.statusLeft = some 15 := by
  refine ⟨⟨rfl, rfl, rfl⟩, rfl, ?_⟩
  decide +kernel

theorem witness_GroupIsSelected : base.serving ∧ base.seq.decided = true ∧ seqSettled base ∧ ¬ seqSettled tripping ∧
    base.sst.staging = .empty := by
  refine ⟨⟨⟨rfl, rfl, rfl⟩, rfl⟩, rfl, Or.inr (Or.inr ⟨rfl, rfl⟩), ?_, rfl⟩
  simp [seqSettled, tripping, base]


/-! ### The host link (spec/10) -/

/-- R189: 0x4A4B, part 460, and a revision that counts from 1. -/
theorem test_identify : ((run (.identify 7#8) base).hlc.tx.map fun f => (f.kind, f.tag, f.body.take 5)) =
    [(0x81#8, 7#8, [0#8, 0x4A#8, 0x4B#8, 0x01#8, 0xCC#8])] := by rfl

/-- R16: the magnitudes of phase A and neutral, two bytes each. -/
theorem test_read_measure :
    ((run (.readMeasure 7#8) { base with lsu := { base.lsu with meas := { base.lsu.meas with a := 800, n := 258 } } }).hlc.tx.map
      fun f => f.body.take 9) = [[0#8, 0x03#8, 0x20#8, 0#8, 0#8, 0#8, 0#8, 0x01#8, 0x02#8]] := by decide +kernel

/-- R186: section 8 is BAD_FIELD. -/
theorem test_read_state :
    (run (.readState 7#8 8#8 0#8) base).hlc.tx = [⟨0x83#8, 7#8, [6#8], false⟩] ∧
    ((run (.readState 7#8 0#8 0#8) base).hlc.tx.map fun f => (f.kind, f.body.take 1)) = [(0x83#8, [0#8])] := by decide +kernel

/-- R182: the frame of TAG_PLACE of crew 55 for 120 minutes under tag 5, written out byte by byte. -/
theorem test_host_frame :
    let s := run (.hostFrameReceived [0xD2#8, 0x05#8, 0x20#8, 0x05#8, 0x00#8, 0x37#8, 0x00#8, 0x00#8, 0x78#8, 0xD6#8, 0x2C#8]) base
    s.tag.table.slots.head? = some (some ⟨1, 55, .noReclose, .link, none, some 120⟩) ∧
    (run (.hostFrameReceived [0xD2#8, 0x00#8, 0x01#8, 0x07#8, 0x8F#8, 0x4B#8]) base).hlc.tx = [] := by decide +kernel

/-- R182: a frame in two pieces after a byte of noise, and one cut short by 50 ms of silence. -/
theorem test_frame_byte_timeout :
    let s := run (.hostFrameReceived [0xFF#8, 0xD2#8, 0x00#8, 0x01#8]) base
    s.hlc.rx = [0xD2#8, 0x00#8, 0x01#8] ∧ (run .frameByteTimeout s).hlc.rx = [] ∧
    ((run (.hostFrameReceived [0x07#8, 0x8F#8, 0x4A#8]) s).hlc.tx.map (·.kind)) = [0x81#8] := by decide +kernel

/-- R184: 20 ms. -/
theorem test_key_switch : (run (.keySwitchDebounced .loc 20) base).hlc.key = .loc ∧
    (run (.keySwitchDebounced .loc 19) base).hlc.key = .remote := by decide +kernel

/-- R182, R188: READY of a cold start on the line. -/
theorem test_host_frame_transmitted :
    (run .hostFrameTransmitted { base with hlc := { base.hlc with tx := [⟨0xF1#8, 0#8, [0#8], true⟩] } }).hlc.htx =
      [0xD2#8, 0x01#8, 0xF1#8, 0x00#8, 0x00#8, 0x26#8, 0x16#8] := by decide +kernel

/-- R183: a fifth waiting frame is BUSY (5). -/
theorem test_busy :
    let f : RxFrame := ⟨0x01#8, 1#8, .identify⟩
    (run (.identify 7#8) { base with hlc := { base.hlc with current := some ⟨0x54#8, 9#8, .commit⟩, queue := [f, f, f, f] } }).hlc.tx =
      [⟨0x81#8, 7#8, [5#8], false⟩] := by decide +kernel

/-! ### Premises met -/

theorem witness_EmptyQueueRuns : base.pending = [] ∧ base.stage.started = true ∧ due base = none ∧
    due deadEnded = some .deadTimerExpiry ∧ State.reset.stage.started = false ∧ due State.reset = none ∧
    (after (step { tripping with act := { tripping.act with pulseMs := some 120 } })).act.pulseMs = some 120 ∧
    (after (step { reclosing with act := { reclosing.act with pulseMs := some 199 } })).act.pulseMs = some 200 ∧
    (after (step { base with rcc := { base.rcc with frameMs := some 7999, missTested := true } })).rcc.missTested = false := by
  refine ⟨rfl, rfl, ?_⟩
  decide +kernel

theorem witness_EveryCommandCompletes : (Instr.magnitudeUpdate quietBlock).wellFormed = true ∧ ([] : List SampleSet).length ≠ 16 := by
  decide

/-- A side one update short of LIVE, and a voltage in the band. -/
theorem witness_LineStatesFollowTheRuns :
    let s := { base with lsu := { fullLsu ⟨0, 0, 0, 0, 11000, 5000⟩ with source := ⟨.dead, 49, 0⟩ } }
    let t := run (.magnitudeUpdate (blockOf ⟨0, 0, 0, 0, 11000, 5000⟩)) s
    s.stage.started = true ∧ s.lsu.fillsNow ∧ s.lsu.deadV < s.lsu.liveV ∧ t.lsu.source = ⟨.live, 50, 0⟩ ∧ s.lsu.liveV ≤ t.lsu.meas.vs ∧
    s.lsu.deadV ≤ t.lsu.meas.vl ∧ t.lsu.meas.vl < s.lsu.liveV := by decide +kernel

theorem witness_PulsesWithoutMovement : (tripping.runs ∧ (tripping.act.state = .tripPulse ∧
      { tripping with act := { tripping.act with pulseMs := some 120 } }.act.spent = true)) ∧ tripping.runs ∧ tripping.orl.part = none ∧ tripping.seq.trip = some [.element .pf] ∧
    tripping.seq.pendingGroup = none ∧ tripping.sst.held = none ∧ reclosing.runs ∧ reclosing.act.state = .closePulse ∧
    reclosing.seq.state = .reclosing := ⟨⟨⟨rfl, rfl, rfl⟩, rfl, rfl⟩, ⟨rfl, rfl, rfl⟩, rfl, rfl, rfl, rfl, ⟨rfl, rfl, rfl⟩, rfl, rfl⟩

theorem witness_MechFailCleared :
    let s := { base with hlc := { base.hlc with key := .loc }, seq := { base.seq with state := .mechFail, pendingGroup := some 1 } }
    s.serving ∧ s.act.state = .idle ∧ s.act.position = .closed := ⟨⟨⟨rfl, rfl, rfl⟩, rfl⟩, rfl, rfl⟩

theorem withTags_serves (t : TagTable) : (withTags t).serving ∧ (withTags t).seq.decided = true := ⟨⟨⟨rfl, rfl, rfl⟩, rfl⟩, rfl⟩

/-- Tag 12 is held, 11 is not. -/
theorem witness_TagIsRemoved : (withTags sevenTags).serving ∧ sevenTags.sound ∧ linkTag 12 4 ∈ sevenTags.tags ∧
    sevenTags.holds 11 = false ∧ ({ withTags sevenTags with hlc := { base.hlc with key := .loc } } : State).serving :=
  ⟨(withTags_serves sevenTags).1, witness_TagTable.1, by decide +kernel, by decide +kernel, ⟨⟨rfl, rfl, rfl⟩, rfl⟩⟩

/-- Tags at one minute, at two and without a count, in the 60th minute. -/
def minuteTable : TagTable :=
  ⟨[some { linkTag 1 2 with left := some 1 }, some { linkTag 2 3 with left := some 2 }, some (linkTag 3 4)] ++ List.replicate 5 none, 4⟩

theorem witness_MinuteTakesMinutes : minuteTable.sound ∧ (withTags minuteTable).stage.started = true ∧
    (∃ x ∈ minuteTable.tags, x.left = some 1) ∧ ∃ x ∈ minuteTable.tags, ∃ n ∈ x.left, 2 ≤ n := by
  refine ⟨⟨rfl, ?_, by decide, by decide, by decide⟩, rfl, ⟨{ linkTag 1 2 with left := some 1 }, by decide, rfl⟩,
    { linkTag 2 3 with left := some 2 }, by decide, 2, rfl, by decide⟩
  intro x hx
  fin_cases hx <;> simp [Tag.sound, linkTag]

/-- A table whose only tag was restored with no minute left: sound, and TAG_EXPIRY removes the tag. -/
def restoredTable : TagTable := ⟨some { linkTag 1 2 with left := some 0 } :: List.replicate 7 none, 2⟩

theorem witness_MinuteTakesMinutes_restored : restoredTable.sound ∧ (∃ x ∈ restoredTable.tags, x.left = some 0) ∧
    (run .tagExpiry (withTags restoredTable)).tag.table.slots = List.replicate 8 none ∧
    (run .tagExpiry (withTags restoredTable)).orl.ring.map (·.body.kindCode) = [5] := by
  refine ⟨⟨rfl, ?_, by decide, by decide, by decide⟩, ⟨{ linkTag 1 2 with left := some 0 }, by decide, rfl⟩, by decide +kernel,
    by decide +kernel⟩
  intro x hx
  fin_cases hx
  simp [Tag.sound, linkTag]

theorem witness_BatteryMeasurementMoves : base.runs ∧ base.bcu.level ≠ .exhausted ∧ base.bcu.test = .idle ∧
    (run (.batteryMeasurement ⟨27300, 90, 25, true⟩ ⟨0, 0⟩) base).bcu.level ≠ .exhausted := by
  refine ⟨⟨rfl, rfl, rfl⟩, by decide, rfl, ?_⟩
  decide +kernel

theorem witness_TimeBaseCounts : base.stage.started = true ∧ base.orl.sec ≤ 59 ∧ base.orl.time < 4294967295 ∧ base.serving ∧
    (run .warmStart { base with restarting := some 5 }).stage = .startDelay .warm :=
  ⟨rfl, by decide +kernel, by decide +kernel, ⟨⟨rfl, rfl, rfl⟩, rfl⟩, by decide +kernel⟩

/-- The second count at the two ends of its last second. -/
theorem witness_TimeBaseCounts_sec :
    [58, 59].map (fun n => let t := run .timeBaseSecond { base with orl := { base.orl with sec := n } }
                           (t.orl.sec, t.orl.time - base.orl.time)) = [(59, 1), (0, 1)] := by decide +kernel

theorem witness_HostLineEvents : base.hlc.rx = [] ∧ base.serving ∧ (∀ n, (0x77#8, n) ∉ catalogue) ∧ (0x60#8, 0) ∈ catalogue ∧
    0xD2#8 ∉ [0x00#8, 0x01#8, 0x07#8, 0x00#8, 0x00#8] ∧ [0x00#8, 0x00#8] ≠ crcBytes [0x00#8, 0x01#8, 0x07#8] := by
  refine ⟨rfl, ⟨⟨rfl, rfl, rfl⟩, rfl⟩, ?_, by decide, by decide, by decide +kernel⟩
  intro n
  simp [catalogue]

theorem witness_HostLineEvents_key : base.stage.started = true ∧ base.hlc.keyRaw = .remote ∧ base.hlc.tx = [] := ⟨rfl, rfl, rfl⟩

theorem witness_BlocksAnswerOnlyToTheirCommands : base.hlc.queue = [] ∧ ∃ t, exec .timeBaseSecond base = .next t ∧ t.orl.time = 1 :=
  ⟨rfl, _, rfl, by decide +kernel⟩

/-- The own slot brings the untested end of slot 0 and with it the fourth miss. -/
theorem witness_BlocksAnswerOnlyToTheirCommands_slot :
    let s : State := { base with rcc := { base.rcc with chan := .synced, frameMs := some 450, beaconSeen := false, missTested := false,
                                                        slotTaken := false, missCount := 3, tx := none } }
    s.hlc.queue = [] ∧ (run (.ownSlotStart false) s).rcc.chan = .searching := by decide +kernel

/-! ### Premises of the statements with several clauses

Each list holds one state for each clause, at the boundary of its range, with what the clause says comes of it. -/

/-- PF in the pickup band at 400 A, in the hold band at 399 A and 380 A, and below it. -/
theorem witness_ElementsCompute :
    let s (i : Int) : State := { aboutToOperate with lsu := fullLsu ⟨i, 0, 0, 0, 0, 0⟩ }
    let of (i : Int) := (run (.magnitudeUpdate (blockOf ⟨i, 0, 0, 0, 0, 0⟩)) (s i)).peu.elems.pf
    (armedAt aboutToOperate .pf ∧ ¬ armedAt aboutToOperate .hs ∧ ¬ armedAt aboutToOperate .hlp) ∧
    aboutToOperate.runs ∧ ¬ sourceRetries quietBlock aboutToOperate ∧
    of 400 = ⟨.operated, 1000000⟩ ∧ of 399 = ⟨.held, 999000⟩ ∧ of 380 = ⟨.held, 999000⟩ ∧ of 379 = ⟨.quiet, 0⟩ := by
  refine ⟨?_, ⟨rfl, rfl, rfl⟩, ?_, ?_⟩
  · simp only [armedAt]
    decide +kernel
  · simp [sourceRetries, aboutToOperate, base]
  · decide +kernel

/-- SEQ and ACT of the state in which PF is about to operate, replaced. -/
def operateIn (x : State) : State := { aboutToOperate with seq := x.seq, act := x.act }

theorem witness_ElementOperateTrips :
    ∀ x ∈ [(base, SeqState.tripping, ActState.tripPulse), ({ base with act := { base.act with cap := 149 } }, .tripping, .tripHeld),
           (reclosing, .tripping, .tripPulse), (tripping, .tripping, .tripPulse), (deadEnded, .tripping, .tripPulse),
           ({ locked with seq := { locked.seq with shots := 0 } }, .lockout, .tripPulse),
           ({ tripping with seq := { tripping.seq with state := .mechFail } }, .mechFail, .tripPulse)],
      let s := operateIn x.1
      let block := blockOf ⟨28000, 0, 0, 0, 0, 0⟩
      (s.stage = .running ∧ s.restarting = none ∧ s.hlc.queue = []) ∧ s.seq.decided = true ∧
      (peuInputs { s with lsu := s.lsu.push block }).cause s.peu = some .pf ∧
      (run (.elementOperate block) s).seq.state = x.2.1 ∧ (run (.elementOperate block) s).act.state = x.2.2 := by decide +kernel

/-- One state at the end of the dead time for each outcome. -/
def deadEnds : List (State × SeqState × Option Cause) :=
  [(deadEnded, .reclosing, none),
   ({ deadEnded with seq := { deadEnded.seq with shots := 3 } }, .lockout, some .shots),
   ({ deadEnded with bcu := { deadEnded.bcu with level := .conserve } }, .lockout, some .conserve),
   ({ deadEnded with lsu := { deadEnded.lsu with load := ⟨.live, 50, 0⟩ } }, .lockout, some .loadLive),
   ({ deadEnded with lsu := { deadEnded.lsu with source := ⟨.dead, 0, 30⟩ } }, .recloseHold, none),
   ({ deadEnded with lsu := { deadEnded.lsu with source := ⟨.dead, 0, 30⟩ },
                     sst := { deadEnded.sst with group := deadEnded.sst.group.set 53 0 } }, .lockout, some .sourceTimeout),
   ({ deadEnded with act := { deadEnded.act with mech := true } }, .lockout, some .mechCleared),
   ({ deadEnded with act := { deadEnded.act with position := .unknown } }, .lockout, some .externalOpen),
   ({ deadEnded with act := { deadEnded.act with position := .closed } }, .reclaim, none),
   ({ deadEnded with tag := ⟨sevenTags, 0⟩ }, .lockout, some .shots),
   ({ deadEnded with tag := ⟨sevenTags, 0⟩, seq := { deadEnded.seq with shots := 0 } }, .lockout, some .tag),
   ({ deadEnded with act := { deadEnded.act with cap := 249 } }, .recloseHold, none)]

theorem witness_DeadTimeEndsByTheChecks :
    ∀ x ∈ deadEnds, x.1.stage = .running ∧ x.1.seq.state = .deadTime ∧ x.1.act.state = .idle ∧
      (run .deadTimerExpiry x.1).seq.state = x.2.1 ∧ (run .deadTimerExpiry x.1).seq.cause = x.2.2 := by decide +kernel

/-- A reclose on hold for energy at 249 V. -/
def energyHold : State :=
  { deadEnded with seq := { deadEnded.seq with state := .recloseHold, deadNo := none, deadLeft := none,
                                               holdReason := some .energy, holdLeft := some 5000 }
                   act := { deadEnded.act with cap := 249 } }

/-- A reclose on hold for the source, one update before it is LIVE. -/
def sourceHold : State :=
  { energyHold with seq := { energyHold.seq with holdReason := some .source }
                    lsu := { fullLsu ⟨0, 0, 0, 0, 11000, 0⟩ with source := ⟨.dead, 49, 0⟩ } }

theorem witness_HoldIsRetriedOrExpires :
    (energyHold.runs ∧ energyHold.seq.decided = true ∧ energyHold.act.state = .idle) ∧ sourceHold.lsu.sound ∧
    noProtectionEvent (blockOf ⟨0, 0, 0, 0, 11000, 0⟩) sourceHold ∧
    ((sourceHold.lsu.fillsNow ∧ sourceHold.lsu.deadV < sourceHold.lsu.liveV) ∧
     sourceHold.lsu.liveV ≤ (sourceHold.lsu.push (blockOf ⟨0, 0, 0, 0, 11000, 0⟩)).meas.volts .source) ∧
    (run (.capacitorMeasurement 250) energyHold).seq.state = .reclosing ∧
    (run (.capacitorMeasurement 250) { energyHold with lsu := { energyHold.lsu with source := ⟨.dead, 0, 30⟩ } }).seq.holdReason
      = some .source ∧
    (run (.liveQualified .source (blockOf ⟨0, 0, 0, 0, 11000, 0⟩)) sourceHold).seq.holdReason = some .energy ∧
    (run (.liveQualified .source (blockOf ⟨0, 0, 0, 0, 11000, 0⟩)) { sourceHold with act := { sourceHold.act with cap := 250 } }).seq.state
      = .reclosing ∧
    (run .holdTimerExpiry sourceHold).seq.cause = some .sourceTimeout ∧ (run .holdTimerExpiry energyHold).seq.cause = some .energy := by
  refine ⟨⟨⟨rfl, rfl, rfl⟩, rfl, rfl⟩, ⟨Or.inl rfl, by decide +kernel, by decide +kernel, fun x hx => ?_, by decide, by decide⟩,
    ⟨by decide +kernel, by decide +kernel⟩, by decide +kernel, ?_⟩
  · obtain rfl := List.eq_of_mem_replicate hx
    decide
  · decide +kernel

/-- SEQ's states with the outcome of an OPEN. -/
def opens : List (State × SeqState × ActState) :=
  [(base, .tripping, .tripPulse), ({ base with act := { base.act with cap := 149 } }, .tripping, .tripHeld),
   (reclosing, .tripping, .tripPulse), (tripping, .tripping, .tripPulse), (deadEnded, .lockout, .idle), (energyHold, .lockout, .idle),
   (locked, .lockout, .idle), ({ locked with act := { locked.act with position := .unknown } }, .lockout, .tripPulse),
   ({ locked with seq := { locked.seq with state := .mechFail, cause := none } }, .mechFail, .tripPulse),
   ({ tripping with seq := { tripping.seq with state := .mechFail } }, .mechFail, .tripPulse)]

theorem witness_HostOpens :
    ∀ x ∈ opens, (x.1.stage = .running ∧ x.1.restarting = none ∧ x.1.hlc.queue = [] ∧ x.1.hlc.current = none) ∧ x.1.seq.decided = true ∧
      (run (.hostOpen 1#8) x.1).seq.state = x.2.1 ∧ (run (.hostOpen 1#8) x.1).act.state = x.2.2 := by decide +kernel

/-- A tag table with one tag of a mode. -/
def oneTag (mode : TagMode) : TagBlock := ⟨⟨some ⟨1, 17, mode, .radio, none, none⟩ :: List.replicate 7 none, 2⟩, 0⟩

/-- R56 with R96: NO_CLOSE placed in the pulse of an automatic close, at position OPEN, is DEFERRED_IN_FLIGHT and stays; the close's DONE
clears the manual-close flag all the same, and the first trip locks out. -/
theorem test_deferred_tag_governs_after_the_close :
    let s : State := { reclosing with act := { reclosing.act with position := .isOpen } }
    let placed (mode : Byte) := run (.tagPlace 5#8 17#16 mode 0#16) s
    let closed (mode : Byte) := run (.contactDebounced .closedContact .made 4 fin250) (placed mode)
    (placed 1#8).hlc.tx.getLast?.map (·.body.take 1) = some (be1 Res.deferredInFlight.code) ∧
    [closed 1#8, closed 0#8].map (fun t => (t.seq.state, t.seq.manual, t.seq.shots, tripsToLockout t)) =
      List.replicate 2 (.reclaim, false, 1, 1) ∧
    (closed 1#8).tag.table.mode = .noClose := by decide +kernel

/-- LOCKOUT with the key switch at LOCAL. -/
def atKey (s : State) : State := { s with hlc := { s.hlc with key := .loc } }

/-- States with the answer to a CLOSE, absent where the close begins. -/
def closes : List (State × Option Res) :=
  [({ locked with act := { locked.act with state := .tripHeld, heldMs := some 5 } }, some .busy),
   ({ locked with act := { locked.act with mech := true } }, some .mechFail),
   ({ locked with act := { locked.act with position := .unknown } }, some .positionUnknown),
   ({ locked with act := { locked.act with position := .closed } }, some .notLockedOut),
   (atKey { locked with tag := oneTag .noClose }, some .tagNoClose), ({ locked with tag := oneTag .noReclose }, some .tagNoReclose),
   ({ locked with bcu := { locked.bcu with level := .conserve } }, some .conserve),
   ({ locked with act := { locked.act with cap := 249 } }, some .lowEnergy), ({ locked with act := { locked.act with cap := 250 } }, none),
   ({ locked with bcu := { locked.bcu with level := .lean } }, none), (atKey { locked with tag := oneTag .noReclose }, none),
   (atKey { locked with bcu := { locked.bcu with level := .exhausted } }, none),
   ({ locked with seq := { locked.seq with state := .mechFail } }, some .mechFail), (base, some .notLockedOut)]

theorem witness_HostCloses :
    ∀ x ∈ closes, (x.1.stage = .running ∧ x.1.restarting = none ∧ x.1.hlc.queue = [] ∧ x.1.hlc.current = none) ∧ x.1.seq.decided = true ∧
      (run (.hostClose 1#8) x.1).hlc.tx.map (·.body) = (x.2.map fun r => be1 r.code).toList ∧
      ((run (.hostClose 1#8) x.1).act.state = .closePulse ↔ x.2 = none) := by decide +kernel

/-- The departing fault counts with coordination on and not with it off; the detector is rearmed once PF is QUIET. -/
theorem witness_CoordinationStep :
    let block := blockOf ⟨0, 0, 0, 0, 11000, 0⟩
    departing.runs ∧ departing.seq.decided = true ∧ departureRaised block departing ∧ ¬ sourceRetries block departing ∧
    ¬ departureRaised block base ∧
    (departing.sst.group.field 51 = 1 ∧ departing.lsu.source.line = .live ∧ departing.seq.shots < fastEntries departing.sst.group) ∧
    (run (.magnitudeUpdate block) { departing with sst := { departing.sst with group := departing.sst.group.set 51 0 } }).seq
      = departing.seq := by
  refine ⟨⟨rfl, rfl, rfl⟩, rfl, ⟨rfl, ⟨.pf, ⟨Or.inl rfl, ?_⟩, by decide +kernel⟩, ?_, ?_⟩, ?_, ?_, by decide +kernel, by decide +kernel⟩
  · simp only [armedAt]
    decide +kernel
  · intro e
    cases e <;> simp only [operatedAfter, armedAt] <;> decide +kernel
  · rintro e ⟨h | h, -⟩ <;> subst h <;> decide +kernel
  · simp [sourceRetries, departing, base]
  · rintro ⟨-, ⟨e, ⟨h | h, -⟩, ha⟩, -⟩ <;> subst h <;> revert ha <;> decide +kernel

/-- Measurements of the converter's bands, and a held trip released at 150 V and not at 149 V. -/
theorem witness_CapacitorMeasured :
    let held : State := { tripping with act := { tripping.act with state := .tripHeld, pulseMs := none, before := none, heldMs := some 9,
                                                                    cap := 100, converter := .full } }
    let at' (c : Converter) (v : Nat) := (run (.capacitorMeasurement v) { base with act := { base.act with converter := c } }).act.converter
    base.stage.started = true ∧ base.seq.state ≠ .recloseHold ∧ base.act.spent = false ∧ held.act.spent = false ∧
    (run (.capacitorMeasurement 150) held).act.state = .tripPulse ∧ (run (.capacitorMeasurement 149) held).act.state = .tripHeld ∧
    [at' .full 249, at' .full 250, at' .topup 249, at' .topup 250, at' .topup 299, at' .topup 300, at' .off 249, at' .off 250, at' .off 289,
      at' .off 290] = [.full, .topup, .full, .topup, .topup, .off, .full, .topup, .topup, .off] := by decide +kernel

/-- Placements with their answers: the fields at their limits, the position, a full table, a place left. -/
theorem witness_TagIsPlaced :
    let answered (crew : Nat) (mode : Byte) (expiry : Nat) (s : State) : List Byte :=
      (run (.tagPlace 5#8 (BitVec.ofNat 16 crew) mode (BitVec.ofNat 16 expiry)) s).hlc.tx.getLast?.toList.flatMap (·.body.take 1)
    let full : State := withTags (sevenTags.store (linkTag 0 55))
    (withTags sevenTags).serving ∧ sevenTags.sound ∧ locked.serving ∧ full.tag.table.tags.length = 8 ∧
    [answered 0 0#8 0 base, answered 10000 0#8 0 base, answered 9 2#8 0 base, answered 9 0#8 14 base, answered 9 0#8 1441 base,
      answered 9 1#8 15 locked] = List.replicate 6 (be1 Res.badField.code) ∧
    answered 9 1#8 0 base = be1 Res.notOpen.code ∧ answered 9 0#8 0 full = be1 Res.tableFull.code ∧
    [answered 1 0#8 15 base, answered 9999 0#8 1440 base, answered 9 1#8 0 locked] = List.replicate 3 (be1 Res.ok.code) ∧
    (run (.tagPlace 5#8 9#16 1#8 0#16) locked).tag.table.mode = .noClose ∧
    (run (.tagPlace 5#8 9#16 0#8 0#16) energyHold).seq.cause = some .tag ∧
    answered 9 0#8 0 reclosing = be1 Res.deferredInFlight.code := by
  refine ⟨(withTags_serves sevenTags).1, witness_TagTable.1, ⟨⟨rfl, rfl, rfl⟩, rfl⟩, ?_⟩
  decide +kernel

/-- A tag of either mode is refreshed. -/
theorem witness_TagIsRefreshed :
    (withTags sevenTags).serving ∧ (withTags sevenTags).seq.decided = true ∧ sevenTags.sound ∧
    sevenTags.slots.getD 3 none = some (linkTag 12 4) ∧ locked.serving ∧ (oneTag .noClose).table.sound ∧
    (run (.tagPlace 5#8 17#16 1#8 0#16) { locked with tag := oneTag .noClose }).tag.table.slots.head? =
      some (some ⟨1, 17, .noClose, .link, none, none⟩) := by
  refine ⟨(withTags_serves sevenTags).1, rfl, witness_TagTable.1, rfl, ⟨⟨rfl, rfl, rfl⟩, rfl⟩, ⟨rfl, ?_, by decide, by decide, by decide⟩,
    by decide +kernel⟩
  intro x hx
  fin_cases hx
  simp [Tag.sound]

/-- R112: 1,700 mA in BULK for 17 Ah, the setpoints in ABSORB and FLOAT, nothing in TEST. -/
theorem test_charger_output :
    [Charger.noSupply, .bulk, .absorb, .float, .test, .fault].map (fun c => { base with bcu := { base.bcu with charger := c } }.chargerOutput)
      = [.off, .current 1700, .voltage 28800 1700, .voltage 27300 1700, .off, .off] := by decide +kernel

/-- Charger moves with their states, at the boundaries of their conditions. -/
theorem witness_ChargerMoves :
    let at' (c : Charger) (m : BattMeas) : Charger :=
      (run (.batteryMeasurement m ⟨0, 0⟩) { base with bcu := { base.bcu with charger := c } }).bcu.charger
    base.runs ∧ base.bcu.test = .idle ∧
    [at' .bulk ⟨28000, 90, 56, true⟩, at' .bulk ⟨28000, 90, -31, true⟩, at' .bulk ⟨31001, 90, 25, true⟩] = List.replicate 3 .fault ∧
    [at' .bulk ⟨28799, 90, 25, true⟩, at' .bulk ⟨28800, 90, 25, true⟩, at' .noSupply ⟨28000, 0, 25, true⟩, at' .float ⟨28000, 0, 25, false⟩]
      = [.bulk, .absorb, .bulk, .noSupply] ∧
    [at' .absorb ⟨28800, 169, 25, true⟩, at' .absorb ⟨28800, 170, 25, true⟩, at' .float ⟨26699, 0, 25, true⟩] = [.float, .absorb, .float] ∧
    (countAfter { base with bcu := { base.bcu with resync := 3599 } } 169).2 = 3600 := by
  refine ⟨⟨rfl, rfl, rfl⟩, rfl, ?_⟩
  decide +kernel

/-- Levels before and after a measurement, at the boundaries of the floor and of a climb. -/
theorem witness_ReserveLevelIsGraded :
    let full := 61200000
    let level (l : Level) (percent count mv : Nat) : Level :=
      (run (.batteryMeasurement ⟨mv, 0, 25, true⟩ ⟨0, 0⟩)
        { base with bcu := { base.bcu with level := l, charge := full * percent / 100, lowRun := count, recRun := count } }).bcu.level
    base.runs ∧ sagging.runs ∧ sagging.seq.decided = true ∧ sagging.bcu.shutdown = none ∧
    (let sag (s : State) := (run (.batteryMeasurement ⟨20999, -500, 25, false⟩ ⟨0, 0⟩) s).bcu.shutdown
     [sag sagging, sag { sagging with bcu := { sagging.bcu with measCount := 599 } },
      sag { sagging with act := { sagging.act with position := .isOpen } }] = [some .tripWait, some .tripWait, some .writeWait]) ∧
    [level .normal 40 0 25000, level .normal 39 0 25000, level .normal 20 0 25000, level .normal 19 0 25000] =
      [.normal, .lean, .lean, .conserve] ∧
    [level .normal 90 9 22999, level .normal 90 8 22999, level .lean 45 0 25000, level .lean 44 0 25000] =
      [.conserve, .normal, .normal, .lean] ∧
    [level .conserve 25 59 23000, level .conserve 25 58 23000, level .conserve 24 59 23000] = [.lean, .conserve, .conserve] := by
  refine ⟨⟨rfl, rfl, rfl⟩, ⟨rfl, rfl, rfl⟩, rfl, rfl, ?_⟩
  decide +kernel

theorem witness_PartStops :
    let gone : State := { base with sst := { base.sst with lost := true, lostMs := 200 } }
    let stopping : State := { sagging with bcu := { sagging.bcu with shutdown := some .writeWait },
                                           sst := { sagging.sst with staging := .opened ⟨.global, deliveredGlobal, 0⟩ } }
    base.sst.lost = false ∧ (run .holdUpEnd gone).stage = .stopped ∧ (run .partStop stopping).stage = .stopped ∧
    (run .supplyLoss committing2).sst.staging = .committing ⟨.group 2, deliveredGroup.set 8 6, 9⟩ false true ∧
    (run .tripWaitTimeout { sagging with bcu := { sagging.bcu with shutdown := some .tripWait } }).bcu.shutdown = some .tripWait := by
  decide +kernel

/-- Suspensions, resumptions and ends of a load test. -/
theorem witness_LoadTestRuns :
    let suspended : State := { loaded with bcu := { loaded.bcu with test := .suspended, charger := .bulk, loadMs := 700 } }
    let stuck : State := { locked with bcu := loaded.bcu, act := { locked.act with position := .unknown } }
    let m (mv : Nat) (supply : Bool) : Instr := .batteryMeasurement ⟨mv, -100, 25, supply⟩ ⟨25000, -2000⟩
    let low (s : State) : State := { s with bcu := { s.bcu with lowRun := 9 } }
    loaded.serving ∧ loaded.seq.decided = true ∧
    (stuck.serving ∧ stuck.seq.state = .lockout ∧ stuck.act.position = .unknown ∧ stuck.seq.trip = none) ∧
    [run (.hostOpen 1#8) loaded, run (.hostOpen 1#8) stuck, run (.capacitorMeasurement 249) loaded, run (m 25000 false) loaded].map
      (fun s => (s.bcu.test, s.testLoadDrive)) = List.replicate 4 (.suspended, false) ∧
    ((run (.hostOpen 1#8) stuck).act.state, (run (.hostOpen 1#8) stuck).seq.state) = (.tripPulse, .lockout) ∧
    [run (.capacitorMeasurement 250) { suspended with act := { suspended.act with cap := 249 } }, run (m 25000 true) suspended,
      run .reclaimTimerExpiry { suspended with seq := { suspended.seq with state := .reclaim, reclaimLeft := some 0 } }].map
        (fun s => (s.bcu.test, s.bcu.loadMs)) = List.replicate 3 (.settling, 700) ∧
    (run (m 22000 true) (low loaded)).orl.ring.map (·.body) =
      [.battery .conserve 89 22000, .test .fail (some 478) (some 25000)] ∧
    (run (m 22000 true) (low suspended)).orl.ring.map (·.body) = [.battery .conserve 89 22000, .test .abandoned none none] ∧
    [run (.loadTestComplete ⟨24000, -909⟩) loaded, run (.loadTestComplete ⟨25880, -910⟩) loaded,
      run (.loadTestComplete ⟨23999, -20000⟩) loaded].map (fun s => s.orl.ring.map (·.body)) =
      [[.test .fail none (some 24000)], [.test .pass (some 120) (some 25880)], [.test .fail (some 99) (some 23999)]] := by
  refine ⟨⟨⟨rfl, rfl, rfl⟩, rfl⟩, rfl, ⟨⟨⟨rfl, rfl, rfl⟩, rfl⟩, rfl, rfl, rfl⟩, ?_⟩
  decide +kernel

/-- A trip pulse of 44 ms, a held trip, and phase A one percent below its threshold. -/
theorem witness_InterruptionAddsWear :
    let worn : State := { tripping with orl := { tripping.orl with wearA := ⟨7999999, 79, .none⟩ }
                                        lsu := { tripping.lsu with meas := { tripping.lsu.meas with a := 100 } } }
    let t := run (.contactDebounced .openContact .made 4 fin250) worn
    worn.runs ∧ opensNow worn ∧ worn.orl.part = none ∧ worn.seq.trip = some [.element .pf] ∧
    t.orl.wearA = ⟨8000000, 80, .eighty⟩ ∧ t.orl.ring.map (·.body.kindCode) = [0, 13] ∧ wearsDue worn t = [.wear .a 80] := by
  refine ⟨⟨rfl, rfl, rfl⟩, ⟨rfl, by decide +kernel⟩, rfl, rfl, ?_⟩
  decide +kernel

/-- R136: the numbers stay within 1..4,294,967,295. -/
theorem test_record_numbers : recordAfter 4294967294 = 4294967295 ∧ realNumber (recordAfter 4294967295) := by
  refine ⟨by decide, Nat.le_add_left 1 _, ?_⟩
  have h : Config.recordNumberAfterTop % 4294967295 < 4294967295 := Nat.mod_lt _ (by decide)
  exact h

theorem witness_OperationLogStaysARun : logsSound base ∧ logSound [⟨4, .sourceLost, 0, false⟩, ⟨5, .sourceRestored, 0, false⟩] 6 := by
  refine ⟨⟨?_, ?_, ?_⟩, ?_⟩
  · simp +decide [logSound, realNumber]
  · simp +decide [logSound, realNumber]
  · rintro r n (h | h)
    · have h' : (none : Option RetItem) = some (.ring r n) := h
      cases h'
    · exact absurd h List.not_mem_nil
  · simp +decide [logSound, realNumber]

/-- A report at its fourth try, one at its third, and a STATUS entry with a younger one beside it. -/
theorem witness_BeaconIsHandled :
    let with' (l : List Entry) : State := { storm with rcc := { storm.rcc with outbox := l } }
    let back (l : List Entry) := ((run (beaconOf [] []) (with' l)).rcc.outbox.map fun e => (e.cls, e.tries),
      (run (beaconOf [] []) (with' l)).rcc.lost)
    (⟨7, 1718100000, [], []⟩ : Beacon).fits ∧ storm.runs ∧ storm.rcc.chan ≠ .silent ∧
    back [⟨.coord, some 740, true, 3, some 39, none, 0⟩] = ([], 1) ∧ back [⟨.coord, some 740, true, 2, some 39, none, 0⟩] = ([(.coord, 3)], 0) ∧
    back [⟨.lockout, some 740, true, 3, some 39, none, 0⟩] = ([(.lockout, 4)], 0) ∧
    back [⟨.status, none, true, 1, some 39, some 0, 0⟩, ⟨.status, none, false, 0, none, none, 1⟩] = ([(.status, 2)], 0) ∧
    back [⟨.status, none, true, 3, some 39, some 0, 0⟩, ⟨.status, none, false, 0, none, none, 1⟩] = ([(.status, 0)], 1) := by
  refine ⟨⟨by decide, by decide, by decide, by decide, by decide, by decide, by decide +kernel⟩, ⟨rfl, rfl, rfl⟩, by decide +kernel, ?_⟩
  decide +kernel

/-- The station's slot with a reply, with a report, with nothing, and at the end of a slot 0 not yet tested. -/
theorem witness_RadioTimesItsSlots :
    let mine : State := { storm with rcc := { storm.rcc with slotTaken := false, missTested := true, outbox := stormOutbox.drop 1 } }
    let untested : State := { mine with rcc := { mine.rcc with missTested := false } }
    (mine.stage = .running ∧ mine.rcc.chan = .synced ∧ mine.rcc.tx = none ∧ mine.sst.globalPage.field 4 = 6 ∧ (mine.rcc.frameMs.all (· ≤ 3000)) = true) ∧
    (run (.ownSlotStart false) mine).rcc.outbox.head?.map (·.await) = some true ∧
    run (.ownSlotStart false) untested = run (.ownSlotStart false) (run .beaconMissCheck untested) ∧
    (run (.ownSlotStart false) untested).rcc.missCount = 1 ∧ (run (.ownSlotStart false) untested).rcc.frameMs = some 3000 ∧
    run (.ownSlotStart true) { mine with rcc := { mine.rcc with frameMs := some 3001 } } =
      run (.ownSlotStart true) (run .beaconMissCheck { mine with rcc := { mine.rcc with frameMs := some 3001 } }) ∧
    (run .beaconMissCheck { untested with rcc := { untested.rcc with beaconSeen := true, frameMs := some 3000 } }).rcc.frameMs = some 3000 ∧
    (run (.ownSlotStart false) { mine with rcc := { mine.rcc with outbox := [] } }).rcc.tx = none := by decide +kernel

/-- A full outbox of TRIP entries. -/
def fullOf (cls : Machine.Class) (s : State) : State :=
  { s with rcc := { s.rcc with outbox := (List.range 32).map (fun i => ⟨cls, some (700 + i), false, 0, none, none, i⟩), nextOrder := 32 } }

/-- A LOCKOUT and a TEST report that meet a full outbox of priority 0, 1, 2 and 3. -/
theorem witness_ReportsEnterTheOutbox :
    let records (s : State) := (s.rcc.outbox.head?.bind (·.record), s.rcc.outbox.getLast?.bind (·.record), s.rcc.lost)
    let lockout (s : State) := records (run .holdTimerExpiry s)
    let cancelled (s : State) := records (run (.batteryTestCancel 1#8) { s with bcu := { s.bcu with test := .suspended } })
    (energyHold.stage = .running ∧ energyHold.seq.holdReason = some .energy ∧ energyHold.seq.pendingGroup = none) ∧
    (base.stage = .running ∧ base.rcc.outbox = []) ∧
    lockout energyHold = (some 1, some 1, 0) ∧ lockout (fullOf .lockout energyHold) = (some 701, some 1, 1) ∧
    lockout (fullOf .trip energyHold) = (some 1, some 730, 1) ∧ cancelled (fullOf .coord base) = (some 700, some 731, 1) ∧
    cancelled base = (some 1, some 1, 0) ∧
    records (run (.tagClear 5#8 300#16) (fullOf .source { withTags sevenTags with hlc := { base.hlc with key := .loc } })) =
      (some 1, some 730, 1) := by decide +kernel

/-- A part with a RECORD and a WRITE in flight and two that wait. -/
theorem witness_WriteQueueStaysOrdered : base.sst.writesSound ∧
    ({ base.sst with inFlight := some (.charge 5), queue := [.mech true, .opCount 9] } : Sst).writesSound ∧
    ({ base.sst with staging := .committing ⟨.global, deliveredGlobal, 0⟩ true true, queue := [.mech true] } : Sst).writesSound := by
  refine ⟨⟨List.Pairwise.nil, fun _ => Or.inl rfl, nofun⟩, ⟨by decide, nofun, nofun⟩, ⟨by decide, fun _ => Or.inr (Or.inl rfl), fun _ _ _ => rfl⟩⟩

/-- The commit of group 2 with a selection of it by radio that waits, and a retained write in flight with one that waits. -/
theorem witness_CommitAndWritesComplete :
    let waits : State := { committing2 with sst := { committing2.sst with waiting := [.radio 7] }, rcc := { committing2.rcc with lastId := some 7 } }
    (waits.stage = .running ∧ waits.restarting = none ∧ waits.hlc.queue = []) ∧ waits.seq.decided = true ∧
    2 < waits.sst.store.groups.length ∧ committing2.sst.waiting = [] ∧
    (run .commitComplete waits).rcc.stored = some (.ok, 0) ∧
    (run .commitComplete { waits with seq := { waits.seq with state := .reclaim } }).seq.pendingGroup = some 2 ∧
    (run .commitComplete { waits with sst := { waits.sst with active := 2 } }).rcc.stored = some (.ok, 0) ∧
    (run .retainedWriteComplete { committing2 with sst := { committing2.sst with
      inFlight := some (.mech true), staging := Staging.committing ⟨.group 2, deliveredGroup, 0⟩ true false } }).sst.staging =
      .committing ⟨.group 2, deliveredGroup, 0⟩ true true := by decide +kernel

/-- A changed wear budget: 4,000,000 of 5,000,000 make 80 percent. -/
theorem witness_GlobalCommitActs_wear :
    let s : State := { globalCommit with orl := { globalCommit.orl with wearA := ⟨4000000, 40, .none⟩ }
                                         sst := { globalCommit.sst with
                                           staging := .committing ⟨.global, globalCommit.sst.globalPage.set 9 5000000, 0⟩ true true } }
    s.runs ∧ s.sst.globalPage.field 9 = 10000000 ∧ (run .commitComplete s).orl.wearA = ⟨4000000, 80, .eighty⟩ ∧
    (run .commitComplete s).orl.ring.map (·.body) = [.wear .a 80] := by
  refine ⟨⟨rfl, rfl, rfl⟩, ?_⟩
  decide +kernel

/-- A record and a STATUS request that come before the RESTART record. -/
theorem test_restart_comes_first :
    let s1 : State := { run (.magnitudeUpdate (blockOf ⟨0, 0, 0, 0, 0, 0⟩)) { starting with
      lsu := { fullLsu ⟨0, 0, 0, 0, 0, 0⟩ with source := ⟨.live, 0, 29⟩ }, orl := { starting.orl with time := 5 } } with
        rcc := { storm.rcc with outbox := [], nextOrder := 0, statusLeft := some 1 } }
    let s2 := run .statusIntervalDue { s1 with orl := { s1.orl with sec := 59 } }
    let s3 := run .startReadingTimeout s2
    s2.orl.ring = [] ∧ s2.rcc.outbox = [] ∧ s3.orl.ring.map (fun r => (r.number, r.body.kindCode, r.time)) = [(1, 12, 6), (2, 6, 5)] ∧
    s3.rcc.outbox.head?.map (·.cls) = some .restart ∧ s3.rcc.outbox.any (·.cls == .status) = true := by decide +kernel

/-- R187: replies to requests of the unknown kind 0x70 are no notices. -/
theorem test_reply_is_no_notice :
    let s : State := { base with hlc := { base.hlc with tx := List.replicate 32 ⟨0xF0#8, 0#8, [], false⟩ } }
    (completeNow .sourceLost s).hlc.tx.length = 33 ∧
    (completeNow .sourceLost { s with hlc := { s.hlc with tx := List.replicate 32 ⟨0xF0#8, 0#8, [], true⟩ } }).hlc.tx.length = 32 := by
  decide +kernel

theorem witness_StartsRestoreThePart : base.serving ∧
    (({ base with restarting := some 5 } : State).stage = .running ∧ base.sst.lost = false ∧ base.sst.queue = [] ∧ base.act.state = .idle ∧
      base.hlc.tx = []) ∧
    State.reset.stage = .startDelay .cold ∧ (run .warmStart { base with restarting := some 5 }).stage = .startDelay .warm ∧
    (run (.coldStart false) { base with sst := { base.sst with inFlight := some (.mech true), lost := true } }).sst.store.mech = true ∧
    (run (.startDelayEnd ⟨.loc, 240, ⟨26000, 0, 25, true⟩⟩) { State.reset with sst := { State.reset.sst with lost := true } }).sst.lost = true := by
  refine ⟨⟨⟨rfl, rfl, rfl⟩, rfl⟩, ?_⟩
  decide +kernel

/-- Reads of the tables and the ring at the boundaries of their ranges. -/
theorem witness_ReadsChangeNothing :
    (withTags sevenTags).serving ∧ sevenTags.sound ∧ sevenTags.slots.getD 7 none = none ∧ sevenTags.holds 11 = false ∧
    fullRing.serving ∧ fullRing.orl.ring.Pairwise (fun x y => x.number < y.number) ∧
    (sevenTags.sorted.map (·.number)).Pairwise (· < ·) ∧
    [0, 3, 4, 6].map (fun n => (run (.readState 7#8 (BitVec.ofNat 8 n) 2#8) storm).hlc.tx.map (·.body.length)) = [[25], [7], [18], [95]] ∧
    (run (.readState 7#8 3#8 7#8) (withTags sevenTags)).hlc.tx.map (fun f => f.body.drop 5) = [[7#8, 7#8]] ∧
    (run (.recordRead 4#8 1070#32) fullRing).hlc.tx.map (fun f => f.body.take 5) = [[0#8, 0#8, 0#8, 4#8, 0x2E#8]] := by
  refine ⟨(withTags_serves sevenTags).1, witness_TagTable.1, by decide +kernel, by decide +kernel, ⟨⟨rfl, rfl, rfl⟩, rfl⟩, by decide +kernel,
    by decide +kernel⟩
end Sys2Proof.Tests
end

section
/-! SUPPORT and PROOFS. The magnitude update at the LSU (spec/01): the square root, one channel's magnitude, the window and the runs of a
side; O4 and O5. -/

namespace Sys2Proof.Machine

/-! ### The square root (spec/01 R3) -/

theorem isqrtFrom_eq_sqrt (k n r : Nat) (hlo : r * r ≤ n) (hhi : n < (r + 2 ^ k) * (r + 2 ^ k)) : isqrtFrom k n r = Nat.sqrt n := by
  induction k generalizing r with
  | zero => exact Nat.eq_sqrt.2 ⟨hlo, hhi⟩
  | succ k ih =>
    rw [isqrtFrom]
    split_ifs with h
    · exact ih (r + 2 ^ k) h (by rwa [Nat.add_assoc, ← Nat.two_mul, ← Nat.pow_succ'])
    · exact ih r hlo (Nat.lt_of_not_le h)

theorem isqrt_eq_sqrt (n : Nat) (h : n < 2 ^ 32) : isqrt n = Nat.sqrt n :=
  isqrtFrom_eq_sqrt 16 n 0 (Nat.zero_le n) (by simpa using h)

/-- The mean square of samples of at most 60,000 fits the root's 32 bits. -/
theorem rms_eq_rootMeanSquare (n : Nat) (w : List Int) (hn : w.length ≤ n) (hw : ∀ x ∈ w, x.natAbs ≤ 60000) :
    rms n w = rootMeanSquare n w := by
  have hsq : w.map square = w.map fun x => x.natAbs ^ 2 := List.map_congr_left fun x _ => (sq x.natAbs).symm
  have hsum : (w.map square).sum ≤ n * 3600000000 := by
    calc (w.map square).sum ≤ (w.map square).length * 3600000000 := by
          refine List.sum_le_card_nsmul _ _ fun y hy => ?_
          obtain ⟨x, hx, rfl⟩ := List.mem_map.1 hy
          exact Nat.mul_le_mul (hw x hx) (hw x hx)
      _ ≤ n * 3600000000 := Nat.mul_le_mul_right _ (by simpa using hn)
  have hmean : (w.map square).sum / n < 2 ^ 32 :=
    lt_of_le_of_lt (Nat.div_le_of_le_mul hsum) (by decide)
  rw [rms, isqrt_eq_sqrt _ hmean, rootMeanSquare, hsq]

/-! ### One channel (spec/01 R1, R4, R5) -/

theorem any_saturated_iff (limit : Int) (f : SampleSet → Int) (w : List SampleSet) :
    (w.map f).any (saturated limit) = true ↔ ∃ x ∈ w, f x = limit ∨ f x = -limit := by
  simp [saturated]

/-- A current channel's flag and magnitude over a window of limited samples. -/
theorem currentChannel_measured (n : Nat) (f : SampleSet → Int) (w : List SampleSet) (hn : w.length ≤ n)
    (hw : ∀ x ∈ w, (f x).natAbs ≤ 60000) :
    ((w.map f).any (saturated currentLimit) = true ↔ ∃ x ∈ w, f x = 28000 ∨ f x = -28000) ∧
    ((∃ x ∈ w, f x = 28000 ∨ f x = -28000) → currentMagnitude n (w.map f) = 20000) ∧
    (¬ (∃ x ∈ w, f x = 28000 ∨ f x = -28000) → currentMagnitude n (w.map f) = min 20000 (rootMeanSquare n (w.map f))) := by
  have hflag : (w.map f).any (saturated currentLimit) = true ↔ ∃ x ∈ w, f x = 28000 ∨ f x = -28000 :=
    any_saturated_iff 28000 f w
  refine ⟨hflag, fun h => ?_, fun h => ?_⟩
  · rw [currentMagnitude, if_pos (hflag.2 h), currentCeiling]
  · rw [currentMagnitude, if_neg (mt hflag.1 h), currentCeiling,
      rms_eq_rootMeanSquare n (w.map f) (by simpa using hn) (by simpa using hw)]

/-- A voltage channel's flag and magnitude over a window of limited samples. -/
theorem voltageChannel_measured (n : Nat) (f : SampleSet → Int) (w : List SampleSet) (hn : w.length ≤ n)
    (hw : ∀ x ∈ w, (f x).natAbs ≤ 60000) :
    ((w.map f).any (saturated voltageLimit) = true ↔ ∃ x ∈ w, f x = 60000 ∨ f x = -60000) ∧
    voltageMagnitude n (w.map f) = min 40000 (rootMeanSquare n (w.map f)) := by
  refine ⟨any_saturated_iff 60000 f w, ?_⟩
  rw [voltageMagnitude, voltageCeiling, rms_eq_rootMeanSquare n (w.map f) (by simpa using hn) (by simpa using hw)]

/-! ### The window (spec/01 R1, R2, R6) -/

theorem clampInt_natAbs_le (limit : Nat) (x : Int) : (clampInt (-limit) limit x).natAbs ≤ limit := by
  unfold clampInt
  split_ifs <;> omega

theorem limitSamples_withinLimits (x : SampleSet) : withinLimits (limitSamples x) :=
  ⟨clampInt_natAbs_le 28000 x.a, clampInt_natAbs_le 28000 x.b, clampInt_natAbs_le 28000 x.c, clampInt_natAbs_le 28000 x.n,
    clampInt_natAbs_le 60000 x.vs, clampInt_natAbs_le 60000 x.vl⟩

theorem Lsu.push_window (block : List SampleSet) (l : Lsu) :
    (l.push block).window = lastN l.winLen (l.window ++ block.map limitSamples) := rfl

theorem Lsu.push_withinLimits (block : List SampleSet) (l : Lsu) (h : l.sound) : ∀ x ∈ (l.push block).window, withinLimits x := by
  obtain ⟨-, -, -, hw, -⟩ := h
  intro x hx
  rcases List.mem_append.1 (List.mem_of_mem_drop hx) with hx | hx
  · exact hw x hx
  · obtain ⟨y, -, rfl⟩ := List.mem_map.1 hx
    exact limitSamples_withinLimits y

/-- What a block leaves alone until the sides are qualified. -/
@[simp] theorem Lsu.push_keeps (block : List SampleSet) (l : Lsu) :
    (l.push block).winLen = l.winLen ∧ (l.push block).source = l.source ∧ (l.push block).load = l.load ∧
    (l.push block).liveV = l.liveV ∧ (l.push block).deadV = l.deadV ∧ (l.push block).side = l.side :=
  ⟨rfl, rfl, rfl, rfl, rfl, funext fun side => by cases side <;> rfl⟩

theorem Lsu.push_full (block : List SampleSet) (l : Lsu) (hb : block.length = 16) (h : l.fillsNow) :
    (l.push block).fill = l.winLen ∧ (l.push block).meas = measure l.winLen (l.push block).window := by
  have hf : (l.push block).fill = l.winLen := by
    change min l.winLen (l.fill + block.length) = l.winLen
    omega
  exact ⟨hf, if_pos hf⟩

theorem Lsu.push_filling (block : List SampleSet) (l : Lsu) (hb : block.length = 16) (h : ¬ l.fillsNow) :
    (l.push block).fill = l.fill + 16 ∧ (l.push block).meas = .cleared := by
  have hf : (l.push block).fill = min l.winLen (l.fill + block.length) := rfl
  have hn : ¬ l.winLen ≤ l.fill + 16 := h
  exact ⟨by omega, if_neg (by omega)⟩

/-! ### The runs of a side (spec/01 R11 to R13) -/

@[simp] theorem Lsu.qualifySides_keeps (l : Lsu) :
    l.qualifySides.winLen = l.winLen ∧ l.qualifySides.window = l.window ∧ l.qualifySides.fill = l.fill ∧
    l.qualifySides.meas = l.meas ∧ l.qualifySides.liveV = l.liveV ∧ l.qualifySides.deadV = l.deadV := by
  unfold Lsu.qualifySides
  split <;> simp

theorem Lsu.qualifySides_filling (l : Lsu) (h : l.fill ≠ l.winLen) : l.qualifySides = l := if_neg h

theorem Lsu.qualifySides_side (l : Lsu) (side : Side) (h : l.fill = l.winLen) :
    l.qualifySides.side side = qualify l.liveV l.deadV (l.meas.volts side) (l.side side) := by
  rw [Lsu.qualifySides, if_pos h]
  cases side <;> rfl

theorem qualify_high (liveV deadV v : Nat) (x : SideState) (h : liveV ≤ v) :
    qualify liveV deadV v x = ⟨if x.liveRun = 49 then .live else x.line, min 50 (x.liveRun + 1), 0⟩ := by
  simp [qualify, h, liveTarget]

theorem qualify_low (liveV deadV v : Nat) (x : SideState) (hd : deadV < liveV) (h : v < deadV) :
    qualify liveV deadV v x = ⟨if x.deadRun = 29 then .dead else x.line, 0, min 30 (x.deadRun + 1)⟩ := by
  have hl : ¬ liveV ≤ v := by omega
  simp [qualify, h, hl, deadTarget]

theorem qualify_band (liveV deadV v : Nat) (x : SideState) (hl : v < liveV) (h : deadV ≤ v) :
    qualify liveV deadV v x = ⟨x.line, 0, 0⟩ := by
  simp [qualify, Nat.not_le.2 hl, Nat.not_lt.2 h]

/-- A side becomes LIVE only where its live run stands one short of the target, DEAD only where its dead run does. -/
theorem qualify_line (liveV deadV v : Nat) (x : SideState) :
    (qualify liveV deadV v x).line = x.line ∨
    ((qualify liveV deadV v x).line = .live ∧ x.liveRun = 49) ∨ ((qualify liveV deadV v x).line = .dead ∧ x.deadRun = 29) := by
  by_cases hh : liveV ≤ v
  · by_cases hr : x.liveRun = 49 <;> simp [qualify_high liveV deadV v x hh, hr]
  · by_cases hl : v < deadV
    · by_cases hr : x.deadRun = 29 <;> simp [qualify, hh, hl, deadTarget, hr]
    · simp [qualify, hh, hl]

/-- The line state is read off the runs: LIVE where the live run reaches 50, DEAD where the dead run reaches 30. -/
theorem qualify_line_of_runs (liveV deadV v : Nat) (x : SideState) (hd : deadV < liveV) (hx : x.sound) :
    (qualify liveV deadV v x).line = (if (qualify liveV deadV v x).liveRun = 50 ∧ x.liveRun ≠ 50 then LineState.live
      else if (qualify liveV deadV v x).deadRun = 30 ∧ x.deadRun ≠ 30 then LineState.dead else x.line) := by
  obtain ⟨hlive, hdead⟩ := hx
  by_cases hh : liveV ≤ v
  · have hr : (49 ≤ x.liveRun ∧ ¬ x.liveRun = 50) ↔ x.liveRun = 49 := by omega
    simp [qualify_high liveV deadV v x hh, hr]
  · by_cases hl : v < deadV
    · have hr : (29 ≤ x.deadRun ∧ ¬ x.deadRun = 30) ↔ x.deadRun = 29 := by omega
      simp [qualify_low liveV deadV v x hd hl, hr]
    · simp [qualify_band liveV deadV v x (by omega) (by omega)]

/-! ### The update -/

theorem Lsu.update_side (block : List SampleSet) (l : Lsu) (side : Side) (hb : block.length = 16) (h : l.fillsNow) :
    (l.update block).side side = qualify l.liveV l.deadV ((l.push block).meas.volts side) (l.side side) := by
  obtain ⟨hf, -⟩ := Lsu.push_full block l hb h
  rw [Lsu.update, Lsu.qualifySides_side _ _ (by simpa using hf)]
  simp

/-- No other block than the LSU moves its windows, runs or line states at an update. -/
theorem magnitudeUpdate_lsu (block : List SampleSet) (s : State) : (magnitudeUpdate block s).lsu = s.lsu.update block := by
  simp only [magnitudeUpdate, lineUpdate]
  split <;> simp [Lsu.update]

theorem blockOk_of_length (block : List SampleSet) (h : block.length = 16) : blockOk block = true := by
  simp [blockOk, blockLength, h]

theorem exec_magnitudeUpdate (block : List SampleSet) (s : State) (hb : block.length = 16) (hs : s.stage.started = true) :
    exec (.magnitudeUpdate block) s = .next (pump (magnitudeUpdate block s)) := by
  change execMagnitudeUpdate block s = _
  simp [execMagnitudeUpdate, updateWhen, blockOk_of_length block hb, whenStarted, happens, hs]

/-- Settles O4, by the window that the block leaves, channel by channel. -/
theorem updateFormsMagnitudes : Obligations.UpdateFormsMagnitudes := by
  intro block s hb hs hsound
  refine ⟨_, exec_magnitudeUpdate block s hb hs, ?_⟩
  have hlsu : (pump (magnitudeUpdate block s)).lsu = (s.lsu.push block).qualifySides := by simp [magnitudeUpdate_lsu, Lsu.update]
  rw [hlsu]
  refine ⟨by simp [Lsu.push_window], fun hfull => ?_, fun hfilling => ?_⟩
  · obtain ⟨hfill, hmeas⟩ := Lsu.push_full block s.lsu hb hfull
    have hlen : (s.lsu.push block).window.length ≤ s.lsu.winLen := lastN_length_le _ _
    have hlim := Lsu.push_withinLimits block s.lsu hsound
    simp only [Lsu.qualifySides_keeps]
    generalize (s.lsu.push block).window = w at hmeas hlen hlim
    rw [hmeas]
    have hcurrent (f : SampleSet → Int) (hf : ∀ x, withinLimits x → (f x).natAbs ≤ 60000) :=
      currentChannel_measured s.lsu.winLen f w hlen fun x hx => hf x (hlim x hx)
    have hvoltage (f : SampleSet → Int) (hf : ∀ x, withinLimits x → (f x).natAbs ≤ 60000) :=
      voltageChannel_measured s.lsu.winLen f w hlen fun x hx => hf x (hlim x hx)
    refine ⟨hfill, rfl, fun ch hch => ?_, fun ch hch => ?_⟩
    · simp only [currentChannels, List.mem_cons, List.not_mem_nil, or_false] at hch
      rcases hch with rfl | rfl | rfl | rfl
      · exact hcurrent SampleSet.a fun x hx => by omega
      · exact hcurrent SampleSet.b fun x hx => by omega
      · exact hcurrent SampleSet.c fun x hx => by omega
      · exact hcurrent SampleSet.n fun x hx => by omega
    · simp only [voltageChannels, List.mem_cons, List.not_mem_nil, or_false] at hch
      rcases hch with rfl | rfl
      · exact hvoltage SampleSet.vs fun x hx => by omega
      · exact hvoltage SampleSet.vl fun x hx => by omega
  · obtain ⟨hfill, hmeas⟩ := Lsu.push_filling block s.lsu hb hfilling
    have hn : ¬ s.lsu.winLen ≤ s.lsu.fill + 16 := hfilling
    rw [Lsu.qualifySides_filling _ (by simp [hfill]; omega)]
    exact ⟨hfill, hmeas, rfl, rfl⟩

/-- Settles O5, by the three voltage bands of a side at a full update. -/
theorem lineStatesFollowTheRuns : Obligations.LineStatesFollowTheRuns := by
  intro block s side hb hs hsound hfull hdead
  refine ⟨_, exec_magnitudeUpdate block s hb hs, ?_⟩
  obtain ⟨-, -, -, -, hsource, hload⟩ := hsound
  have hside : (s.lsu.side side).sound := by
    cases side
    · exact hsource
    · exact hload
  simp only [pump_keeps, magnitudeUpdate_lsu, Lsu.update_side block s.lsu side hb hfull]
  have hmeas : (s.lsu.update block).meas = (s.lsu.push block).meas := by simp [Lsu.update]
  rw [hmeas]
  generalize (s.lsu.push block).meas.volts side = v
  exact ⟨fun hh => by simp [qualify_high _ _ v _ hh], fun hl => by simp [qualify_low _ _ v _ hdead hl],
    fun hb hl => by simp [qualify_band _ _ v _ hl hb], qualify_line_of_runs _ _ v _ hdead hside⟩

end Sys2Proof.Machine
end

section
/-! SUPPORT. The frames that wait for service, and the ring, across the operations of an update: with no frame waiting an event is followed
by no request (spec/10 R183). -/

namespace Sys2Proof.Machine

/-! ### Serving with no frame waiting (spec/10 R183) -/

theorem pumpFor_without_frames (n : Nat) (s : State) (h : s.hlc.queue = []) : pumpFor n s = s := by
  induction n with
  | zero => rfl
  | succ n ih =>
    have hnext : serveNext s = s := by simp [serveNext, h]
    rw [pumpFor, hnext, ih, ite_self]

theorem pump_without_frames (s : State) (h : s.hlc.queue = []) : pump s = s := pumpFor_without_frames 5 s h

/-! ### Operations that leave the waiting frames alone -/

@[simp] theorem placeNotice_queue (f : Frame) (s : State) : (placeNotice f s).hlc.queue = s.hlc.queue := rfl

@[simp] theorem hostReply_queue (res : Res) (body : Bytes) (s : State) : (hostReply res body s).hlc.queue = s.hlc.queue := rfl

@[simp] theorem enterRecord_queue (r : Record) (s : State) : (enterRecord r s).hlc.queue = s.hlc.queue := by simp [enterRecord]

@[simp] theorem complete_queue (body : RecBody) (s : State) : (complete body s).hlc.queue = s.hlc.queue := by
  unfold complete completeNow
  split <;> simp

@[simp] theorem completeAll_queue (bodies : List RecBody) (s : State) : (completeAll bodies s).hlc.queue = s.hlc.queue := by
  unfold completeAll
  induction bodies generalizing s with
  | nil => rfl
  | cons b rest ih => simpa using ih (complete b s)

@[simp] theorem applyPending_queue (s : State) : (applyPending s).hlc.queue = s.hlc.queue := by
  unfold applyPending
  split <;> simp [applyGroup]

@[simp] theorem enterLockout_queue (c : Cause) (s : State) : (enterLockout c s).hlc.queue = s.hlc.queue := by simp [enterLockout]

@[simp] theorem autoRefused_queue (r : Res) (s : State) : (autoRefused r s).hlc.queue = s.hlc.queue := by
  unfold autoRefused
  (repeat' split) <;> simp

@[simp] theorem autoClose_queue (s : State) : (autoClose s).hlc.queue = s.hlc.queue := by
  unfold autoClose
  split <;> simp

@[simp] theorem deadEnd_queue (d : DeadEnd) (s : State) : (deadEnd d s).hlc.queue = s.hlc.queue := by
  unfold deadEnd
  split <;> simp

@[simp] theorem seqSourceLive_queue (s : State) : (seqSourceLive s).hlc.queue = s.hlc.queue := by
  unfold seqSourceLive
  split <;> simp

@[simp] theorem sourceRecord_queue (old new : LineState) (s : State) : (sourceRecord old new s).hlc.queue = s.hlc.queue := by
  unfold sourceRecord
  split <;> simp

@[simp] theorem lineUpdate_queue (s : State) : (lineUpdate s).hlc.queue = s.hlc.queue := by
  simp only [lineUpdate]
  split <;> simp

/-! ### Records of a running part (spec/07 R136) -/

/-- The newest entries of a list that ends in few enough of them. -/
theorem lastN_append {α : Type} (n : Nat) (l m : List α) (h : m.length ≤ n) :
    lastN n (l ++ m) = l.drop (l.length + m.length - n) ++ m := by
  rw [lastN, List.length_append, List.drop_append_of_le_length (by omega)]

theorem complete_running (body : RecBody) (s : State) (h : s.stage = .running) : complete body s = completeNow body s := by
  simp [complete, h, Stage.isStarting]

/-- t's ring is s's or has one record more, as the newest. -/
def ringGrows (s t : State) : Prop := t.orl.ring = s.orl.ring ∨ ∃ r, t.orl.ring = lastN 64 (s.orl.ring ++ [r])

theorem ringGrows_of_eq (s t : State) (h : t.orl.ring = s.orl.ring) : ringGrows s t := Or.inl h

theorem mem_ring_of_ringGrows (s t : State) (r : Record) (h : ringGrows s t) (hr : s.orl.ring.getLast? = some r) : r ∈ t.orl.ring := by
  obtain h | ⟨x, h⟩ := h
  · exact h ▸ List.mem_of_getLast? hr
  · obtain ⟨l, hl⟩ := List.getLast?_eq_some_iff.1 hr
    rw [h, hl, List.append_assoc, lastN_append 64 l _ (by simp)]
    simp

end Sys2Proof.Machine
end

section
/-! SUPPORT and PROOFS. The line states of an update at SEQ and ORL (spec/01 R12 to R14, spec/03 R54); O6. -/

namespace Sys2Proof.Machine

/-! ### A retry of a reclose on hold (spec/03 R52 to R54) -/

@[simp] theorem seqTo_seq (x : SeqState) (s : State) : (seqTo x s).seq = { s.seq with state := x } := by
  unfold seqTo
  split <;> simp

/-- An entry to LOCKOUT with no group pending makes one record. -/
theorem enterLockout_ringGrows (c : Cause) (s : State) (hs : s.stage = .running) (hg : s.seq.pendingGroup = none) :
    ringGrows s (enterLockout c s) := by
  refine Or.inr ⟨stamp (.lockout c s.seq.shots) s, ?_⟩
  simp [enterLockout, applyPending, complete_running, completeNow_ring, hs, hg, stopTimers, Seq.stopTimers, stamp]

theorem autoRefused_ringGrows (r : Res) (s : State) (hs : s.stage = .running) (hg : s.seq.pendingGroup = none) :
    ringGrows s (autoRefused r s) := by
  have hlock (c : Cause) := enterLockout_ringGrows c s hs hg
  cases r with
  | lowEnergy =>
    refine ringGrows_of_eq _ _ ?_
    simp only [autoRefused]
    split <;> simp
  | tagNoClose => exact hlock .tag
  | tagNoReclose => exact hlock .tag
  | conserve => exact hlock .conserve
  | mechFail => exact hlock .mechCleared
  | positionUnknown => exact hlock .externalOpen
  | notLockedOut => exact ringGrows_of_eq _ _ (by simp [autoRefused])
  | _ => exact ringGrows_of_eq _ _ rfl

theorem deadEnd_ringGrows (d : DeadEnd) (s : State) (hs : s.stage = .running) (hg : s.seq.pendingGroup = none) :
    ringGrows s (deadEnd d s) := by
  cases d with
  | lockout c => exact enterLockout_ringGrows c s hs hg
  | holdSource => exact ringGrows_of_eq _ _ (by simp [deadEnd])
  | close =>
    change ringGrows s (autoClose s)
    unfold autoClose
    split
    · exact ringGrows_of_eq _ _ (by simp)
    · exact autoRefused_ringGrows _ s hs hg

theorem seqSourceLive_ringGrows (s : State) (hs : s.stage = .running) (hg : s.seq.pendingGroup = none) :
    ringGrows s (seqSourceLive s) := by
  unfold seqSourceLive
  split
  · exact deadEnd_ringGrows _ s hs hg
  · exact ringGrows_of_eq _ _ rfl

theorem seqSourceLive_without_hold (s : State) (h : ¬ (s.seq.state = .recloseHold ∧ s.seq.holdReason = some .source)) :
    seqSourceLive s = s := if_neg h

/-! ### The line states at ORL and SEQ (spec/01 R14) -/

theorem sourceRecord_unrecorded (old new : LineState) (s : State) (h : old = new ∨ old = .unknown) : sourceRecord old new s = s := by
  rcases h with rfl | rfl
  · cases old <;> rfl
  · cases new <;> rfl

/-- Where no element operates, no departure is raised, no group is pending and no content held, the update hands ORL the change of the
source's line state and SEQ a source side that became LIVE, and nothing else. -/
theorem magnitudeUpdate_uneventful (block : List SampleSet) (s : State) (hp : noProtectionEvent block s)
    (hg : s.seq.pendingGroup = none) (hh : s.sst.held = none) :
    ∃ x : State, x.stage = s.stage ∧ x.orl = s.orl ∧ x.seq = s.seq ∧ x.hlc = s.hlc ∧
      ∀ old new, s.lsu.source.line = old → (s.lsu.update block).source.line = new →
        magnitudeUpdate block s =
          if new = .live ∧ old ≠ .live then seqSourceLive (sourceRecord old new x) else sourceRecord old new x := by
  obtain ⟨hcause, hdep⟩ := hp
  let p := (peuInputs { s with lsu := s.lsu.push block }).update s.peu
  have hpeu : peuUpdate { s with lsu := s.lsu.push block } = { s with lsu := s.lsu.push block, peu := p } := by
    simp only [peuUpdate]
    rw [hcause, hdep]
    rfl
  have hquiet : applyWhenQuiet { s with lsu := s.lsu.push block, peu := p } = { s with lsu := s.lsu.push block, peu := p } := by
    simp [applyWhenQuiet, applyPending, takeHeld, hg, hh]
  refine ⟨{ s with lsu := s.lsu.update block, peu := p }, rfl, rfl, rfl, rfl, ?_⟩
  rintro old new rfl rfl
  rw [magnitudeUpdate, hpeu, hquiet]
  rfl

/-! ### The occasions (spec/01 R13) -/

theorem sideBecomes_iff (x : LineState) (side : Side) (block : List SampleSet) (s : State) :
    sideBecomes x side block s = true ↔ ((s.lsu.update block).side side).line = x ∧ (s.lsu.side side).line ≠ x := by
  simp [sideBecomes]

theorem exec_liveQualified (side : Side) (block : List SampleSet) (s : State) (hb : block.length = 16) (hs : s.stage.started = true) :
    exec (.liveQualified side block) s = .next (if sideBecomes .live side block s then pump (magnitudeUpdate block s) else s) := by
  change execLiveQualified side block s = _
  simp [execLiveQualified, updateWhen, blockOk_of_length block hb, whenStarted, happens, hs]

theorem exec_deadQualified (side : Side) (block : List SampleSet) (s : State) (hb : block.length = 16) (hs : s.stage.started = true) :
    exec (.deadQualified side block) s = .next (if sideBecomes .dead side block s then pump (magnitudeUpdate block s) else s) := by
  change execDeadQualified side block s = _
  simp [execDeadQualified, updateWhen, blockOk_of_length block hb, whenStarted, happens, hs]

/-- A side whose live run is short does not become LIVE at this update. -/
theorem sideBecomes_live_short (side : Side) (block : List SampleSet) (s : State) (hb : block.length = 16) (hf : s.lsu.fillsNow)
    (h : (s.lsu.side side).liveRun < 49) : sideBecomes .live side block s = false := by
  rw [Bool.eq_false_iff, Ne, sideBecomes_iff, Lsu.update_side block s.lsu side hb hf]
  rintro ⟨hlive, hold⟩
  rcases qualify_line s.lsu.liveV s.lsu.deadV ((s.lsu.push block).meas.volts side) (s.lsu.side side) with hk | ⟨-, hr⟩ | ⟨hd, -⟩
  · exact hold (hk.symm.trans hlive)
  · omega
  · exact absurd (hlive.symm.trans hd) (by decide)

theorem sideBecomes_dead_short (side : Side) (block : List SampleSet) (s : State) (hb : block.length = 16) (hf : s.lsu.fillsNow)
    (h : (s.lsu.side side).deadRun < 29) : sideBecomes .dead side block s = false := by
  rw [Bool.eq_false_iff, Ne, sideBecomes_iff, Lsu.update_side block s.lsu side hb hf]
  rintro ⟨hdead, hold⟩
  rcases qualify_line s.lsu.liveV s.lsu.deadV ((s.lsu.push block).meas.volts side) (s.lsu.side side) with hk | ⟨hl, -⟩ | ⟨-, hr⟩
  · exact hold (hk.symm.trans hdead)
  · exact absurd (hdead.symm.trans hl) (by decide)
  · omega

/-- The two occasions: a side one update short of its target completes, one that is shorter leaves the part as it was. -/
theorem occasions_complete (block : List SampleSet) (side : Side) (s : State) (hb : block.length = 16) (hs : s.stage.started = true)
    (hf : s.lsu.fillsNow) (hv : s.lsu.deadV < s.lsu.liveV) :
    ((s.lsu.side side).liveRun = 49 → (s.lsu.side side).line ≠ .live → s.lsu.liveV ≤ (s.lsu.push block).meas.volts side →
      ∃ t, exec (.liveQualified side block) s = .next t ∧ (t.lsu.side side).line = .live ∧ (t.lsu.side side).liveRun = 50) ∧
    ((s.lsu.side side).deadRun = 29 → (s.lsu.side side).line ≠ .dead → (s.lsu.push block).meas.volts side < s.lsu.deadV →
      ∃ t, exec (.deadQualified side block) s = .next t ∧ (t.lsu.side side).line = .dead ∧ (t.lsu.side side).deadRun = 30) ∧
    ((s.lsu.side side).liveRun < 49 → exec (.liveQualified side block) s = .next s) ∧
    ((s.lsu.side side).deadRun < 29 → exec (.deadQualified side block) s = .next s) := by
  rw [exec_liveQualified side block s hb hs, exec_deadQualified side block s hb hs]
  have hside := Lsu.update_side block s.lsu side hb hf
  refine ⟨fun hr hl hh => ?_, fun hr hl hh => ?_, fun hr => ?_, fun hr => ?_⟩
  · have hq : (s.lsu.update block).side side = ⟨.live, 50, 0⟩ := by rw [hside, qualify_high _ _ _ _ hh]; simp [hr]
    have hb : sideBecomes .live side block s = true := (sideBecomes_iff _ _ _ _).2 ⟨by rw [hq], hl⟩
    exact ⟨_, congrArg _ (if_pos hb), by simp [magnitudeUpdate_lsu, hq], by simp [magnitudeUpdate_lsu, hq]⟩
  · have hq : (s.lsu.update block).side side = ⟨.dead, 0, 30⟩ := by rw [hside, qualify_low _ _ _ _ hv hh]; simp [hr]
    have hb : sideBecomes .dead side block s = true := (sideBecomes_iff _ _ _ _).2 ⟨by rw [hq], hl⟩
    exact ⟨_, congrArg _ (if_pos hb), by simp [magnitudeUpdate_lsu, hq], by simp [magnitudeUpdate_lsu, hq]⟩
  · simp [sideBecomes_live_short side block s hb hf hr]
  · simp [sideBecomes_dead_short side block s hb hf hr]

/-- Settles O6, by the runs of the side for the occasions and by the change of the source's line state for the records. -/
theorem sideQualifies : Obligations.SideQualifies := by
  intro block side s hb
  refine ⟨fun hs _ hf hv => occasions_complete block side s hb hs hf hv, fun ⟨hrun, _, hqueue⟩ hp hg hh => ?_⟩
  obtain ⟨x, hstage, horl, hseq, hhlc, hupdate⟩ := magnitudeUpdate_uneventful block s hp hg hh
  have hxrun : x.stage = .running := hstage.trans hrun
  have hframes : (magnitudeUpdate block s).hlc.queue = [] := by
    rw [hupdate _ _ rfl rfl]
    split <;> simp [hhlc, hqueue]
  refine ⟨magnitudeUpdate block s, by
    rw [exec_magnitudeUpdate block s hb (by simp [hrun, Stage.started]), pump_without_frames _ hframes], ?_⟩
  rw [show (magnitudeUpdate block s).lsu.source = (s.lsu.update block).source by rw [magnitudeUpdate_lsu]]
  have hnew (body : RecBody) : recorded body s (completeNow body x) := by
    simpa only [recorded, horl] using completeNow_recorded body x
  have hnoretry (hr : ¬ sourceRetries block s) (hlive : (s.lsu.update block).source.line = .live) (hold : s.lsu.source.line ≠ .live) :
      ¬ (x.seq.state = .recloseHold ∧ x.seq.holdReason = some .source) := by
    rintro ⟨hstate, hreason⟩
    exact hr ⟨hseq ▸ hstate, hseq ▸ hreason, (sideBecomes_iff .live .source block s).2 ⟨hlive, hold⟩⟩
  refine ⟨fun ho hn => ?_, fun ho hn => ?_, fun hr hsame => ?_⟩
  · rw [hupdate _ _ ho hn, if_neg (by simp), sourceRecord, complete_running _ _ hxrun]
    exact hnew _
  · rw [hupdate _ _ ho hn, if_pos (by simp), sourceRecord, complete_running _ _ hxrun]
    refine ⟨?_, fun hr => ?_⟩
    · exact mem_ring_of_ringGrows _ _ _ (seqSourceLive_ringGrows _ (by simpa using hxrun) (by simp [hseq, hg])) (hnew _)
    · rw [seqSourceLive_without_hold _ (by simpa using hnoretry hr hn (by simp [ho]))]
      exact hnew _
  · rw [hupdate _ _ rfl rfl, sourceRecord_unrecorded _ _ _ hsame]
    split
    · rename_i hlive
      rw [seqSourceLive_without_hold _ (hnoretry hr hlive.1 hlive.2), horl]
    · rw [horl]

end Sys2Proof.Machine
end

section
/-! SUPPORT. Several records in a row, and a queued write beside writes of other items (spec/07 R136, spec/09 R178). -/

namespace Sys2Proof.Machine

/-! ### Records in a row -/

/-- ORL with one record more, numbered and stamped as it stands (R136). -/
def Orl.enter (o : Orl) (body : RecBody) : Orl :=
  { o with ring := lastN 64 (o.ring ++ [⟨o.next, body, o.time, o.valid⟩]), next := recordAfter o.next }

theorem complete_orl_running (body : RecBody) (s : State) (h : s.stage = .running) : (complete body s).orl = s.orl.enter body := by
  simp [complete_running body s h, completeNow, enterRecord, addToRing, stamp, ringTop, Orl.enter]

theorem completeAll_orl_running (bodies : List RecBody) (s : State) (h : s.stage = .running) :
    (completeAll bodies s).orl = bodies.foldl Orl.enter s.orl := by
  induction bodies generalizing s with
  | nil => rfl
  | cons b rest ih =>
    change (completeAll rest (complete b s)).orl = rest.foldl Orl.enter (s.orl.enter b)
    rw [ih (complete b s) (by simpa using h), complete_orl_running b s h]

theorem foldl_enter_keeps (bodies : List RecBody) (o : Orl) :
    (bodies.foldl Orl.enter o).phase = o.phase ∧ (bodies.foldl Orl.enter o).limit = o.limit ∧
    (bodies.foldl Orl.enter o).time = o.time ∧ (bodies.foldl Orl.enter o).valid = o.valid := by
  induction bodies generalizing o with
  | nil => simp
  | cons b rest ih =>
    obtain ⟨hphase, hlimit, htime, hvalid⟩ := ih (o.enter b)
    refine ⟨hphase.trans (funext fun q => ?_), hlimit, htime, hvalid⟩
    cases q <;> rfl

theorem foldl_enter_next (bodies : List RecBody) (o : Orl) :
    (bodies.foldl Orl.enter o).next = recordAfter^[bodies.length] o.next := by
  induction bodies generalizing o with
  | nil => rfl
  | cons b rest ih => exact ih (o.enter b)

/-- At most 64 records entered in a row all stand in the ring, numbered on. -/
theorem foldl_enter_ring (bodies : List RecBody) (o : Orl) (h : bodies.length ≤ 64) :
    ∃ l, (bodies.foldl Orl.enter o).ring = l ++ bodies.mapIdx fun i b => ⟨recordAfter^[i] o.next, b, o.time, o.valid⟩ := by
  induction bodies using List.reverseRecOn with
  | nil => exact ⟨o.ring, by simp⟩
  | append_singleton rest b ih =>
    obtain ⟨l, hl⟩ := ih (by simp only [List.length_append] at h; omega)
    obtain ⟨-, -, htime, hvalid⟩ := foldl_enter_keeps rest o
    have hring : ((rest ++ [b]).foldl Orl.enter o).ring =
        lastN 64 (l ++ (rest ++ [b]).mapIdx fun i b => ⟨recordAfter^[i] o.next, b, o.time, o.valid⟩) := by
      rw [List.foldl_concat, Orl.enter, hl, htime, hvalid, foldl_enter_next, List.append_assoc, List.mapIdx_concat]
    exact ⟨_, hring.trans (lastN_append 64 l _ (by simpa using h))⟩

/-- Records that are not reported leave the outbox alone (R138). -/
theorem complete_rcc_of_unreported (body : RecBody) (s : State) (h : body.reportClass = none) : (complete body s).rcc = s.rcc := by
  unfold complete
  split
  · simp
  · simp [completeNow, enterRecord, reportRecord, stamp, h]

theorem completeAll_rcc_of_unreported (bodies : List RecBody) (s : State) (h : ∀ b ∈ bodies, b.reportClass = none) :
    (completeAll bodies s).rcc = s.rcc := by
  induction bodies generalizing s with
  | nil => rfl
  | cons b rest ih =>
    obtain ⟨hb, hrest⟩ := List.forall_mem_cons.1 h
    exact (ih (complete b s) hrest).trans (complete_rcc_of_unreported b s hb)

/-! ### A queued write beside others (spec/09 R178) -/

@[simp] theorem kick_keeps_copies (x : Sst) :
    x.kick.active = x.active ∧ x.kick.group = x.group ∧ x.kick.globalPage = x.globalPage ∧ x.kick.curves = x.curves := by
  unfold Sst.kick
  split_ifs
  · simp
  · split <;> simp

/-- Of the SST a handed write moves the queue and the write in flight alone. -/
@[simp] theorem queueWrite_keeps_sst (i : RetItem) (s : State) :
    (queueWrite i s).sst.store = s.sst.store ∧ (queueWrite i s).sst.staging = s.sst.staging ∧
    (queueWrite i s).sst.lost = s.sst.lost ∧ (queueWrite i s).sst.held = s.sst.held ∧
    (queueWrite i s).sst.waiting = s.sst.waiting ∧ (queueWrite i s).sst.active = s.sst.active ∧
    (queueWrite i s).sst.group = s.sst.group ∧ (queueWrite i s).sst.globalPage = s.sst.globalPage ∧
    (queueWrite i s).sst.curves = s.sst.curves := by
  simp [queueWrite]

theorem mem_insertWrite_of_ne (x y : RetItem) (l : List RetItem) (h : y ∈ l) (hne : y.item ≠ x.item) : y ∈ insertWrite x l := by
  induction l with
  | nil => simp at h
  | cons z rest ih =>
    rw [insertWrite]
    split_ifs with hlt heq
    · exact List.mem_cons_of_mem x h
    · rcases List.mem_cons.1 h with rfl | h
      · exact absurd heq.symm hne
      · exact List.mem_cons_of_mem x h
    · rcases List.mem_cons.1 h with rfl | h
      · exact List.mem_cons_self
      · exact List.mem_cons_of_mem z (ih h)

/-- A write of another item takes no queued write away. -/
theorem queueWrite_keeps_queued (i j : RetItem) (s : State) (h : writeQueued i s) (hne : i.item ≠ j.item) :
    writeQueued i (queueWrite j s) :=
  (kick_queued _ i).2 (h.imp id fun hq => mem_insertWrite_of_ne j i s.sst.queue hq hne)

theorem writeQueued_congr (i : RetItem) (s t : State) (h : t.sst = s.sst) (hq : writeQueued i s) : writeQueued i t := by
  rwa [writeQueued, h]

theorem complete_keeps_queued (i : RetItem) (body : RecBody) (s : State) (h : writeQueued i s) (hne : i.item ≠ 5) :
    writeQueued i (complete body s) := by
  unfold complete
  split
  · exact h
  · let o := (addToRing (stamp body s) s).orl
    refine writeQueued_congr i (queueWrite (.ring o.ring o.next) (addToRing (stamp body s) s)) _ ?_ (queueWrite_keeps_queued i _ _ h hne)
    simp [completeNow, enterRecord, o]

theorem completeAll_keeps_queued (i : RetItem) (bodies : List RecBody) (s : State) (h : writeQueued i s) (hne : i.item ≠ 5) :
    writeQueued i (completeAll bodies s) := by
  induction bodies generalizing s with
  | nil => exact h
  | cons b rest ih => exact ih (complete b s) (complete_keeps_queued i b s h hne)

end Sys2Proof.Machine
end

section
/-! SUPPORT and PROOFS. A commit of the global page, block by block (spec/09 R176); O53. -/

namespace Sys2Proof.Machine

/-! ### Wear formed again (spec/07 R142) -/

theorem Orl.formRecords_unreported (budget : Nat) (o : Orl) : ∀ b ∈ o.formRecords budget, b.reportClass = none := by
  have hphase (q : Phase) (percent : Nat) (old : WearMark) : ∀ b ∈ wearRecords q percent old, b.reportClass = none := by
    intro b hb
    simp only [wearRecords, List.mem_append, List.mem_ite_nil_right, List.mem_singleton] at hb
    rcases hb with ⟨-, rfl⟩ | ⟨-, rfl⟩ <;> rfl
  intro b hb
  simp only [Orl.formRecords, List.mem_append] at hb
  rcases hb with (hb | hb) | hb <;> exact hphase _ _ _ b hb

theorem Orl.formRecords_length_le (budget : Nat) (o : Orl) : (o.formRecords budget).length ≤ 6 := by
  have hphase (q : Phase) (percent : Nat) (old : WearMark) : (wearRecords q percent old).length ≤ 2 := by
    unfold wearRecords
    split_ifs <;> simp
  simp only [Orl.formRecords, List.length_append]
  have := hphase .a (wearPercent budget o.wearA.count) o.wearA.mark
  have := hphase .b (wearPercent budget o.wearB.count) o.wearB.mark
  have := hphase .c (wearPercent budget o.wearC.count) o.wearC.mark
  omega

theorem Orl.form_phase (budget : Nat) (o : Orl) (q : Phase) : (o.form budget).phase q = (o.phase q).form budget := by
  cases q <;> rfl

/-- After a forming the threshold is the one the percent reaches, whatever it was before. -/
theorem markAfter_eq (percent : Nat) (old : WearMark) :
    markAfter percent old = if percent = 100 then .hundred else if 80 ≤ percent then .eighty else .none := by
  by_cases hfull : percent = 100
  · simp [markAfter, hfull]
  · by_cases hhigh : 80 ≤ percent
    · cases old <;> simp [markAfter, hfull, hhigh, Nat.not_lt.2 hhigh]
    · simp [markAfter, hfull, hhigh, Nat.lt_of_not_le hhigh]

theorem PhaseWear.form_formed (budget : Nat) (w : PhaseWear) : (w.form budget).count = w.count ∧ (w.form budget).formed budget :=
  ⟨rfl, rfl, markAfter_eq (wearPercent budget w.count) w.mark⟩

theorem Orl.anyWorn_iff (o : Orl) : o.anyWorn = true ↔ ∃ q, (o.phase q).percent = 100 := by
  constructor
  · intro h
    simp only [Orl.anyWorn, Bool.or_eq_true, beq_iff_eq] at h
    rcases h with (h | h) | h
    · exact ⟨.a, h⟩
    · exact ⟨.b, h⟩
    · exact ⟨.c, h⟩
  · rintro ⟨q, h⟩
    simp only [Orl.anyWorn, Bool.or_eq_true, beq_iff_eq]
    cases q with
    | a => exact Or.inl (Or.inl h)
    | b => exact Or.inl (Or.inr h)
    | c => exact Or.inr h

theorem formWear_orl_running (s : State) (h : s.stage = .running) :
    (formWear s).orl = (s.orl.formRecords s.sst.globalPage.wearBudget).foldl Orl.enter (s.orl.form s.sst.globalPage.wearBudget) :=
  completeAll_orl_running _ _ h

@[simp] theorem formWear_rcc (s : State) : (formWear s).rcc = s.rcc :=
  completeAll_rcc_of_unreported _ _ (Orl.formRecords_unreported _ _)

@[simp] theorem formWear_queue (s : State) : (formWear s).hlc.queue = s.hlc.queue := by simp [formWear]

theorem formWear_keeps_queued (i : RetItem) (s : State) (h : writeQueued i s) (hne : i.item ≠ 5) : writeQueued i (formWear s) :=
  completeAll_keeps_queued i _ _ h hne

/-- What a forming of the wear leaves at ORL: counts, percents, the limit and the WEAR records that were due. -/
theorem orl_of_wear_formed (budget : Nat) (s t : State)
    (h : t.orl = (s.orl.formRecords budget).foldl Orl.enter (s.orl.form budget)) :
    (∀ q, (t.orl.phase q).count = (s.orl.phase q).count ∧ (t.orl.phase q).formed budget) ∧
    (t.orl.limit = true ↔ ∃ q, (t.orl.phase q).percent = 100) ∧ recordedAll (wearsDue s t) 0 s t := by
  obtain ⟨hphase, hlimit, -, -⟩ := foldl_enter_keeps (s.orl.formRecords budget) (s.orl.form budget)
  have hq (q : Phase) : t.orl.phase q = (s.orl.phase q).form budget := by rw [h, hphase, Orl.form_phase]
  have hdue : wearsDue s t = s.orl.formRecords budget := by
    simp only [wearsDue, hq, List.flatMap_cons, List.flatMap_nil, List.append_nil]
    exact (List.append_assoc (wearRecords .a _ _) (wearRecords .b _ _) (wearRecords .c _ _)).symm
  refine ⟨fun q => by rw [hq]; exact PhaseWear.form_formed budget _, ?_, fun i b hb => ?_⟩
  · rw [h, hlimit, hphase]
    exact Orl.anyWorn_iff _
  · obtain ⟨l, hl⟩ := foldl_enter_ring (s.orl.formRecords budget) (s.orl.form budget)
      ((Orl.formRecords_length_le budget s.orl).trans (by decide))
    rw [hdue] at hb
    rw [h, hl]
    refine List.mem_append_right l (List.mem_of_getElem? (i := i) ?_)
    rw [List.getElem?_mapIdx, hb, Nat.zero_add]
    rfl

/-! ### The effects of a changed page, field by field -/

/-- What a changed capacity does (spec/06 R118). -/
def capacityEffect (old new : Page) (s : State) : State :=
  if old.capacity ≠ new.capacity then rescaleCharge new.capacity s else s

/-- What a changed test interval does (spec/06 R126). -/
def testIntervalEffect (old new : Page) (s : State) : State :=
  if old.testInterval ≠ new.testInterval ∧ s.bcu.test = .idle then { s with bcu := { s.bcu with countdown := testCountdown new } } else s

/-- What a changed wear budget does (spec/07 R142). -/
def wearBudgetEffect (old new : Page) (s : State) : State := if old.wearBudget ≠ new.wearBudget then formWear s else s

/-- What a changed station id does (spec/08 R149). -/
def stationIdEffect (old new : Page) (s : State) : State :=
  if old.stationId ≠ new.stationId then stationChanged new.stationId s else s

/-- What a changed status interval does (spec/08 R155). -/
def statusIntervalEffect (old new : Page) (s : State) : State :=
  if old.statusInterval ≠ new.statusInterval then { s with rcc := { s.rcc with statusLeft := statusCountdown new } } else s

theorem globalEffects_eq (old new : Page) (s : State) :
    globalEffects old new s = statusIntervalEffect old new (stationIdEffect old new (wearBudgetEffect old new
      (testIntervalEffect old new (capacityEffect old new { s with lsu := lsuGlobal old new s.lsu })))) := rfl

@[simp] theorem capacityEffect_keeps (old new : Page) (s : State) :
    (capacityEffect old new s).stage = s.stage ∧ (capacityEffect old new s).lsu = s.lsu ∧ (capacityEffect old new s).orl = s.orl ∧
    (capacityEffect old new s).rcc = s.rcc ∧ (capacityEffect old new s).hlc = s.hlc ∧
    (capacityEffect old new s).sst.globalPage = s.sst.globalPage := by
  unfold capacityEffect
  split <;> simp [rescaleCharge]

@[simp] theorem testIntervalEffect_keeps (old new : Page) (s : State) :
    (testIntervalEffect old new s).stage = s.stage ∧ (testIntervalEffect old new s).lsu = s.lsu ∧
    (testIntervalEffect old new s).orl = s.orl ∧ (testIntervalEffect old new s).rcc = s.rcc ∧
    (testIntervalEffect old new s).hlc = s.hlc ∧ (testIntervalEffect old new s).sst = s.sst := by
  unfold testIntervalEffect
  split <;> simp

@[simp] theorem wearBudgetEffect_keeps (old new : Page) (s : State) :
    (wearBudgetEffect old new s).stage = s.stage ∧ (wearBudgetEffect old new s).lsu = s.lsu ∧
    (wearBudgetEffect old new s).bcu = s.bcu ∧ (wearBudgetEffect old new s).rcc = s.rcc ∧
    (wearBudgetEffect old new s).hlc.queue = s.hlc.queue := by
  unfold wearBudgetEffect
  split <;> simp

@[simp] theorem stationIdEffect_keeps (old new : Page) (s : State) :
    (stationIdEffect old new s).stage = s.stage ∧ (stationIdEffect old new s).lsu = s.lsu ∧ (stationIdEffect old new s).bcu = s.bcu ∧
    (stationIdEffect old new s).orl = s.orl ∧ (stationIdEffect old new s).hlc = s.hlc ∧ (stationIdEffect old new s).sst = s.sst := by
  unfold stationIdEffect
  split <;> simp

@[simp] theorem statusIntervalEffect_keeps (old new : Page) (s : State) :
    (statusIntervalEffect old new s).stage = s.stage ∧ (statusIntervalEffect old new s).lsu = s.lsu ∧
    (statusIntervalEffect old new s).bcu = s.bcu ∧ (statusIntervalEffect old new s).orl = s.orl ∧
    (statusIntervalEffect old new s).hlc = s.hlc ∧ (statusIntervalEffect old new s).sst = s.sst := by
  unfold statusIntervalEffect
  split <;> simp

theorem rescaleCharge_bcu (capacity : Nat) (s : State) :
    (rescaleCharge capacity s).bcu = { s.bcu with charge := s.bcu.soc * fullCount capacity / 100, resync := 0 } := by
  simp [rescaleCharge]

theorem capacityEffect_bcu (old new : Page) (s : State) :
    (capacityEffect old new s).bcu =
      { s.bcu with charge := (capacityEffect old new s).bcu.charge, resync := (capacityEffect old new s).bcu.resync } ∧
    (old.capacity ≠ new.capacity → (capacityEffect old new s).bcu.charge = s.bcu.soc * fullCount new.capacity / 100 ∧
      (capacityEffect old new s).bcu.resync = 0 ∧ writeQueued (.charge (capacityEffect old new s).bcu.charge) (capacityEffect old new s)) ∧
    (old.capacity = new.capacity → capacityEffect old new s = s) := by
  refine ⟨?_, fun h => ?_, fun h => if_neg (not_not_intro h)⟩
  · unfold capacityEffect
    split
    · simp only [rescaleCharge_bcu]
    · rfl
  · rw [capacityEffect, if_pos h, rescaleCharge_bcu]
    exact ⟨rfl, rfl, queueWrite_queued _ _⟩

theorem globalEffects_lsu (old new : Page) (s : State) : (globalEffects old new s).lsu = lsuGlobal old new s.lsu := by
  simp [globalEffects_eq]

theorem globalEffects_queue (old new : Page) (s : State) : (globalEffects old new s).hlc.queue = s.hlc.queue := by
  simp [globalEffects_eq]

theorem testCountdown_eq (p : Page) : testCountdown p = if p.field 7 = 0 then none else some (p.field 7 * 1440) := by
  have hzero : p.field 7 * 1440 = 0 ↔ p.field 7 = 0 := by omega
  exact if_congr hzero rfl rfl

/-- The battery block at a changed capacity and a changed test interval. -/
theorem globalEffects_bcu (old new : Page) (s t : State) (ht : t = globalEffects old new s) :
    t.bcu.soc = s.bcu.soc ∧
    (old.capacity ≠ new.capacity → t.bcu.charge = s.bcu.soc * fullCount new.capacity / 100 ∧ t.bcu.resync = 0 ∧
      writeQueued (.charge t.bcu.charge) t) ∧
    (old.capacity = new.capacity → t.bcu.charge = s.bcu.charge ∧ t.bcu.resync = s.bcu.resync) ∧
    (old.testInterval ≠ new.testInterval → s.bcu.test = .idle → t.bcu.countdown = testCountdown new) ∧
    (old.testInterval = new.testInterval ∨ s.bcu.test ≠ .idle → t.bcu.countdown = s.bcu.countdown) := by
  let x := capacityEffect old new { s with lsu := lsuGlobal old new s.lsu }
  obtain ⟨hframe, hchanged, hsame⟩ := capacityEffect_bcu old new { s with lsu := lsuGlobal old new s.lsu }
  have hxt : t.bcu = (testIntervalEffect old new x).bcu := by simp [ht, globalEffects_eq, x]
  have htest : x.bcu.test = s.bcu.test := by rw [show x.bcu = _ from hframe]
  have hcount : x.bcu.countdown = s.bcu.countdown := by rw [show x.bcu = _ from hframe]
  have hsoc : x.bcu.soc = s.bcu.soc := by rw [show x.bcu = _ from hframe]
  have hkept : t.bcu.soc = x.bcu.soc ∧ t.bcu.charge = x.bcu.charge ∧ t.bcu.resync = x.bcu.resync := by
    rw [hxt]
    unfold testIntervalEffect
    split <;> simp
  have hqueued (i : RetItem) (hi : i.item ≠ 5) (h : writeQueued i x) : writeQueued i t := by
    have hwear : writeQueued i (wearBudgetEffect old new (testIntervalEffect old new x)) := by
      have hbefore := writeQueued_congr i x (testIntervalEffect old new x) (by simp) h
      unfold wearBudgetEffect
      split
      · exact formWear_keeps_queued i _ hbefore hi
      · exact hbefore
    exact writeQueued_congr i _ t (by simp [ht, globalEffects_eq, x]) hwear
  obtain ⟨hs, hc, hr⟩ := hkept
  refine ⟨hs.trans hsoc, fun h => ?_, fun h => ?_, fun h hi => ?_, fun h => ?_⟩
  · obtain ⟨h1, h2, h3⟩ := hchanged h
    exact ⟨hc.trans h1, hr.trans h2, hc ▸ hqueued _ (by simp [RetItem.item]) h3⟩
  · rw [hc, hr, show x = _ from hsame h]
    exact ⟨rfl, rfl⟩
  · rw [hxt, testIntervalEffect, if_pos ⟨h, htest.trans hi⟩]
  · rw [hxt, testIntervalEffect, if_neg (by rw [htest]; tauto), hcount]

/-- The radio at a changed station id and a changed status interval. -/
theorem globalEffects_rcc (old new : Page) (s t : State) (ht : t = globalEffects old new s) :
    (old.stationId ≠ new.stationId → t.rcc.frameMs = none ∧ t.rcc.outbox = returnAwait false s.rcc.outbox ∧
      t.rcc.chan = if new.stationId = 0 ∨ s.bcu.level = .exhausted then .silent else .searching) ∧
    (old.stationId = new.stationId → t.rcc.chan = s.rcc.chan ∧ t.rcc.frameMs = s.rcc.frameMs) ∧
    (old.statusInterval ≠ new.statusInterval → t.rcc.statusLeft = statusCountdown new) ∧
    (old.statusInterval = new.statusInterval → t.rcc.statusLeft = s.rcc.statusLeft) := by
  let x := wearBudgetEffect old new (testIntervalEffect old new (capacityEffect old new { s with lsu := lsuGlobal old new s.lsu }))
  have hlevel : x.bcu.level = s.bcu.level := by
    obtain ⟨hframe, -, -⟩ := capacityEffect_bcu old new { s with lsu := lsuGlobal old new s.lsu }
    simp only [x, wearBudgetEffect_keeps, testIntervalEffect]
    split <;> rw [hframe]
  have hrcc : x.rcc = s.rcc := by simp [x]
  have htx : t.rcc = (statusIntervalEffect old new (stationIdEffect old new x)).rcc := by rw [ht, globalEffects_eq]
  have hstation : t.rcc.frameMs = (stationIdEffect old new x).rcc.frameMs ∧ t.rcc.outbox = (stationIdEffect old new x).rcc.outbox ∧
      t.rcc.chan = (stationIdEffect old new x).rcc.chan := by
    rw [htx]
    unfold statusIntervalEffect
    split <;> simp
  obtain ⟨hf, ho, hc⟩ := hstation
  refine ⟨fun h => ?_, fun h => ?_, fun h => ?_, fun h => ?_⟩
  · rw [hf, ho, hc, stationIdEffect, if_pos h, stationChanged, hrcc, hlevel]
    exact ⟨rfl, rfl, rfl⟩
  · rw [hf, hc, stationIdEffect, if_neg (not_not_intro h), hrcc]
    exact ⟨rfl, rfl⟩
  · rw [htx, statusIntervalEffect, if_pos h]
  · rw [htx, statusIntervalEffect, if_neg (not_not_intro h), stationIdEffect]
    split
    · rw [stationChanged, hrcc]
    · rw [hrcc]

/-- The log at a changed wear budget. -/
theorem globalEffects_orl (old new : Page) (s : State) (hs : s.stage = .running) :
    (globalEffects old new s).orl =
      if old.wearBudget ≠ new.wearBudget
      then (s.orl.formRecords s.sst.globalPage.wearBudget).foldl Orl.enter (s.orl.form s.sst.globalPage.wearBudget) else s.orl := by
  simp only [globalEffects_eq, wearBudgetEffect, statusIntervalEffect_keeps, stationIdEffect_keeps]
  split
  · rw [formWear_orl_running _ (by simpa using hs)]
    simp
  · simp

/-- The LSU at a changed frequency and at changed voltages or thresholds (spec/01 R8, R15). -/
theorem lsuGlobal_acts (old new : Page) (l : Lsu) :
    let t := lsuGlobal old new l
    let linesKept := t.source = ⟨l.source.line, 0, 0⟩ ∧ t.load = ⟨l.load.line, 0, 0⟩
    let voltages := old.nominal ≠ new.nominal ∨ old.liveThreshold ≠ new.liveThreshold ∨ old.deadThreshold ≠ new.deadThreshold
    (old.frequency ≠ new.frequency → t.winLen = windowLength new.frequency ∧ t.window = [] ∧ t.fill = 0 ∧ linesKept ∧
      t.meas = .cleared) ∧
    (voltages → t.liveV = liveVoltage new ∧ t.deadV = deadVoltage new ∧ linesKept) ∧
    (old.frequency = new.frequency → ¬ voltages → t = l) := by
  intro t linesKept voltages
  by_cases hf : old.frequency = new.frequency
  · by_cases hv : voltages
    · have ht : t = l.rethreshold new := by simp only [t, lsuGlobal]; rw [if_pos hv, if_neg (not_not_intro hf)]
      simp only [linesKept, ht]
      exact ⟨fun h => absurd hf h, fun _ => ⟨rfl, rfl, rfl, rfl⟩, fun _ h => absurd hv h⟩
    · have ht : t = l := by simp only [t, lsuGlobal]; rw [if_neg hv, if_neg (not_not_intro hf)]
      exact ⟨fun h => absurd hf h, fun h => absurd h hv, fun _ _ => ht⟩
  · by_cases hv : voltages
    · have ht : t = (l.restart new.frequency).rethreshold new := by simp only [t, lsuGlobal]; rw [if_pos hv, if_pos hf]
      simp only [linesKept, ht]
      exact ⟨fun _ => ⟨rfl, rfl, rfl, ⟨rfl, rfl⟩, rfl⟩, fun _ => ⟨rfl, rfl, rfl, rfl⟩, fun h => absurd h hf⟩
    · have ht : t = l.restart new.frequency := by simp only [t, lsuGlobal]; rw [if_neg hv, if_pos hf]
      simp only [linesKept, ht]
      exact ⟨fun _ => ⟨rfl, rfl, rfl, ⟨rfl, rfl⟩, rfl⟩, fun h => absurd h hv, fun h => absurd h hf⟩

/-! ### The commit's completion (spec/09 R176) -/

theorem exec_commitComplete (s : State) (b : StageBuf) (reply : Bool) (h : s.sst.staging = .committing b reply true) :
    exec .commitComplete s = .next (pump (completeCommit b reply s)) := by
  change execCommitComplete s = _
  simp [execCommitComplete, h]

/-- At the end of a commit of the global page the buffer and the reply move nothing but the SST's own state and the host's line. -/
theorem completeCommit_global (b : StageBuf) (reply : Bool) (s : State) (h : b.target = .global) :
    ∃ x : State, x.stage = s.stage ∧ x.lsu = s.lsu ∧ x.bcu = s.bcu ∧ x.orl = s.orl ∧ x.rcc = s.rcc ∧ x.hlc = s.hlc ∧
      x.sst.globalPage = b.page ∧
      let e := globalEffects s.sst.globalPage b.page x
      let t := completeCommit b reply s
      t.lsu = e.lsu ∧ t.bcu = e.bcu ∧ t.orl = e.orl ∧ t.rcc = e.rcc ∧ t.hlc.queue = e.hlc.queue ∧
      ∀ i, writeQueued i e → writeQueued i t := by
  refine ⟨{ s with sst := { s.sst with store := s.sst.store.withPage .global b.page, globalPage := b.page } },
    rfl, rfl, rfl, rfl, rfl, rfl, rfl, ?_⟩
  simp only [completeCommit, h, storedPage, replaceWorking, releaseSelections, Target.groupNo]
  cases reply <;> simp [writeQueued, kick_queued]

/-- Settles O53, by the effects of the changed page on each block. -/
theorem globalCommitActs : Obligations.GlobalCommitActs := by
  intro s b reply hruns hstaging _ htarget
  obtain ⟨hrun, -, hqueue⟩ := hruns
  obtain ⟨x, hstage, hlsu, hbcu, horl, hrcc, hhlc, hpage, htlsu, htbcu, htorl, htrcc, htqueue, htwrites⟩ :=
    completeCommit_global b reply s htarget
  have hpump : pump (completeCommit b reply s) = completeCommit b reply s :=
    pump_without_frames _ (by rw [htqueue, globalEffects_queue, hhlc, hqueue])
  refine ⟨completeCommit b reply s, by rw [exec_commitComplete s b reply hstaging, hpump], ?_⟩
  obtain ⟨hfreq, hvolt, hquiet⟩ := lsuGlobal_acts s.sst.globalPage b.page s.lsu
  obtain ⟨hsoc, hcap, hcapSame, htest, htestSame⟩ := globalEffects_bcu s.sst.globalPage b.page x _ rfl
  obtain ⟨hstation, hstationSame, hstatus, hstatusSame⟩ := globalEffects_rcc s.sst.globalPage b.page x _ rfl
  have hlog := globalEffects_orl s.sst.globalPage b.page x (hstage.trans hrun)
  rw [globalEffects_lsu, hlsu] at htlsu
  rw [← htbcu, hbcu] at hsoc hcap hcapSame htest htestSame
  rw [← htrcc, hrcc, hbcu] at hstation
  rw [← htrcc, hrcc] at hstationSame hstatusSame
  rw [← htrcc] at hstatus
  rw [← htorl, horl, hpage] at hlog
  rw [htlsu]
  refine ⟨hfreq, hvolt, hquiet, fun h => ?_, hcapSame, fun h hi => ?_, htestSame, fun h => ?_, hstationSame, fun h => ?_, hstatusSame,
    fun h => ?_, fun h => ?_⟩
  · obtain ⟨hcharge, hresync, hwrite⟩ := hcap h
    exact ⟨hcharge, hresync, hsoc, htwrites _ hwrite⟩
  · exact (htest h hi).trans (testCountdown_eq b.page)
  · obtain ⟨hframe, hout, hchan⟩ := hstation h
    exact ⟨hframe, fun e he => returnAwait_none_awaits _ _ e (hout ▸ he), hchan⟩
  · exact hstatus h
  · exact orl_of_wear_formed _ s _ (hlog.trans (if_pos h))
  · exact hlog.trans (if_neg (not_not_intro h))

end Sys2Proof.Machine
end

section
/-! SUPPORT. One host request from its arrival to its reply (spec/10 R183, R184), the lengths of the reply's parts (R190, R191), and the
lookups by number in the tag table and the ring. -/

namespace Sys2Proof.Machine

/-! ### A request served as it comes -/

/-- The state in which an owner finds the current request of a part that serves. -/
def State.taking (f : RxFrame) (s : State) : State := { s with hlc := { s.hlc with queue := [], current := some f } }

theorem receive_serving (f : RxFrame) (s : State) (h : s.serving) :
    receive f s = pumpFor 4 (serve (keyAuthority s.hlc.key) f.req (s.taking f)) := by
  obtain ⟨⟨hstage, hrestart, hqueue⟩, hcurrent⟩ := h
  have hdeaf : s.deaf = false := by simp [State.deaf, hstage, hrestart]
  simp [receive, hdeaf, queueFrame, queueTop, hqueue, pump, pumpFor, mayServe, hstage, hrestart, hcurrent, serveNext, State.taking]

theorem hostReply_taking (f : RxFrame) (res : Res) (body : Bytes) (s : State) (h : s.serving) :
    hostReply res body (s.taking f) = s.replied f.kind f.tag res body := by
  obtain ⟨⟨-, -, hqueue⟩, hcurrent⟩ := h
  simp [hostReply, State.taking, State.replied, replyFrame, ← hqueue, ← hcurrent]

/-- A request that its owner only answers adds the reply to the transmit list and changes nothing else. -/
theorem receive_answered (f : RxFrame) (res : Res) (body : Bytes) (s : State) (h : s.serving)
    (hserve : ∀ a, serve a f.req (s.taking f) = hostReply res body (s.taking f)) :
    receive f s = s.replied f.kind f.tag res body := by
  rw [receive_serving f s h, hserve, hostReply_taking f res body s h]
  exact pumpFor_without_frames 4 _ h.1.2.2

/-! ### Lengths -/

@[simp] theorem be1_length (n : Nat) : (be1 n).length = 1 := rfl
@[simp] theorem be2_length (n : Nat) : (be2 n).length = 2 := rfl
@[simp] theorem be4_length (n : Nat) : (be4 n).length = 4 := rfl
@[simp] theorem flag_length (b : Bool) : (flag b).length = 1 := rfl
@[simp] theorem maskOf_length (l : List Bool) : (maskOf l).length = 2 := rfl
@[simp] theorem opt1_length (x : Option Nat) : (opt1 x).length = 1 := rfl
@[simp] theorem opt2_length (x : Option Nat) : (opt2 x).length = 2 := rfl
@[simp] theorem opt4_length (x : Option Nat) : (opt4 x).length = 4 := rfl

theorem encodeTarget_length (t : Option Target) : (encodeTarget t).length = 2 := by
  unfold encodeTarget
  split <;> rfl

theorem flatMap_length_const {α : Type} (l : List α) (f : α → Bytes) (n : Nat) (h : ∀ x, (f x).length = n) :
    (l.flatMap f).length = l.length * n := by
  simp [List.length_flatMap, h]

theorem pagedList_length_le (used start : Nat) (entries : List Bytes) (h : used ≤ 94) :
    (pagedList used start entries).length ≤ 96 - used := by
  obtain ⟨k, ⟨-, hroom, -⟩, hpage⟩ := pagedList_fills used start entries
  simp only [hpage, List.length_append, be1_length]
  omega

/-! ### Lookups by number -/

theorem find?_of_nodup {α : Type} (f : α → Nat) (l : List α) (x : α) (h : (l.map f).Nodup) (hx : x ∈ l) :
    l.find? (fun y => f y == f x) = some x := by
  obtain ⟨y, hy⟩ := Option.isSome_iff_exists.1 (List.find?_isSome (p := fun y => f y == f x).2 ⟨x, hx, beq_self_eq_true (f x)⟩)
  rw [hy, List.inj_on_of_nodup_map h (List.mem_of_find?_eq_some hy) hx (by simpa using List.find?_some hy)]

theorem TagTable.numbers_nodup (t : TagTable) (h : t.sound) : (t.tags.map (·.number)).Nodup := by
  obtain ⟨-, -, -, -, hpair⟩ := h
  exact List.pairwise_map.2 (hpair.imp fun hne => hne.1)

theorem TagTable.mem_tags_of_slot (t : TagTable) (x : Tag) (i : Nat) (h : t.slots.getD i none = some x) : x ∈ t.tags := by
  rw [List.getD_eq_getElem?_getD] at h
  cases hi : t.slots[i]? with
  | none => simp [hi] at h
  | some o => exact List.mem_filterMap.2 ⟨o, List.mem_of_getElem? hi, by simpa [hi] using h⟩

theorem TagTable.find_of_mem (t : TagTable) (x : Tag) (h : t.sound) (hx : x ∈ t.tags) : t.find x.number = some x :=
  find?_of_nodup Tag.number t.tags x (t.numbers_nodup h) hx

theorem TagTable.find_of_not_holds (t : TagTable) (n : Nat) (h : t.holds n = false) : t.find n = none := by
  refine List.find?_eq_none.2 fun x hx hn => ?_
  rw [TagTable.holds, List.any_eq_false] at h
  exact h x hx hn

/-- In a sound table the slot that holds a tag's number is the tag's own. -/
theorem TagTable.slotOf_of_slot (t : TagTable) (x : Tag) (i : Nat) (h : t.sound) (hi : t.slots.getD i none = some x) :
    t.slotOf x.number = i := by
  obtain ⟨-, -, -, -, hpair⟩ := h
  have hlt : i < t.slots.length := by
    by_contra hge
    simp [List.getD_eq_getElem?_getD, List.getElem?_eq_none (Nat.le_of_not_lt hge)] at hi
  have hx : t.slots[i] = some x := by simpa [List.getD_eq_getElem?_getD, List.getElem?_eq_getElem hlt] using hi
  refine (List.findIdx_eq hlt).2 ⟨by simp [hx], fun j hj => ?_⟩
  have hjx := List.pairwise_iff_getElem.1 (List.pairwise_filterMap.1 hpair) j i (hj.trans hlt) hlt hj
  cases hy : t.slots[j] with
  | none => rfl
  | some y => simpa using (hjx y (by simpa using hy) x (by simpa using hx)).1

/-- The tags by ascending number: the one list of the table's tags in which the numbers ascend (R89). -/
theorem TagTable.sorted_eq (t : TagTable) (l : List Tag) (hperm : l.Perm t.tags) (hl : l.Pairwise fun x y => x.number < y.number) :
    t.sorted = l := by
  let r : Tag → Tag → Prop := fun x y => x.number ≤ y.number
  have hinsert (x : Tag) (l : List Tag) : insertTag x l = l.orderedInsert r x := by
    induction l with
    | nil => rfl
    | cons y rest ih => rw [insertTag, ih, List.orderedInsert_cons]
  have hsorted : t.sorted = t.tags.insertionSort r := by
    rw [TagTable.sorted, List.insertionSort, funext₂ hinsert]
  have htotal : Std.Total r := ⟨fun x y => Nat.le_total x.number y.number⟩
  have htrans : IsTrans Tag r := ⟨fun _ _ _ => Nat.le_trans⟩
  rw [hsorted]
  have hsame : (t.tags.insertionSort r).Perm l := (List.perm_insertionSort r t.tags).trans hperm.symm
  have hnodup : (l.map (·.number)).Nodup := List.pairwise_map.2 (hl.imp fun hlt => Nat.ne_of_lt hlt)
  refine List.Perm.eq_of_pairwise (fun x y hx hy hxy hyx => ?_) (List.pairwise_insertionSort r t.tags) (hl.imp Nat.le_of_lt) hsame
  exact List.inj_on_of_nodup_map hnodup (hsame.subset hx) hy (Nat.le_antisymm hxy hyx)

end Sys2Proof.Machine
end

section
/-! SUPPORT and PROOFS. The reading requests (spec/10 R186, R189): each answers, and changes nothing but the transmit list; O59. -/

namespace Sys2Proof.Machine

/-! ### The requests and their answers -/

theorem exec_identify (tag : Byte) (s : State) (h : s.serving) :
    exec (.identify tag) s = .next (s.replied 0x01#8 tag .ok identity) :=
  congrArg _ (receive_answered ⟨0x01#8, tag, .identify⟩ .ok identity s h fun _ => rfl)

theorem exec_readMeasure (tag : Byte) (s : State) (h : s.serving) :
    exec (.readMeasure tag) s = .next (s.replied 0x02#8 tag .ok (measureReply s)) :=
  congrArg _ (receive_answered ⟨0x02#8, tag, .readMeasure⟩ .ok (measureReply s) s h fun _ => rfl)

theorem stateSection_taking (sect start : Nat) (f : RxFrame) (s : State) :
    stateSection sect start (s.taking f) = stateSection sect start s := rfl

theorem exec_readState (tag sect start : Byte) (s : State) (h : s.serving) (body : Bytes)
    (hb : stateSection sect.toNat start.toNat s = some body) :
    exec (.readState tag sect start) s = .next (s.replied 0x03#8 tag .ok body) := by
  refine congrArg _ (receive_answered ⟨0x03#8, tag, .readState sect.toNat start.toNat⟩ .ok body s h fun _ => ?_)
  simp only [serve, serveReadState, stateSection_taking, hb]

theorem exec_readState_unknown (tag sect start : Byte) (s : State) (h : s.serving)
    (hb : stateSection sect.toNat start.toNat s = none) :
    exec (.readState tag sect start) s = .next (s.replied 0x03#8 tag .badField []) := by
  refine congrArg _ (receive_answered ⟨0x03#8, tag, .readState sect.toNat start.toNat⟩ .badField [] s h fun _ => ?_)
  simp only [serve, serveReadState, stateSection_taking, hb]

theorem exec_tagRead (tag selector : Byte) (value : BitVec 16) (s : State) (h : s.serving) (res : Res) (body : Bytes)
    (hb : tagReadAnswer selector.toNat value.toNat s.tag.table = (res, body)) :
    exec (.tagRead tag selector value) s = .next (s.replied 0x23#8 tag res body) := by
  refine congrArg _ (receive_answered ⟨0x23#8, tag, .tagRead selector.toNat value.toNat⟩ res body s h fun _ => ?_)
  simp only [serve, show (s.taking ⟨0x23#8, tag, .tagRead selector.toNat value.toNat⟩).tag = s.tag from rfl, hb]

theorem exec_recordRead (tag : Byte) (number : BitVec 32) (s : State) (h : s.serving) (res : Res) (body : Bytes)
    (hb : recordReadAnswer number.toNat s.orl = (res, body)) :
    exec (.recordRead tag number) s = .next (s.replied 0x30#8 tag res body) := by
  refine congrArg _ (receive_answered ⟨0x30#8, tag, .recordRead number.toNat⟩ res body s h fun _ => ?_)
  simp only [serve, show (s.taking ⟨0x30#8, tag, .recordRead number.toNat⟩).orl = s.orl from rfl, hb]

/-! ### The sections of READ_STATE -/

theorem stateSection_length_le (sect start : Nat) (s : State) (h : sect ≤ 7) :
    ∃ body, stateSection sect start s = some body ∧ body.length ≤ 95 := by
  interval_cases sect
  · refine ⟨_, rfl, ?_⟩
    simp only [seqSection, List.length_append, be1_length, flag_length, maskOf_length, opt1_length, opt4_length,
      flatMap_length_const _ be1 1 be1_length, List.length_take, bodyTop]
    omega
  · refine ⟨_, rfl, ?_⟩
    simp [peuSection, elementOrder, encodeElem]
  · exact ⟨_, rfl, by simp [actSection]⟩
  · refine ⟨_, rfl, ?_⟩
    have hpage := pagedList_length_le 5 start (s.tag.table.sorted.map (encodeTagEntry s.tag.table)) (by decide)
    simp only [tagSection, List.length_append, be1_length, be2_length, Nat.reduceAdd]
    omega
  · refine ⟨_, rfl, ?_⟩
    have hpage := pagedList_length_le 16 start (s.bcu.history.map encodeTestResult) (by decide)
    simp only [bcuSection, List.length_append, be1_length, maskOf_length, opt1_length, opt2_length, opt4_length, Nat.reduceAdd]
    omega
  · exact ⟨_, rfl, by simp [orlSection]⟩
  · refine ⟨_, rfl, ?_⟩
    have hpage := pagedList_length_le 16 start (s.rcc.outbox.map encodeEntry) (by decide)
    simp only [rccSection, List.length_append, be1_length, be2_length, maskOf_length, opt1_length, opt2_length, Nat.reduceAdd]
    omega
  · exact ⟨_, rfl, by simp [sstSection, encodeTarget_length]⟩

/-! ### TAG_READ and RECORD_READ -/

theorem tagReadAnswer_bad (selector value : Nat) (t : TagTable)
    (h : 1 < selector ∨ (selector = 0 ∧ 7 < value) ∨ (selector = 1 ∧ value = 0)) : tagReadAnswer selector value t = (.badField, []) :=
  if_pos h

theorem tagReadAnswer_found (selector value : Nat) (t : TagTable) (x : Tag) (i : Nat)
    (h : ¬ (1 < selector ∨ (selector = 0 ∧ 7 < value) ∨ (selector = 1 ∧ value = 0))) (ht : t.sound)
    (hx : t.slots.getD i none = some x) (hv : if selector = 0 then i = value else x.number = value) :
    tagReadAnswer selector value t = (.ok, maskOf [x.placedAt.isSome, x.left.isSome] ++ [1#8] ++ be1 i ++ encodeTag x) := by
  have hread : readTag selector value t = some x := by
    unfold readTag
    split at hv
    · rename_i hs
      rw [if_pos hs, ← hv, hx]
    · rename_i hs
      rw [if_neg hs, ← hv, t.find_of_mem x ht (t.mem_tags_of_slot x i hx)]
  rw [tagReadAnswer, if_neg h, hread, tagReadReply, t.slotOf_of_slot x i ht hx]
  rfl

theorem tagReadAnswer_absent (selector value : Nat) (t : TagTable)
    (h : ¬ (1 < selector ∨ (selector = 0 ∧ 7 < value) ∨ (selector = 1 ∧ value = 0)))
    (hv : if selector = 0 then t.slots.getD value none = none else t.holds value = false) :
    tagReadAnswer selector value t = (.ok, [0#8, 0#8, 0#8]) := by
  have hread : readTag selector value t = none := by
    unfold readTag
    split at hv
    · rename_i hs
      rw [if_pos hs, hv]
    · rename_i hs
      rw [if_neg hs, t.find_of_not_holds value hv]
  rw [tagReadAnswer, if_neg h, hread]
  rfl

theorem recordReadAnswer_found (n : Nat) (o : Orl) (r : Record) (h0 : n ≠ 0) (hn : n < o.next)
    (hring : o.ring.Pairwise fun x y => x.number < y.number) (hr : r ∈ o.ring) (heq : r.number = n) :
    recordReadAnswer n o = (.ok, encodeRecord r) := by
  have hnodup : (o.ring.map Record.number).Nodup := List.pairwise_map.2 (hring.imp fun hlt => Nat.ne_of_lt hlt)
  have hfind : o.ring.find? (·.number == n) = some r := heq ▸ find?_of_nodup Record.number o.ring r hnodup hr
  simp only [recordReadAnswer, if_neg h0, if_neg (Nat.not_le.2 hn), hfind]

theorem recordReadAnswer_gone (n : Nat) (o : Orl) (r : Record) (h0 : n ≠ 0) (hn : n < o.next)
    (hring : o.ring.Pairwise fun x y => x.number < y.number) (hr : o.ring.head? = some r) (hlt : n < r.number) :
    recordReadAnswer n o = (.gone, be4 r.number) := by
  obtain ⟨rest, hrest⟩ := List.head?_eq_some_iff.1 hr
  have hfind : o.ring.find? (·.number == n) = none := by
    refine List.find?_eq_none.2 fun x hx hxn => ?_
    have hxn : x.number = n := by simpa using hxn
    rw [hrest] at hx hring
    rcases List.mem_cons.1 hx with rfl | hx
    · omega
    · have := (List.pairwise_cons.1 hring).1 x hx
      omega
  simp only [recordReadAnswer, if_neg h0, if_neg (Nat.not_le.2 hn), hfind, hr]

end Sys2Proof.Machine
end

section
/-! PROOFS. The reading requests put together; O59. -/

namespace Sys2Proof.Machine

theorem be1_toNat (b : Byte) : be1 b.toNat = [b] := by simp [be1]

/-- A paged section answers its head, its total, the start index, and the whole entries from there on that fit (R186, R191). -/
theorem exec_readState_paged (tag sect start : Byte) (s : State) (h : s.serving) (number : Byte) (head : Bytes) (entries : List Bytes)
    (hb : stateSection number.toNat start.toNat s = some (head ++ pagedList (1 + head.length) start.toNat entries)) :
    ∃ k, fillsPage (93 - head.length) (entries.drop start.toNat) k ∧
      (sect = number → exec (.readState tag sect start) s = .next (s.replied 0x03#8 tag .ok
        (head ++ be1 entries.length ++ [start] ++ ((entries.drop start.toNat).take k).flatten))) := by
  obtain ⟨k, hfills, hpage⟩ := pagedList_fills (1 + head.length) start.toNat entries
  refine ⟨k, by rwa [← Nat.sub_sub] at hfills, ?_⟩
  rintro rfl
  rw [exec_readState tag sect start s h _ hb, hpage, be1_toNat]
  simp only [List.append_assoc]

/-- The identity begins with the vendor and the part, and its revision counts from 1 (R189). -/
theorem identity_fields : ∃ rev hi lo : Byte, rev ≠ 0#8 ∧ identity = [0x4A#8, 0x4B#8, 0x01#8, 0xCC#8, rev, hi, lo] := by
  refine ⟨BitVec.ofNat 8 (Config.dieRevision % 255 + 1), BitVec.ofNat 8 (Config.inputScaling.toNat / 256),
    BitVec.ofNat 8 Config.inputScaling.toNat, fun h => ?_, rfl⟩
  have hlt := Nat.mod_lt Config.dieRevision (show 0 < 255 by decide)
  have hzero : (Config.dieRevision % 255 + 1) % 2 ^ 8 = 0 := by simpa using congrArg BitVec.toNat h
  omega

/-- The bytes of a target that may be absent, kind before number. -/
theorem encodeTarget_map (x : Option StageBuf) :
    encodeTarget (x.map (·.target)) = ((x.map fun b => match b.target with
      | .group n => be1 0 ++ be1 n | .global => be1 1 ++ be1 0 | .curve n => be1 2 ++ be1 n).getD [0#8, 0#8]) := by
  cases x with
  | none => rfl
  | some b =>
    simp only [Option.map_some, Option.getD_some]
    cases b.target <;> rfl

/-- The user curves are curves 4 to 11 (R28 of spec/02). -/
theorem curvesLoaded_flags (curves : List Page) :
    ([4, 5, 6, 7, 8, 9, 10, 11].flatMap fun n => flag (curveLoaded curves n)) =
      (List.range 8).flatMap fun i => flag ((curves.getD i unloadedCurve).field 0 != 0) := by
  rw [show [4, 5, 6, 7, 8, 9, 10, 11] = (List.range 8).map (· + 4) from rfl, List.flatMap_map]
  simp [curveLoaded]

/-- Settles O59, by the answer that each owner gives from the state as it stands. -/
theorem readsChangeNothing : Obligations.ReadsChangeNothing := by
  have hpos {number : BitVec 32} (h0 : number ≠ 0) : number.toNat ≠ 0 := fun hn => h0 (BitVec.eq_of_toNat_eq hn)
  refine ⟨?_, fun tag sect start selector value number s h => ⟨?_, ?_, ?_, ?_, ?_, ?_, ?_, ?_⟩⟩
  · obtain ⟨rev, hi, lo, hrev, hid⟩ := identity_fields
    exact ⟨rev, hi, lo, hrev, fun tag s h => hid ▸ exec_identify tag s h⟩
  · intro m bits
    rw [exec_readMeasure tag s h, ← show fullCount s.sst.globalPage.capacity = s.sst.globalPage.field 6 * 3600000 from rfl]
    unfold measureReply
    generalize fullCount s.sst.globalPage.capacity = full
    simp only [bits, m, List.flatMap_cons, List.flatMap_nil, List.append_nil, List.append_assoc]
    rfl
  · intro state held origin oldest newest staged targetOf o1 o2 o4 q kinds load suspended paged
    have hstate (number : Byte) (body : Bytes) (hb : stateSection number.toNat start.toNat s = some body) : state number body := by
      rintro rfl
      exact exec_readState tag sect start s h body hb
    have hpaged (number : Byte) (head : Bytes) (entries : List Bytes)
        (hb : stateSection number.toNat start.toNat s = some (head ++ pagedList (1 + head.length) start.toNat entries)) :
        paged number head entries := exec_readState_paged tag sect start s h number head entries hb
    refine ⟨hstate 0 _ ?_, fun l hperm hl => hpaged 3 _ _ ?_, hpaged 4 _ _ ?_, hpaged 6 _ _ ?_, hstate 1 _ ?_, hstate 2 _ ?_,
      hstate 5 _ ?_, hstate 7 _ ?_⟩
    · rw [show kinds = (s.seq.trip.getD []).map TripReq.kindCode from List.map_congr_left fun r _ => by cases r <;> rfl]
      rfl
    · rw [← TagTable.sorted_eq _ l hperm hl]
      rfl
    · rfl
    · rfl
    · rfl
    · rfl
    · rw [show oldest.isSome = s.orl.ring.head?.isSome from Option.isSome_map,
        show newest.isSome = s.orl.ring.getLast?.isSome from Option.isSome_map]
      rfl
    · change some (sstSection s.sst) = _
      rw [sstSection, encodeTarget_map, curvesLoaded_flags]
      rfl
  · intro hsect
    obtain ⟨body, hb, hlen⟩ := stateSection_length_le sect.toNat start.toNat s hsect
    exact ⟨body, exec_readState tag sect start s h body hb, hlen⟩
  · intro hsect
    refine exec_readState_unknown tag sect start s h ?_
    obtain ⟨n, hn⟩ := Nat.exists_eq_add_of_le' (Nat.succ_le_of_lt hsect)
    rw [hn]
    rfl
  · have hbad : (1 < selector.toNat ∨ (selector = 0 ∧ 7 < value.toNat) ∨ (selector = 1 ∧ value = 0)) ↔
        (1 < selector.toNat ∨ (selector.toNat = 0 ∧ 7 < value.toNat) ∨ (selector.toNat = 1 ∧ value.toNat = 0)) := by
      rw [← BitVec.toNat_inj, ← BitVec.toNat_inj, ← BitVec.toNat_inj]
      rfl
    have hsel : selector = 0 ↔ selector.toNat = 0 := BitVec.toNat_inj.symm
    intro bad
    simp only [bad, hbad, hsel]
    refine ⟨fun hb => exec_tagRead tag selector value s h _ _ (tagReadAnswer_bad _ _ _ hb),
      fun hb ht => ⟨fun x i hx hv => ?_, fun hv => ?_⟩⟩
    · exact exec_tagRead tag selector value s h _ _ (tagReadAnswer_found _ _ _ x i hb ht hx hv)
    · exact exec_tagRead tag selector value s h _ _ (tagReadAnswer_absent _ _ _ hb hv)
  · intro hn
    exact exec_recordRead tag number s h _ _ (by rw [hn]; rfl)
  · intro h0 hn
    exact exec_recordRead tag number s h _ _ ((if_neg (hpos h0)).trans (if_pos hn))
  · intro h0 hn hring
    exact ⟨fun r hr heq => exec_recordRead tag number s h _ _ (recordReadAnswer_found _ _ r (hpos h0) hn hring hr heq),
      fun r hr hlt => exec_recordRead tag number s h _ _ (recordReadAnswer_gone _ _ r (hpos h0) hn hring hr hlt)⟩

end Sys2Proof.Machine
end

section
/-! SUPPORT. What a pulse that the hold-up supply completes leaves for the cold start after it (spec/09 R179, R180): the store, the write in
flight, the buffer, the disconnect latch and the capacitor. -/

namespace Sys2Proof.Machine

/-! ### The SST after a loss of supply -/

/-- What a cold start reads of an SST that has lost its supply: nothing else decides what has landed. -/
def Sst.atLoss (x : Sst) : Option (Store × Staging × Option RetItem) := if x.lost then some (x.store, x.staging, x.inFlight) else none

theorem landed_of_atLoss (x y : Sst) (land : Bool) (hx : x.lost = true) (h : y.atLoss = x.atLoss) : y.landed land = x.landed land := by
  have hy : y.lost = true := by
    by_contra hn
    simp [Sst.atLoss, hx, hn] at h
  simp only [Sst.atLoss, hx, hy, if_true, Option.some.injEq, Prod.mk.injEq] at h
  obtain ⟨hstore, hstaging, hflight⟩ := h
  simp only [Sst.landed, Sst.written, Sst.paged, hx, hy, hstore, hstaging, hflight]

/-- After a loss no write starts, so that a handed one waits. -/
@[simp] theorem kick_atLoss (x : Sst) : x.kick.atLoss = x.atLoss := by
  cases hx : x.lost with
  | true => rw [kick_lost x hx]
  | false => simp [Sst.atLoss, hx]

@[simp] theorem queueWrite_atLoss (i : RetItem) (s : State) : (queueWrite i s).sst.atLoss = s.sst.atLoss :=
  kick_atLoss { s.sst with queue := insertWrite i s.sst.queue }

@[simp] theorem enterRecord_atLoss (r : Record) (s : State) : (enterRecord r s).sst.atLoss = s.sst.atLoss := by
  simp [enterRecord]

@[simp] theorem complete_atLoss (body : RecBody) (s : State) : (complete body s).sst.atLoss = s.sst.atLoss := by
  unfold complete completeNow
  split <;> simp

@[simp] theorem completeAll_atLoss (bodies : List RecBody) (s : State) : (completeAll bodies s).sst.atLoss = s.sst.atLoss := by
  unfold completeAll
  induction bodies generalizing s with
  | nil => rfl
  | cons b rest ih => simpa using ih (complete b s)

@[simp] theorem takeHeld_atLoss (s : State) : (takeHeld s).sst.atLoss = s.sst.atLoss := by
  unfold takeHeld
  split <;> rfl

@[simp] theorem applyGroup_atLoss (g : Nat) (s : State) : (applyGroup g s).sst.atLoss = s.sst.atLoss := by
  simp only [applyGroup, queueWrite_atLoss, complete_atLoss, applyToElements_keeps]
  rfl

@[simp] theorem applyPending_atLoss (s : State) : (applyPending s).sst.atLoss = s.sst.atLoss := by
  unfold applyPending
  split <;> simp

@[simp] theorem enterLockout_atLoss (c : Cause) (s : State) : (enterLockout c s).sst.atLoss = s.sst.atLoss := by simp [enterLockout]

@[simp] theorem enterMechFail_atLoss (s : State) : (enterMechFail s).sst.atLoss = s.sst.atLoss := by
  unfold enterMechFail
  split <;> simp

@[simp] theorem setMech_atLoss (f : Bool) (s : State) : (setMech f s).sst.atLoss = s.sst.atLoss := by
  unfold setMech
  split <;> simp

@[simp] theorem countOperation_atLoss (s : State) : (countOperation s).sst.atLoss = s.sst.atLoss := by
  unfold countOperation
  split <;> simp

@[simp] theorem takeInterruption_atLoss (p : PulsePart) (s : State) : (takeInterruption p s).sst.atLoss = s.sst.atLoss := by
  unfold takeInterruption
  (repeat' split) <;> simp

@[simp] theorem handPart_atLoss (p : TripPart) (s : State) : (handPart p s).sst.atLoss = s.sst.atLoss := by
  unfold handPart completeTrip
  split <;> simp

@[simp] theorem handSeqPart_atLoss (s : State) : (handSeqPart s).sst.atLoss = s.sst.atLoss := by
  unfold handSeqPart
  split <;> simp

@[simp] theorem carryOut_atLoss (d : AfterTrip) (s : State) : (carryOut d s).sst.atLoss = s.sst.atLoss := by
  unfold carryOut
  split <;> simp

@[simp] theorem tripCompletion_atLoss (o : PulseOutcome) (pp : PulsePart) (partFirst : Bool) (s : State) :
    (tripCompletion o pp partFirst s).sst.atLoss = s.sst.atLoss := by
  simp only [tripCompletion]
  (repeat' split) <;> simp

@[simp] theorem handCloseRecord_atLoss (b : RecBody) (o : PulseOutcome) (s : State) :
    (handCloseRecord b o s).sst.atLoss = s.sst.atLoss := by
  unfold handCloseRecord
  split <;> simp

@[simp] theorem seqCloseCompletion_atLoss (o : PulseOutcome) (s : State) : (seqCloseCompletion o s).sst.atLoss = s.sst.atLoss := by
  unfold seqCloseCompletion
  (repeat' split) <;> simp

@[simp] theorem runOutPulse_atLoss (s : State) : (runOutPulse s).sst.atLoss = s.sst.atLoss := by
  unfold runOutPulse endTrip endClose
  (repeat' split) <;> simp

/-! ### The battery disconnect (spec/06 R123) -/

@[simp] theorem seqTo_connected (x : SeqState) (s : State) : (seqTo x s).bcu.connected = s.bcu.connected := by
  unfold seqTo
  split
  · simp only [resumeTest, Bcu.settle, Bcu.chargerToTest]
    (repeat' split) <;> rfl
  · simp only [Bcu.suspend]
    split <;> rfl

@[simp] theorem enterLockout_connected (c : Cause) (s : State) : (enterLockout c s).bcu.connected = s.bcu.connected := by
  simp [enterLockout]

@[simp] theorem enterMechFail_connected (s : State) : (enterMechFail s).bcu.connected = s.bcu.connected := by
  unfold enterMechFail
  split <;> simp

@[simp] theorem carryOut_connected (d : AfterTrip) (s : State) : (carryOut d s).bcu.connected = s.bcu.connected := by
  unfold carryOut
  split <;> simp [enterDeadTime]

@[simp] theorem tripCompletion_connected (o : PulseOutcome) (pp : PulsePart) (partFirst : Bool) (s : State) :
    (tripCompletion o pp partFirst s).bcu.connected = s.bcu.connected := by
  simp only [tripCompletion, exhaustionTripEnded]
  (repeat' split) <;> simp

@[simp] theorem seqCloseCompletion_connected (o : PulseOutcome) (s : State) :
    (seqCloseCompletion o s).bcu.connected = s.bcu.connected := by
  unfold seqCloseCompletion
  (repeat' split) <;> simp [enterReclaim, enterReclaimByHand]

@[simp] theorem runOutPulse_connected (s : State) : (runOutPulse s).bcu.connected = s.bcu.connected := by
  unfold runOutPulse endTrip endClose
  (repeat' split) <;> simp

/-! ### The actuator -/

theorem setMech_act (f : Bool) (s : State) : (setMech f s).act = { s.act with mech := f } := by
  unfold setMech
  split
  · rename_i h
    rw [← h]
  · simp

/-- A pulse that runs out is one pulse more, and no measurement of the capacitor. -/
theorem runOutPulse_act (s : State) :
    (runOutPulse s).act.cap = s.act.cap ∧
    (runOutPulse s).act.pulses = if s.act.state = .tripPulse ∨ s.act.state = .closePulse then s.act.pulses + 1 else s.act.pulses := by
  unfold runOutPulse
  split
  · rename_i h
    simp [endTrip, setMech_act, Act.toIdle, h]
  · rename_i h
    simp [endClose, quietEnd, setMech_act, Act.toIdle, h]
  · rename_i h
    simp [h]
  · rename_i h
    simp [h]

end Sys2Proof.Machine
end

section
/-! SUPPORT and PROOFS. RESTART, the warm start, the cold start and the end of the start delay (spec/09 R180); O55. -/

namespace Sys2Proof.Machine

/-! ### RESTART (spec/09 R180) -/

theorem exec_restart_busy (tag : Byte) (s : State) (h : s.serving) (hbusy : s.act.state ≠ .idle ∨ s.sst.staging.isCommitting = true) :
    exec (.restart tag) s = .next (s.replied 0x60#8 tag .busy []) :=
  congrArg _ (receive_answered ⟨0x60#8, tag, .restart⟩ .busy [] s h fun _ => if_pos hbusy)

theorem exec_restart_accepted (tag : Byte) (s : State) (h : s.serving) (hact : s.act.state = .idle)
    (hsst : s.sst.staging.isCommitting = false) :
    exec (.restart tag) s = .next { s with restarting := some s.bcu.charge
                                           hlc := { s.hlc with tx := s.hlc.tx ++ [⟨0xE0#8, tag, [0#8], false⟩], rx := [] } } := by
  let f : RxFrame := ⟨0x60#8, tag, .restart⟩
  have hserve : serveRestart (s.taking f) =
      { s.replied 0x60#8 tag .ok [] with restarting := some s.bcu.charge
                                         hlc := { (s.replied 0x60#8 tag .ok []).hlc with queue := [], rx := [] } } := by
    rw [serveRestart, if_neg (by simp [State.taking, hact, hsst]), hostReply_taking f .ok [] s h]
    rfl
  refine congrArg _ ((receive_serving f s h).trans ?_)
  change pumpFor 4 (serveRestart (s.taking f)) = _
  rw [hserve, pumpFor_without_frames 4 _ rfl, ← h.1.2.2]
  rfl

/-! ### The warm start (spec/09 R180, spec/08 R165) -/

theorem warmReady_iff (s : State) :
    warmReady s = true ↔ s.stage = .running ∧ s.sst.lost = false ∧ s.restarting.isSome = true ∧ s.sst.drained = true ∧
      s.act.state = .idle ∧ ∀ f ∈ s.hlc.tx, f.kind ≠ 0xE0#8 := by
  simp [warmReady, restartReplyWaits, and_assoc]

theorem exec_warmStart (s : State) (h : warmReady s = true) : exec .warmStart s = .next (warmStart s) := by
  change execWarmStart s = _
  simp [execWarmStart, happens, h]

theorem exec_warmStart_lost (s : State) (h : s.sst.lost = true) : exec .warmStart s = .next s := by
  change execWarmStart s = _
  simp [execWarmStart, happens, warmReady, h]

theorem mem_eraseLast_of_neg (p : Entry → Bool) (l : List Entry) (e : Entry) (he : e ∈ l) (hp : p e = false) : e ∈ eraseLast p l := by
  rw [eraseLast, List.mem_reverse, List.mem_eraseP_of_neg (by simp [hp]), List.mem_reverse]
  exact he

/-- An entry as a return leaves it: WAITING (spec/08 R152, R159). -/
def Entry.returned (countTry : Bool) (e : Entry) : Entry :=
  if e.await then { e with await := false, tries := if countTry then min 4 (e.tries + 1) else e.tries } else e

/-- A return moves every entry to WAITING, and then takes at most the youngest STATUS entry away. -/
theorem returnAwait_cases (countTry : Bool) (l : List Entry) :
    returnAwait countTry l = l.map (Entry.returned countTry) ∨
    ((∃ e ∈ l, e.await = true) ∧ returnAwait countTry l = eraseLast (·.cls == .status) (l.map (Entry.returned countTry))) := by
  have hdef : returnAwait countTry l =
      if (l.any (fun e => e.await && e.cls == .status) &&
        decide (1 < (l.map (Entry.returned countTry)).countP fun e => e.cls == .status)) = true
      then eraseLast (·.cls == .status) (l.map (Entry.returned countTry)) else l.map (Entry.returned countTry) := rfl
  rw [hdef]
  split
  · rename_i h
    refine Or.inr ⟨?_, rfl⟩
    obtain ⟨e, he, ha⟩ := List.any_eq_true.1 (Bool.and_eq_true _ _ ▸ h).1
    exact ⟨e, he, (Bool.and_eq_true _ _ ▸ ha).1⟩
  · exact Or.inl rfl

theorem Entry.returned_of_waiting (countTry : Bool) (e : Entry) (h : e.await = false) : e.returned countTry = e := by
  simp [Entry.returned, h]

theorem Entry.returned_untried (e : Entry) : e.returned false = { e with await := false } := by
  cases h : e.await with
  | true => simp [Entry.returned, h]
  | false => rw [Entry.returned_of_waiting false e h, ← h]

/-- A return without a try keeps every report, waiting (R165). -/
theorem mem_returnAwait (l : List Entry) (e : Entry) (he : e ∈ l) (hs : e.cls ≠ .status) :
    { e with await := false } ∈ returnAwait false l := by
  have hmem : { e with await := false } ∈ l.map (Entry.returned false) := List.mem_map.2 ⟨e, he, e.returned_untried⟩
  obtain h | ⟨-, h⟩ := returnAwait_cases false l
  · rwa [h]
  · rw [h]
    exact mem_eraseLast_of_neg _ _ _ hmem (beq_false_of_ne hs)

theorem returnAwait_of_none_awaits (countTry : Bool) (l : List Entry) (h : ∀ e ∈ l, e.await = false) : returnAwait countTry l = l := by
  obtain hr | ⟨⟨e, he, ha⟩, -⟩ := returnAwait_cases countTry l
  · rw [hr, List.map_congr_left fun e he => Entry.returned_of_waiting countTry e (h e he), List.map_id']
  · exact absurd ha (by simp [h e he])

/-! ### The cold start (spec/09 R179, R180; logs 21, 45) -/

/-- What a cold start leaves: the store as it has landed, the disconnect latch, the capacitor and the count of pulses. -/
theorem coldStart_eq (land : Bool) (s : State) :
    coldStart land s = .blank (.startDelay .cold) (s.sst.landed land) s.bcu.connected s.act.cap
      (if s.sst.lost = true ∧ (s.act.state = .tripPulse ∨ s.act.state = .closePulse) then s.act.pulses + 1 else s.act.pulses)
      s.pending := by
  cases hlost : s.sst.lost with
  | false => simp [coldStart_without_loss land s hlost, beginCold]
  | true =>
    obtain ⟨hcap, hpulses⟩ := runOutPulse_act s
    rw [coldStart_after_a_loss land s hlost, beginCold, landed_of_atLoss s.sst _ land hlost (runOutPulse_atLoss s), hcap, hpulses]
    simp

/-- The store with the retained write in flight, where it has landed. -/
def Sst.landedWrite (land : Bool) (x : Sst) : Store := if land = true ∨ x.lost = true then x.written else x.store

theorem landed_eq (land : Bool) (x : Sst) : x.landed land = if land then x.paged (x.landedWrite land) else x.landedWrite land := by
  simp [Sst.landed, Sst.landedWrite]

theorem paged_of_no_page_write (x : Sst) (st : Store) (h : ∀ b reply, x.staging ≠ .committing b reply true) : x.paged st = st := by
  unfold Sst.paged
  split
  · rename_i b reply hb
    exact absurd hb (h b reply)
  · rfl

theorem paged_of_page_write (x : Sst) (st : Store) (b : StageBuf) (reply : Bool) (h : x.staging = .committing b reply true) :
    x.paged st = st.withPage b.target (storedPage b.target b.page) := by
  simp [Sst.paged, h]

theorem storedPage_isStored (t : Target) (p : Page) : isStored t p (storedPage t p) := by
  cases t with
  | group n => exact ⟨rfl, fun _ _ => rfl⟩
  | global => exact ⟨rfl, fun _ _ => rfl⟩
  | curve n =>
    refine ⟨by simp [storedPage, storedCurve], fun i hi => ?_⟩
    simp [storedPage, storedCurve, Page.field, List.getD_eq_getElem?_getD, hi]

/-! ### The end of the start delay (spec/09 R180) -/

theorem exec_startDelayEnd (inp : StartInputs) (k : StartKind) (s : State) (h : s.stage = .startDelay k) :
    exec (.startDelayEnd inp) s = .next (startBlocks k inp s) := by
  change execStartDelayEnd inp s = _
  simp [execStartDelayEnd, h]

/-- A charger without supply moves its own state at most. -/
theorem chargerStep_of_noSupply (capacity : Nat) (b : Bcu) (h : b.charger = .noSupply) :
    ∃ c n, b.chargerStep capacity = { b with charger := c, faultClear := n } := by
  unfold Bcu.chargerStep
  split
  · exact ⟨_, _, rfl⟩
  · simp only [Bcu.chargerMove, h]
    split
    · exact ⟨.bulk, b.faultClear, rfl⟩
    · exact ⟨b.charger, b.faultClear, rfl⟩

/-- The first measurement moves neither the charge nor what hangs on it. -/
theorem firstMeasurement_keeps (capacity : Nat) (b : Bcu) (h : b.charger = .noSupply) :
    let t := (b.formSetpoints.chargerStep capacity).runs
    t.connected = b.connected ∧ t.test = b.test ∧ t.history = b.history ∧ t.charge = b.charge ∧ t.soc = b.soc ∧ t.level = b.level := by
  obtain ⟨c, n, hstep⟩ := chargerStep_of_noSupply capacity b.formSetpoints h
  rw [hstep]
  exact ⟨rfl, rfl, rfl, rfl, rfl, rfl⟩

/-- What the start leaves at the BCU (spec/06 R118, R121, R123, R132). -/
theorem startBcu_reads (k : StartKind) (st : Store) (m : BattMeas) (running : Nat) :
    let b := startBcu k st m running
    let soc := socOf (fullCount st.globalPage.capacity) (startCharge k st running)
    b.connected = true ∧ b.test = .idle ∧ b.history = st.history ∧ b.charge = startCharge k st running ∧ b.soc = soc ∧
    b.level = startLevel soc :=
  firstMeasurement_keeps st.globalPage.capacity _ rfl

theorem startCharge_cold (st : Store) (running : Nat) :
    startCharge .cold st running =
      min (fullCount st.globalPage.capacity) (st.charge.getD (fullCount st.globalPage.capacity * 50 / 100)) := by
  have hhalf (full : Nat) : full * 50 / 100 = min full (full * 50 / 100) := by omega
  cases h : st.charge with
  | none =>
    rw [Option.getD_none, ← hhalf]
    simp only [startCharge, h]
  | some c =>
    rw [Option.getD_some]
    simp only [startCharge, h]

theorem PhaseWear.start_formed (budget count : Nat) : (PhaseWear.start budget count).formed budget := ⟨rfl, rfl⟩

theorem startOrl_formed (k : StartKind) (st : Store) (o : Orl) (q : Phase) :
    ((startOrl k st o).phase q).formed st.globalPage.wearBudget := by
  cases q <;> exact PhaseWear.start_formed _ _

theorem startOrl_cold (st : Store) (o : Orl) :
    let t := startOrl .cold st o
    t.ring = st.ring ∧ t.next = st.next ∧ t.counts = st.wear ∧ t.opCount = st.opCount ∧ t.time = 0 ∧ t.valid = false :=
  ⟨rfl, rfl, rfl, rfl, rfl, rfl⟩

theorem startOrl_warm (st : Store) (o : Orl) :
    let t := startOrl .warm st o
    t.ring = o.ring ∧ t.next = o.next ∧ t.counts = o.counts ∧ t.opCount = o.opCount ∧ t.time = o.time ∧ t.valid = o.valid :=
  ⟨rfl, rfl, rfl, rfl, rfl, rfl⟩

theorem startRcc_reads (k : StartKind) (p : Page) (r : Rcc) :
    (startRcc k p r).chan = (if p.stationId = 0 then .silent else .searching) ∧ (startRcc k p r).pending = none ∧
    (startRcc k p r).frameMs = none := by
  cases k <;> exact ⟨rfl, rfl, rfl⟩

theorem startAct_eq (st : Store) (volts pulses : Nat) :
    startAct st volts pulses = { State.reset.act with
      mech := st.mech, cap := min 350 volts, pulses := pulses
      converter := if volts < 250 then .full else if volts < 300 then .topup else .off } := by
  have hfull : clampVolts volts < closePermit ↔ volts < 250 := by simp [clampVolts, closePermit]
  have htop : clampVolts volts < 300 ↔ volts < 300 := by simp [clampVolts]
  simp only [startAct, converterFrom, hfull, htop]
  rfl

/-- Settles O55, start by start. -/
theorem startsRestoreThePart : Obligations.StartsRestoreThePart := by
  intro tag landed inp count s
  refine ⟨fun h => ⟨exec_restart_busy tag s h, exec_restart_accepted tag s h⟩, ?_, exec_warmStart_lost s, ?_, ?_⟩
  · intro hstage hlost hrestart hqueue hflight hcommit hact htx
    have hready : warmReady s = true :=
      (warmReady_iff s).2 ⟨hstage, hlost, by simp [hrestart], by simp [Sst.drained, hqueue, hflight, hcommit], hact, htx⟩
    refine ⟨warmStart s, exec_warmStart s hready, rfl, rfl, rfl, rfl, rfl, rfl, ?_, rfl, rfl, rfl, ?_, ?_, rfl, rfl, rfl, rfl⟩
    · simp [warmStart, hrestart]
    · exact fun e he => returnAwait_none_awaits false s.rcc.outbox e he
    · exact fun e he hs => mem_returnAwait s.rcc.outbox e he hs
  · refine ⟨coldStart landed s, rfl, ?_, ?_, ?_⟩
    · rw [coldStart_eq]
      rfl
    · rw [coldStart_eq]
      rfl
    · intro written
      have hwritten : written = s.sst.landedWrite landed := by
        simp only [written, Sst.landedWrite, Sst.written]
        cases s.sst.inFlight with
        | none => simp
        | some i => rfl
      have hstore : (coldStart landed s).sst.store = s.sst.landed landed := by simp [coldStart_eq]
      rw [hstore, landed_eq, hwritten]
      refine ⟨fun h => ?_, fun hl b reply hb => ⟨_, storedPage_isStored b.target b.page, ?_⟩⟩
      · rcases h with rfl | h
        · rfl
        · rw [paged_of_no_page_write _ _ h, ite_self]
      · rw [if_pos hl, paged_of_page_write _ _ b reply hb]
  · intro k hstage
    refine ⟨startBlocks k inp s, exec_startDelayEnd inp k s hstage, rfl, ?_⟩
    intro st full station
    obtain ⟨hconn, htest, hhist, hcharge, hsoc, hlevel⟩ := startBcu_reads k st inp.batt s.bcu.charge
    obtain ⟨hchan, hpending, hframe⟩ := startRcc_reads k st.globalPage s.rcc
    refine ⟨rfl, rfl, rfl, rfl, rfl, rfl, rfl, rfl, rfl, startAct_eq st inp.cap s.act.pulses, hconn, htest, hhist,
      hsoc.trans (by rw [← hcharge]; rfl), hlevel.trans (by rw [← hsoc]; rfl), startOrl_formed k st s.orl, rfl, rfl, rfl, hchan, hpending,
      hframe, ?_, ?_⟩
    · rintro rfl
      obtain ⟨hring, hnext, hcounts, hops, htime, hvalid⟩ := startOrl_cold st s.orl
      exact ⟨hring, hnext, hcounts, hops, htime, hvalid, rfl, rfl, rfl, hcharge.trans (startCharge_cold st s.bcu.charge)⟩
    · rintro rfl
      obtain ⟨hring, hnext, hcounts, hops, htime, hvalid⟩ := startOrl_warm st s.orl
      exact ⟨hring, hnext, hcounts, hops, htime, hvalid, returnAwait_of_none_awaits false s.rcc.outbox, rfl, rfl, rfl, hcharge⟩

end Sys2Proof.Machine
end

section
/-! SUPPORT. The elements' states and accumulators (spec/02 R22, R38): a clearing, a group application, a start and an update leave them
sound, and every operation between keeps them so. -/

namespace Sys2Proof.Machine

/-! ### One element (spec/02 R21 to R35) -/

theorem Elem.clear_sound (x : Elem) : x.clear.sound := by
  unfold Elem.clear
  split_ifs <;> rfl

theorem Elem.apply_sound (x : Elem) (h : x.sound) : x.apply.sound := by
  unfold Elem.apply
  split_ifs
  · exact h
  · exact x.clear_sound

theorem Elem.armed_sound (on : Bool) (x : Elem) (h : x.sound) : (x.arm on).sound := by
  unfold Elem.arm
  split_ifs
  · rfl
  · exact h
  · rfl

/-- An element that has not operated is below the full accumulator. -/
theorem Elem.sound_acc_lt (x : Elem) (h : x.sound) (hst : x.st ≠ .operated) : x.acc < 1000000 := by
  unfold Elem.sound at h
  cases hx : x.st <;> simp only [hx, ne_eq, not_true_eq_false] at h hst <;> omega

theorem effectiveTime_bounds (curveMs tm minTime : Nat) :
    10 ≤ effectiveTime curveMs tm minTime ∧ effectiveTime curveMs tm minTime ≤ 60000 := by
  unfold effectiveTime
  omega

/-- The slowest element still counts (R29, R30). -/
theorem increment_pos (set : ElemSettings) (points : List (Nat × Nat)) (i : Nat) : 0 < increment set points i := by
  obtain ⟨hlo, hhi⟩ := effectiveTime_bounds (curveTime points (multiple i set.pickup)) set.tm set.minTime
  exact Nat.div_pos (by omega) (by omega)

theorem Elem.compute_sound (set : ElemSettings) (points : List (Nat × Nat)) (i : Nat) (x : Elem) (h : x.acc < 1000000) :
    (x.compute set points i).sound := by
  have hinc := increment_pos set points i
  simp only [Elem.compute]
  split_ifs with hpick hfull hhold hacc hreset hleft
  · exact hfull
  · exact ⟨lt_min (by decide) (by omega), lt_of_le_of_ne (min_le_left _ _) hfull⟩
  · exact ⟨hacc, h⟩
  · exact Nat.eq_zero_of_not_pos hacc
  · rfl
  · exact ⟨hleft, lt_of_le_of_lt (Nat.sub_le _ _) h⟩
  · exact Nat.eq_zero_of_not_pos hleft

theorem Elem.step_sound (on : Bool) (set : ElemSettings) (points : List (Nat × Nat)) (i : Nat) (x : Elem) (h : x.sound) :
    (x.step on set points i).sound := by
  have harm := Elem.armed_sound on x h
  simp only [Elem.step]
  split_ifs with hgo
  · exact Elem.compute_sound set points i _ (Elem.sound_acc_lt _ harm hgo.2)
  · exact harm

/-! ### The seven elements -/

theorem Peu.withElems_sound (p : Peu) (f : Element → Elem) (h : ∀ e, (f e).sound) : (p.withElems (.build f)).sound :=
  ⟨fun e => by simpa [Peu.withElems] using h e, rfl, rfl⟩

theorem Peu.fresh_sound : Peu.fresh.sound := ⟨fun e => by cases e <;> rfl, rfl, rfl⟩

theorem PeuInputs.update_sound (x : PeuInputs) (p : Peu) (h : p.sound) : (x.update p).sound :=
  ⟨fun e => by simpa [PeuInputs.update, PeuInputs.stepElems] using Elem.step_sound _ _ _ _ _ (h.1 e), rfl, rfl⟩

/-- A fold of operations that keep the elements sound keeps them sound. -/
theorem foldl_peu_sound {α : Type} (f : State → α → State) (hf : ∀ t x, t.peu.sound → (f t x).peu.sound) (l : List α) (s : State)
    (h : s.peu.sound) : (l.foldl f s).peu.sound := by
  induction l generalizing s with
  | nil => exact h
  | cons x rest ih => exact ih (f s x) (hf s x h)

/-! ### SEQ's operations (spec/03) -/

@[simp] theorem clearElements_peu_sound (s : State) : (clearElements s).peu.sound := Peu.withElems_sound _ _ fun _ => Elem.clear_sound _

section
variable (s : State) (h : s.peu.sound)
include h

@[simp] theorem applyToElements_peu_sound : (applyToElements s).peu.sound :=
  Peu.withElems_sound _ _ fun e => Elem.apply_sound _ (h.1 e)

@[simp] theorem takeHeld_peu_sound : (takeHeld s).peu.sound := by
  unfold takeHeld
  split <;> simp [h]

@[simp] theorem applyGroup_peu_sound (g : Nat) : (applyGroup g s).peu.sound := by simp [applyGroup, h]

@[simp] theorem applyPending_peu_sound : (applyPending s).peu.sound := by
  unfold applyPending
  split <;> simp [h]

omit h in
@[simp] theorem enterLockout_peu_sound (c : Cause) : (enterLockout c s).peu.sound := by simp [enterLockout]

@[simp] theorem enterMechFail_peu_sound : (enterMechFail s).peu.sound := by
  simp only [enterMechFail]
  split <;> simp [h]

@[simp] theorem enterClosed_peu_sound : (enterClosed s).peu.sound := by
  simp only [enterClosed]
  split <;> simp [h]

@[simp] theorem seqCloseCompletion_peu_sound (o : PulseOutcome) : (seqCloseCompletion o s).peu.sound := by
  unfold seqCloseCompletion
  (repeat' split) <;> simp [h]

@[simp] theorem countTrip_peu_sound (o : PulseOutcome) : (countTrip o s).peu.sound := by
  unfold countTrip
  (repeat' split) <;> simp [h]

@[simp] theorem carryOut_peu_sound (d : AfterTrip) : (carryOut d s).peu.sound := by
  unfold carryOut
  split <;> simp [h]

@[simp] theorem tripCompletion_peu_sound (o : PulseOutcome) (pp : PulsePart) (partFirst : Bool) :
    (tripCompletion o pp partFirst s).peu.sound := by
  simp only [tripCompletion]
  (repeat' split) <;> simp [h]

@[simp] theorem endClose_peu_sound (o : PulseOutcome) (pulse : Nat) (fin : PulseEnd) : (endClose o pulse fin s).peu.sound := by
  simp only [endClose]
  (repeat' split) <;> simp [h]

@[simp] theorem cutClose_peu_sound : (cutClose s).peu.sound := by simp [cutClose, h]

@[simp] theorem actTrip_peu_sound : (actTrip s).peu.sound := by
  unfold actTrip
  split <;> simp [h]

@[simp] theorem endTrip_peu_sound (o : PulseOutcome) (pulse : Nat) (fin : PulseEnd) : (endTrip o pulse fin s).peu.sound := by
  simp only [endTrip]
  split <;> simp [h]

@[simp] theorem endHeldTrip_peu_sound (fin : PulseEnd) : (endHeldTrip fin s).peu.sound := by simp [endHeldTrip, h]

@[simp] theorem seqTrip_peu_sound (r : TripReq) : (seqTrip r s).peu.sound := by
  unfold seqTrip tripNow tripAttempt
  (repeat' split) <;> simp [h]

@[simp] theorem seqOpen_peu_sound (a : Authority) (src : Src) : (seqOpen a src s).peu.sound := by
  unfold seqOpen
  (repeat' split) <;> simp [h]

@[simp] theorem autoRefused_peu_sound (r : Res) : (autoRefused r s).peu.sound := by
  unfold autoRefused
  (repeat' split) <;> simp [h]

@[simp] theorem autoClose_peu_sound : (autoClose s).peu.sound := by
  unfold autoClose
  split <;> simp [h]

@[simp] theorem deadEnd_peu_sound (d : DeadEnd) : (deadEnd d s).peu.sound := by
  unfold deadEnd
  split <;> simp [h]

@[simp] theorem deadTimeEnd_peu_sound : (deadTimeEnd s).peu.sound := by simp [deadTimeEnd, h]

@[simp] theorem seqSourceLive_peu_sound : (seqSourceLive s).peu.sound := by
  unfold seqSourceLive
  split <;> simp [h]

@[simp] theorem seqEnergyReady_peu_sound : (seqEnergyReady s).peu.sound := by
  unfold seqEnergyReady
  split <;> simp [h]

@[simp] theorem holdEnd_peu_sound : (holdEnd s).peu.sound := by
  unfold holdEnd
  split <;> simp [h]

@[simp] theorem seqTagAccepted_peu_sound : (seqTagAccepted s).peu.sound := by
  unfold seqTagAccepted
  split <;> simp [h]

@[simp] theorem seqPosition_peu_sound (p : Position) : (seqPosition p s).peu.sound := by
  unfold seqPosition
  (repeat' split) <;> simp [h]

@[simp] theorem seqSelect_peu_sound (g : Nat) (src : Src) : (seqSelect g src s).peu.sound := by
  unfold seqSelect
  (repeat' split) <;> simp [h]

@[simp] theorem takeEvent_peu_sound (e : SeqEvent) : (takeEvent e s).peu.sound := by
  unfold takeEvent
  split <;> simp [h]

@[simp] theorem seqEvent_peu_sound (e : SeqEvent) : (seqEvent e s).peu.sound := by
  unfold seqEvent
  split <;> simp [h]

@[simp] theorem mechFailCleared_peu_sound : (mechFailCleared s).1.peu.sound := by
  unfold mechFailCleared
  (repeat' split) <;> simp [h]

/-! ### The update, tags and the battery (spec/02, spec/05, spec/06) -/

@[simp] theorem peuUpdate_peu_sound : (peuUpdate s).peu.sound := by
  have hup := PeuInputs.update_sound (peuInputs s) s.peu h
  simp only [peuUpdate, requestTrip]
  (repeat' split) <;> simp [hup]

@[simp] theorem applyWhenQuiet_peu_sound : (applyWhenQuiet s).peu.sound := by
  unfold applyWhenQuiet
  split <;> simp [h]

@[simp] theorem lineUpdate_peu_sound : (lineUpdate s).peu.sound := by
  simp only [lineUpdate]
  split <;> simp [h]

@[simp] theorem magnitudeUpdate_peu_sound (block : List SampleSet) : (magnitudeUpdate block s).peu.sound :=
  lineUpdate_peu_sound _ (applyWhenQuiet_peu_sound _ (peuUpdate_peu_sound _ h))

@[simp] theorem acceptTag_peu_sound (t : TagTable) (x : Tag) : (acceptTag t x s).peu.sound := by simp [acceptTag, h]

@[simp] theorem placeTag_peu_sound (a : Authority) (crew mode expiry : Nat) : (placeTag a crew mode expiry s).1.peu.sound := by
  simp only [placeTag]
  (repeat' split) <;> simp [h]

@[simp] theorem beginShutdown_peu_sound : (beginShutdown s).peu.sound := by
  unfold beginShutdown
  split <;> simp [h]

@[simp] theorem changeLevel_peu_sound (l : Level) (r : TestReading) : (changeLevel l r s).peu.sound := by
  simp only [changeLevel]
  (repeat' split) <;> simp [h]

@[simp] theorem battMeasure_peu_sound (m : BattMeas) (r : TestReading) : (battMeasure m r s).peu.sound := by
  simp only [battMeasure, gradeReserve]
  split <;> simp [h]

/-! ### Settings, radio and host requests (spec/08, spec/09, spec/10) -/

@[simp] theorem replaceWorking_peu_sound (t : Target) (p : Page) : (replaceWorking t p s).peu.sound := by
  unfold replaceWorking
  (repeat' split) <;> simp [h]

@[simp] theorem releaseSelections_peu_sound (t : Target) (waiting : List Src) : (releaseSelections t waiting s).peu.sound := by
  unfold releaseSelections
  split
  · exact foldl_peu_sound _ (fun x _ hx => seqEvent_peu_sound x hx _) _ _ h
  · exact h

@[simp] theorem completeCommit_peu_sound (b : StageBuf) (reply : Bool) : (completeCommit b reply s).peu.sound := by
  simp only [completeCommit]
  split <;> simp [h]

@[simp] theorem selectGroup_peu_sound (g : Nat) (src : Src) : (selectGroup g src s).peu.sound := by
  unfold selectGroup
  (repeat' split) <;> simp [h]

@[simp] theorem takeCommand_peu_sound (c : RadioCmd) : (takeCommand c s).peu.sound := by
  unfold takeCommand executeCommand ownCommand
  (repeat' split) <;> simp [h]

@[simp] theorem takeBeacon_peu_sound (b : Beacon) : (takeBeacon b s).peu.sound := by
  simp only [takeBeacon, takeCommands]
  split <;> simp [h]

@[simp] theorem serve_peu_sound (a : Authority) (r : Request) : (serve a r s).peu.sound := by
  unfold serve serveMechFailClear serveTagPlace
  (repeat' split) <;> simp [h]

@[simp] theorem serveNext_peu_sound : (serveNext s).peu.sound := by
  unfold serveNext
  split <;> simp [h]

@[simp] theorem pumpFor_peu_sound (n : Nat) : (pumpFor n s).peu.sound := by
  induction n generalizing s with
  | zero => exact h
  | succ n ih =>
    unfold pumpFor
    split
    · exact ih _ (serveNext_peu_sound s h)
    · exact h

@[simp] theorem pump_peu_sound : (pump s).peu.sound := pumpFor_peu_sound s h 5

@[simp] theorem receive_peu_sound (f : RxFrame) : (receive f s).peu.sound := by
  unfold receive
  split <;> simp [h]

@[simp] theorem receiveBytes_peu_sound (n : Nat) (bs : Bytes) : (receiveBytes n bs s).peu.sound := by
  induction n generalizing bs s with
  | zero => exact h
  | succ n ih =>
    unfold receiveBytes
    split
    · exact ih s h _
    · exact h
    · exact ih _ (receive_peu_sound s h _) _

@[simp] theorem feed_peu_sound (bytes : Bytes) : (feed bytes s).peu.sound := by
  unfold feed
  split <;> simp [h]

/-! ### Starts, contacts and the capacitor (spec/04, spec/09) -/

@[simp] theorem announceStart_peu_sound (k : StartKind) : (announceStart k s).peu.sound := by
  refine foldl_peu_sound _ (fun t x ht => ?_) _ _ (by simpa using h)
  unfold release
  split <;> simp [ht]

@[simp] theorem takeHeldEvents_peu_sound : (takeHeldEvents s).peu.sound :=
  foldl_peu_sound _ (fun t e ht => takeEvent_peu_sound t ht e) _ _ h

@[simp] theorem startReading_peu_sound (k : StartKind) (p : Position) : (startReading k p s).peu.sound :=
  pump_peu_sound _ (takeHeldEvents_peu_sound _ (announceStart_peu_sound _ (by simp [decideStart, h]) k))

@[simp] theorem changePosition_peu_sound (p : Position) (fin : PulseEnd) : (changePosition p fin s).peu.sound := by
  unfold changePosition endByPosition
  split <;> simp [h]

@[simp] theorem contactRead_peu_sound (c : Contact) (x : ContactState) (ms : Nat) (fin : PulseEnd) :
    (contactRead c x ms fin s).peu.sound := by
  simp only [contactRead, takePosition]
  (repeat' split) <;> simp [h]

@[simp] theorem measureCap_peu_sound (volts : Nat) : (measureCap volts s).peu.sound := by
  simp only [measureCap, rechargeReview, releaseHeld, endSpent]
  (repeat' split) <;> simp [h]

omit h in
@[simp] theorem coldStart_peu_sound (land : Bool) : (coldStart land s).peu.sound := Peu.fresh_sound

end

/-! ### The commands -/

/-- An event leaves the elements sound, whether it happens or not (log 4). -/
theorem happens_peu_sound {can : Bool} {after s t : State} (h : s.peu.sound)
    (ht : happens can after s = .next t) (ha : after.peu.sound) : t.peu.sound := by
  cases can <;> cases ht
  · exact h
  · exact ha

theorem updateWhen_peu_sound {can : Bool} {block : List SampleSet} {s t : State} (h : s.peu.sound)
    (ht : updateWhen can block s = .next t) : t.peu.sound := by
  unfold updateWhen at ht
  split at ht
  · refine happens_peu_sound h ht ?_
    split
    · exact pump_peu_sound _ (magnitudeUpdate_peu_sound s h block)
    · exact h
  · cases ht

theorem measureWhen_peu_sound {can : Bool} {m : BattMeas} {r : TestReading} {s t : State} (h : s.peu.sound)
    (ht : measureWhen can m r s = .next t) : t.peu.sound := by
  refine happens_peu_sound h ht ?_
  split
  · exact pump_peu_sound _ (battMeasure_peu_sound s h m r)
  · exact h

theorem completeMinute_peu_sound (s : State) (h : s.peu.sound) : (completeMinute s).peu.sound := by simpa using h

/-- A host request that arrives leaves the elements sound, whichever it is. -/
theorem receive_next_peu_sound {f : RxFrame} {s t : State} (h : s.peu.sound)
    (ht : (Host.Outcome.next (receive f s) : Result) = .next t) : t.peu.sound := by
  cases ht
  exact receive_peu_sound s h f

theorem exec_peu_sound (c : Instr) (s t : State) (h : s.peu.sound) (ht : exec c s = .next t) : t.peu.sound := by
  cases c with
  | coldStart => cases ht; exact coldStart_peu_sound s _
  | startDelayEnd =>
    change execStartDelayEnd _ s = _ at ht
    unfold execStartDelayEnd at ht
    split at ht <;> cases ht
    · exact Peu.fresh_sound
    all_goals exact h
  | warmStart => exact happens_peu_sound h ht Peu.fresh_sound
  | supplyLoss => exact happens_peu_sound h ht h
  | holdUpEnd => exact happens_peu_sound h ht Peu.fresh_sound
  | magnitudeUpdate => exact updateWhen_peu_sound h ht
  | liveQualified => exact updateWhen_peu_sound h ht
  | deadQualified => exact updateWhen_peu_sound h ht
  | elementOperate => exact updateWhen_peu_sound h ht
  | deadTimerExpiry => exact happens_peu_sound h ht (deadTimeEnd_peu_sound s h)
  | holdTimerExpiry => exact happens_peu_sound h ht (holdEnd_peu_sound s h)
  | reclaimTimerExpiry => exact happens_peu_sound h ht (enterClosed_peu_sound s h)
  | contactDebounced => exact happens_peu_sound h ht (contactRead_peu_sound s h _ _ _ _)
  | startReadingTimeout =>
    change execStartReadingTimeout s = _ at ht
    unfold execStartReadingTimeout at ht
    split at ht <;> cases ht
    · exact startReading_peu_sound s h _ _
    all_goals exact h
  | capacitorMeasurement => exact happens_peu_sound h ht (measureCap_peu_sound s h _)
  | tripPulseTimeout => exact happens_peu_sound h ht (pump_peu_sound _ (endTrip_peu_sound s h _ _ _))
  | closePulseTimeout => exact happens_peu_sound h ht (pump_peu_sound _ (endClose_peu_sound s h _ _ _))
  | minuteEvent => exact happens_peu_sound h ht (completeMinute_peu_sound s h)
  | tagExpiry => exact happens_peu_sound h ht (completeMinute_peu_sound s h)
  | tagHourlyWrite => exact happens_peu_sound h ht (completeMinute_peu_sound s h)
  | batteryMeasurement => exact measureWhen_peu_sound h ht
  | absorbTimeLimit => exact measureWhen_peu_sound h ht
  | floatLowRunLimit => exact measureWhen_peu_sound h ht
  | faultClearRunComplete => exact measureWhen_peu_sound h ht
  | resyncRunComplete => exact measureWhen_peu_sound h ht
  | chargeCountWrite => exact measureWhen_peu_sound h ht
  | tripWaitTimeout => exact happens_peu_sound h ht h
  | partStop => exact happens_peu_sound h ht Peu.fresh_sound
  | scheduledTestDue => exact happens_peu_sound h ht (completeMinute_peu_sound s h)
  | settlingComplete => exact happens_peu_sound h ht h
  | loadTestComplete => exact happens_peu_sound h ht (by simpa using h)
  | testAbandonTimeout => exact happens_peu_sound h ht (by simpa using h)
  | radioPacketReceived bytes =>
    change execRadioPacketReceived bytes s = _ at ht
    unfold execRadioPacketReceived at ht
    split at ht
    · exact happens_peu_sound h ht (pump_peu_sound _ (takeBeacon_peu_sound s h _))
    · cases ht; exact h
  | beaconMissCheck => exact happens_peu_sound h ht h
  | ownSlotStart => exact happens_peu_sound h ht (by simpa using h)
  | radioTransmitEnd => cases ht; exact h
  | statusIntervalDue => exact happens_peu_sound h ht (completeMinute_peu_sound s h)
  | commitComplete =>
    change execCommitComplete s = _ at ht
    unfold execCommitComplete at ht
    split at ht <;> cases ht
    · exact pump_peu_sound _ (completeCommit_peu_sound s h _ _)
    all_goals exact h
  | retainedWriteComplete =>
    change execRetainedWriteComplete s = _ at ht
    unfold execRetainedWriteComplete at ht
    split at ht <;> cases ht <;> exact h
  | hostFrameReceived => cases ht; exact feed_peu_sound s h _
  | frameByteTimeout => cases ht; exact h
  | keySwitchDebounced => exact happens_peu_sound h ht h
  | hostFrameTransmitted =>
    change execHostFrameTransmitted s = _ at ht
    unfold execHostFrameTransmitted at ht
    split at ht <;> cases ht <;> exact h
  | timeBaseSecond =>
    change execTimeBaseSecond s = _ at ht
    unfold execTimeBaseSecond at ht
    split at ht <;> cases ht <;> simpa using h
  | _ => exact receive_next_peu_sound h ht

theorem tick_peu (s : State) : (tick s).peu = s.peu := by
  unfold tick
  split <;> rfl

/-- Settles O9, by what every operation does to the elements: each is left alone, cleared, applied to, started or computed. -/
theorem peuStaysSound : Obligations.PeuStaysSound := by
  intro s t h ht
  unfold step at ht
  split at ht
  · rename_i c rest _
    exact exec_peu_sound c (s.withPending rest) t h ht
  · unfold idle at ht
    split at ht
    · exact exec_peu_sound _ s t h ht
    · cases ht
      rwa [tick_peu]

end Sys2Proof.Machine
end

section
/-! SUPPORT and PROOFS. The curve time (spec/02 R26, R27); O7. -/

namespace Sys2Proof.Machine

/-! ### Between two breakpoints -/

/-- With a later time not above the earlier one, the correction truncated toward zero is a natural quotient taken off the earlier time. -/
theorem interpolate_eq (m1 t1 m2 t2 m : Nat) (hlo : m1 ≤ m) (hhi : m < m2) (ht : t2 ≤ t1) :
    interpolate m1 t1 m2 t2 m = t1 - (m - m1) * (t1 - t2) / (m2 - m1) := by
  have hcorrection : Int.tdiv (((m : Int) - m1) * ((t2 : Int) - t1)) ((m2 : Int) - m1)
      = -(((m - m1) * (t1 - t2) / (m2 - m1) : Nat) : Int) := by
    have hm : (m : Int) - m1 = ((m - m1 : Nat) : Int) := by omega
    have hd : (m2 : Int) - m1 = ((m2 - m1 : Nat) : Int) := by omega
    have ht' : (t2 : Int) - t1 = -((t1 - t2 : Nat) : Int) := by omega
    rw [hm, hd, ht', Int.mul_neg, Int.neg_tdiv, ← Int.natCast_mul, Int.ofNat_tdiv]
  rw [interpolate, hcorrection]
  omega

/-! ### Along the curve -/

/-- Breakpoints with strictly ascending multiples and non-increasing times (R26). -/
def breakpointsOrdered (curve : List (Nat × Nat)) : Prop := curve.Pairwise fun x y => x.1 < y.1 ∧ y.2 ≤ x.2

theorem curveTime_below_first (x : Nat × Nat) (rest : List (Nat × Nat)) (m : Nat) (h : m ≤ x.1) : curveTime (x :: rest) m = x.2 := by
  cases rest with
  | nil => rfl
  | cons y rest => rw [curveTime, if_pos h]

theorem curveTime_beyond_pair (x y : Nat × Nat) (rest : List (Nat × Nat)) (m : Nat) (hxy : x.1 < y.1) (h : y.1 ≤ m) :
    curveTime (x :: y :: rest) m = curveTime (y :: rest) m := by
  rw [curveTime, if_neg (by omega), if_neg (by omega)]

/-- From a breakpoint's multiple on, the breakpoints before it do not matter. -/
theorem curveTime_from (before : List (Nat × Nat)) (x : Nat × Nat) (rest : List (Nat × Nat)) (m : Nat)
    (hcurve : breakpointsOrdered (before ++ x :: rest)) (h : x.1 ≤ m) : curveTime (before ++ x :: rest) m = curveTime (x :: rest) m := by
  induction before with
  | nil => rfl
  | cons b before ih =>
    obtain ⟨hfirst, hrest⟩ := List.pairwise_cons.1 hcurve
    rw [← ih hrest]
    cases before with
    | nil => exact curveTime_beyond_pair b x rest m (hfirst x List.mem_cons_self).1 h
    | cons c before =>
      obtain ⟨hc, -⟩ := List.pairwise_cons.1 hrest
      have hcx : c.1 < x.1 := (hc x (by simp)).1
      exact curveTime_beyond_pair b c _ m (hfirst c List.mem_cons_self).1 (by omega)

theorem curveTime_above_last (curve : List (Nat × Nat)) (x : Nat × Nat) (m : Nat) (hcurve : breakpointsOrdered curve)
    (hx : curve.getLast? = some x) (h : x.1 ≤ m) : curveTime curve m = x.2 := by
  obtain ⟨before, rfl⟩ := List.getLast?_eq_some_iff.1 hx
  exact curveTime_from before x [] m hcurve h

theorem curveTime_in_pair (x y : Nat × Nat) (rest : List (Nat × Nat)) (m : Nat) (ht : y.2 ≤ x.2) (hlo : x.1 ≤ m) (hhi : m < y.1) :
    curveTime (x :: y :: rest) m = x.2 - (m - x.1) * (x.2 - y.2) / (y.1 - x.1) := by
  by_cases hfirst : m ≤ x.1
  · rw [curveTime_below_first x _ m hfirst, Nat.sub_eq_zero_of_le hfirst, Nat.zero_mul, Nat.zero_div, Nat.sub_zero]
  · rw [curveTime, if_neg hfirst, if_pos hhi, interpolate_eq x.1 x.2 y.1 y.2 m hlo hhi ht]

/-- Settles O7, by leaving out the breakpoints that lie at or below the multiple. -/
theorem curveTimeIsInterpolated : Obligations.CurveTimeIsInterpolated := by
  intro m1 t1 m2 t2 m before after curve hcurve
  refine ⟨fun x hx hm => ?_, fun x hx hm => curveTime_above_last curve x m hcurve hx hm, fun hlo hhi => ?_⟩
  · obtain ⟨rest, hrest⟩ := List.head?_eq_some_iff.1 hx
    rw [hrest]
    exact curveTime_below_first x rest m hm
  · obtain ⟨-, hpair, -⟩ := List.pairwise_append.1 hcurve
    obtain ⟨hnext, -⟩ := List.pairwise_cons.1 hpair
    rw [curveTime_from before (m1, t1) ((m2, t2) :: after) m hcurve hlo]
    exact curveTime_in_pair (m1, t1) (m2, t2) after m (hnext _ List.mem_cons_self).2 hlo hhi

end Sys2Proof.Machine
end

section
/-! SUPPORT and PROOFS. The selection of a settings group (spec/03 R65, spec/09 R177); O54. -/

namespace Sys2Proof.Machine

/-! ### The request at the SST and at SEQ -/

/-- The frame of a GROUP_SELECT (spec/10 R185). -/
def selectFrame (tag : Byte) (g : Nat) : RxFrame := ⟨0x55#8, tag, .groupSelect g⟩

/-- In a part that serves requests the selection is at the SST at once; no frame is taken after it. -/
theorem exec_groupSelect (tag group : Byte) (s t : State) (h : s.serving)
    (ht : selectGroup group.toNat .host (s.taking (selectFrame tag group.toNat)) = t) (hq : t.hlc.queue = []) :
    exec (.groupSelect tag group) s = .next t := by
  change Host.Outcome.next (receive (selectFrame tag group.toNat) s) = _
  rw [receive_serving _ s h, ← pumpFor_without_frames 4 t hq, ← ht]
  rfl

theorem Staging.commitsGroup_iff (x : Staging) (g : Nat) :
    x.commitsGroup g = true ↔ ∃ b reply w, x = .committing b reply w ∧ b.target = .group g := by
  cases x <;> simp [Staging.commitsGroup]

/-- Unless its group is being committed a selection goes to SEQ, which has decided. -/
theorem selectGroup_decided (g : Nat) (src : Src) (s : State) (hg : g ≤ 3) (hfree : s.sst.staging.commitsGroup g = false)
    (hd : s.seq.decided = true) : selectGroup g src s = seqSelect g src s := by
  simp [selectGroup, seqEvent, takeEvent, Nat.not_lt.2 hg, hfree, hd]

theorem settled_iff (s : State) : settled s = true ↔ seqSettled s := by
  simp [settled, seqSettled, or_assoc]

/-! ### A group applied (spec/02 R35, spec/03 R65) -/

theorem applyToElements_applied (s : State) : applied s (applyToElements s) := by
  intro e
  rw [applyToElements_get, Elem.apply, Elem.clear]
  split_ifs <;> rfl

@[simp] theorem complete_keeps_copies (body : RecBody) (s : State) :
    (complete body s).sst.active = s.sst.active ∧ (complete body s).sst.group = s.sst.group ∧ (complete body s).sst.held = s.sst.held := by
  unfold complete
  split <;> simp [completeNow, enterRecord]

@[simp] theorem complete_current (body : RecBody) (s : State) : (complete body s).hlc.current = s.hlc.current := by
  unfold complete
  split <;> simp [completeNow, enterRecord, placeNotice]

/-- What the application of a group leaves (R65), in a running part. -/
theorem applyGroup_applies (g : Nat) (s : State) (hs : s.stage = .running) :
    (applyGroup g s).sst.active = g ∧ (applyGroup g s).sst.group = s.sst.store.groups.getD g deliveredGroup ∧
    (applyGroup g s).sst.held = none ∧ applied s (applyGroup g s) ∧ (applyGroup g s).seq = { s.seq with pendingGroup := none } ∧
    recorded (.groupChange s.sst.active g) s (applyGroup g s) ∧ writeQueued (.activeGroup g) (applyGroup g s) ∧
    (applyGroup g s).hlc.current = s.hlc.current ∧ (applyGroup g s).hlc.queue = s.hlc.queue := by
  let s1 := { s with sst := { s.sst with active := g, group := s.sst.store.groups.getD g deliveredGroup, held := none } }
  have hrecord : recorded (.groupChange s.sst.active g) s (complete (.groupChange s.sst.active g) (applyToElements s1)) := by
    rw [complete_running _ _ (by simpa using hs)]
    simpa [recorded] using completeNow_recorded (.groupChange s.sst.active g) (applyToElements s1)
  refine ⟨by simp [applyGroup], by simp [applyGroup], by simp [applyGroup], fun e => ?_, by simp [applyGroup], ?_, ?_,
    by simp [applyGroup], by simp [applyGroup]⟩
  · simpa [applyGroup] using applyToElements_applied s1 e
  · exact hrecord
  · exact queueWrite_queued (.activeGroup g) _

/-- Settles O54, by the four answers that the SST and SEQ have for a selection. -/
theorem groupIsSelected : Obligations.GroupIsSelected := by
  intro tag group s h hd g
  let x := s.taking (selectFrame tag g)
  obtain ⟨⟨hstage, -, hqueue⟩, -⟩ := id h
  refine ⟨fun hg => ?_, fun hg b reply w hb ht => ?_, fun hg hfree => ?_⟩
  · refine exec_groupSelect tag group s _ h ?_ hqueue
    exact (if_pos hg).trans (hostReply_taking (selectFrame tag g) .badField [] s h)
  · refine exec_groupSelect tag group s _ h ?_ hqueue
    have hwait : s.sst.staging.commitsGroup g = true := (Staging.commitsGroup_iff _ _).2 ⟨b, reply, w, hb, ht⟩
    rw [selectGroup, if_neg (Nat.not_lt.2 hg)]
    refine (if_pos hwait).trans ?_
    simp [State.taking, selectFrame, ← hqueue, g]
  · have hnot : s.sst.staging.commitsGroup g = false := by
      rw [Bool.eq_false_iff, Ne, Staging.commitsGroup_iff]
      rintro ⟨b, reply, w, hb, ht⟩
      exact hfree b reply w hb ht
    have hsel : selectGroup g .host x = seqSelect g .host x := selectGroup_decided g .host x hg hnot hd
    refine ⟨fun hact => ?_, fun hne hset => ?_, fun hne hset => ?_⟩
    · refine exec_groupSelect tag group s _ h (hsel.trans ((if_pos hact).trans ?_)) hqueue
      exact hostReply_taking (selectFrame tag g) .ok [0#8] { s with seq := { s.seq with pendingGroup := none } } h
    · obtain ⟨hactive, hgroup, hheld, happlied, hseq, hrec, hwrite, hcur, hq⟩ := applyGroup_applies g x hstage
      have hx : seqSelect g .host x = hostReply .ok [0#8] (applyGroup g x) :=
        (if_neg hne).trans (if_pos ((settled_iff x).2 hset))
      exact ⟨_, exec_groupSelect tag group s _ h (hsel.trans hx) hq, hactive, hgroup, hheld, happlied, hseq, hrec, hwrite,
        hostReply_answered .ok [0#8] (applyGroup g x) (selectFrame tag g) hcur⟩
    · refine exec_groupSelect tag group s _ h (hsel.trans ((if_neg hne).trans ((if_neg ?_).trans ?_))) hqueue
      · rwa [settled_iff]
      · exact hostReply_taking (selectFrame tag g) .ok [1#8] { s with seq := { s.seq with pendingGroup := some g } } h

end Sys2Proof.Machine
end

section
/-! SUPPORT. One element at one update (spec/02 R17 to R37): its arming, its band, and what the trip request and the departure detector
read of it. -/

namespace Sys2Proof.Machine

/-! ### What the PEU reads (R17 to R20, R25 to R30) -/

theorem armed_iff (s : State) (e : Element) : (peuInputs s).armed e = true ↔ armedAt s e := by
  cases e <;> simp [PeuInputs.armed, armed, armedAt, peuInputs, nextTripNumber]

theorem elementMagnitude_eq (m : MeasSet) (e : Element) : elementMagnitude m e = measuredBy m e := by
  cases e <;> rfl

/-- The increment of the pickup band, with the element's settings and curve as an update of s reads them. -/
theorem increment_eq (s : State) (e : Element) (i : Nat) :
    increment (elemSettings s.sst.group e) (curvePoints s.sst.curves (elemSettings s.sst.group e).curve) i
      = 2000000 / operateTime s e i := rfl

/-! ### Arming (R21) -/

theorem Elem.armed_acc (x : Elem) : (x.arm true).acc = accBefore x := by
  by_cases hst : x.st = .disabled <;> simp [Elem.arm, accBefore, hst]

theorem Elem.armed_operated (on : Bool) (x : Elem) : (x.arm on).st = .operated ↔ on = true ∧ x.st = .operated := by
  unfold Elem.arm
  split_ifs with hon hst <;> simp [*]

/-! ### The bands (R24, R30 to R33) -/

section
variable (set : ElemSettings) (points : List (Nat × Nat)) (i : Nat) (x : Elem)

theorem Elem.compute_pickup (h : set.pickup ≤ i) :
    x.compute set points i =
      ⟨if min 1000000 (x.acc + increment set points i) = 1000000 then .operated else .timing,
        min 1000000 (x.acc + increment set points i)⟩ := if_pos h

theorem Elem.compute_hold (h : i < set.pickup) (hd : set.pickup * 95 / 100 ≤ i) :
    x.compute set points i = ⟨if 0 < x.acc then .held else .quiet, x.acc⟩ :=
  (if_neg (Nat.not_le.2 h)).trans (if_pos hd)

theorem Elem.compute_reset (h : i < set.pickup) (hd : i < set.pickup * 95 / 100) (hr : set.reset = 0) :
    x.compute set points i = ⟨.quiet, 0⟩ :=
  ((if_neg (Nat.not_le.2 h)).trans (if_neg (Nat.not_le.2 hd))).trans (if_pos hr)

theorem Elem.compute_decay (h : i < set.pickup) (hd : i < set.pickup * 95 / 100) (hr : 0 < set.reset) :
    x.compute set points i =
      ⟨if 0 < x.acc - 2000000 / set.reset then .resetting else .quiet, x.acc - 2000000 / set.reset⟩ :=
  ((if_neg (Nat.not_le.2 h)).trans (if_neg (Nat.not_le.2 hd))).trans (if_neg (by omega))

/-- No band disables an element; the pickup band operates it where the accumulator fills, and no other does; an element that a band leaves
QUIET has an accumulator of 0. -/
theorem Elem.compute_st :
    (x.compute set points i).st ≠ .disabled ∧
    ((x.compute set points i).st = .operated ↔ set.pickup ≤ i ∧ 1000000 ≤ x.acc + increment set points i) ∧
    ((x.compute set points i).st = .quiet → (x.compute set points i).acc = 0) := by
  by_cases hp : set.pickup ≤ i
  · rw [Elem.compute_pickup set points i x hp]
    by_cases hfull : 1000000 ≤ x.acc + increment set points i <;> simp [hp, hfull]
  · have hlt : i < set.pickup := Nat.lt_of_not_le hp
    by_cases hd : set.pickup * 95 / 100 ≤ i
    · rw [Elem.compute_hold set points i x hlt hd]
      by_cases hacc : 0 < x.acc
      · simp only [if_pos hacc]
        simp [hp]
      · rw [if_neg hacc, Nat.eq_zero_of_not_pos hacc]
        simp [hp]
    · have hdl : i < set.pickup * 95 / 100 := Nat.lt_of_not_le hd
      by_cases hr : set.reset = 0
      · rw [Elem.compute_reset set points i x hlt hdl hr]
        simp [hp]
      · rw [Elem.compute_decay set points i x hlt hdl (Nat.pos_of_ne_zero hr)]
        by_cases hacc : 0 < x.acc - 2000000 / set.reset
        · simp only [if_pos hacc]
          simp [hp]
        · rw [if_neg hacc, Nat.eq_zero_of_not_pos hacc]
          simp [hp]

/-! ### One update of one element (R23) -/

theorem Elem.step_disarmed : x.step false set points i = ⟨.disabled, 0⟩ := rfl

theorem Elem.step_of_operated (h : x.st = .operated) : x.step true set points i = x := by
  simp [Elem.step, Elem.arm, h]

theorem Elem.step_computed (h : x.st ≠ .operated) : x.step true set points i = (x.arm true).compute set points i :=
  if_pos ⟨rfl, fun hy => h ((Elem.armed_operated true x).1 hy).2⟩

/-- After an update an element is OPERATED exactly when it is armed and had operated or fills its accumulator in the pickup band. -/
theorem Elem.step_operated_iff (on : Bool) :
    (x.step on set points i).st = .operated ↔
      on = true ∧ (x.st = .operated ∨ (set.pickup ≤ i ∧ 1000000 ≤ accBefore x + increment set points i)) := by
  cases on with
  | false => simp [Elem.step_disarmed]
  | true =>
    by_cases hx : x.st = .operated
    · simp [Elem.step_of_operated set points i x hx, hx]
    · obtain ⟨-, hop, -⟩ := Elem.compute_st set points i (x.arm true)
      simp [Elem.step_computed set points i x hx, hx, hop, Elem.armed_acc]

theorem Elem.step_enabled : (x.step true set points i).st ≠ .disabled := by
  by_cases hx : x.st = .operated
  · simp [Elem.step_of_operated set points i x hx, hx]
  · rw [Elem.step_computed set points i x hx]
    exact (Elem.compute_st set points i (x.arm true)).1

/-- An element that an update leaves QUIET or DISABLED has an accumulator of 0, so that a group application does not change it (R35). -/
theorem Elem.step_apply_at_rest (on : Bool)
    (h : (x.step on set points i).st = .quiet ∨ (x.step on set points i).st = .disabled) :
    (x.step on set points i).apply = x.step on set points i := by
  cases on with
  | false => rfl
  | true =>
    have hq : (x.step true set points i).st = .quiet := h.resolve_right (Elem.step_enabled set points i x)
    have hx : x.st ≠ .operated := fun hx => by
      rw [Elem.step_of_operated set points i x hx, hx] at hq
      cases hq
    rw [Elem.step_computed set points i x hx] at hq ⊢
    obtain ⟨-, -, hzero⟩ := Elem.compute_st set points i (x.arm true)
    have hacc := hzero hq
    generalize (x.arm true).compute set points i = y at hq hacc
    obtain ⟨st, acc⟩ := y
    cases hq
    cases hacc
    rfl

end

/-! ### The elements of the unit (R23, R31, R36, R37) -/

/-- An element after the update that reads t, when its settings and magnitude are read off t. -/
theorem stepElems_get (t : State) (p : Peu) (e : Element) :
    ((peuInputs t).stepElems p).get e = (p.elems.get e).step ((peuInputs t).armed e) (elemSettings t.sst.group e)
      (curvePoints t.sst.curves (elemSettings t.sst.group e).curve) (measuredBy t.lsu.meas e) := by
  rw [← elementMagnitude_eq]
  exact Elems.get_build _ e

theorem armedElems_get (t : State) (p : Peu) (e : Element) :
    ((peuInputs t).armedElems p).get e = (p.elems.get e).arm ((peuInputs t).armed e) := Elems.get_build _ e

theorem operatedAfter_iff (block : List SampleSet) (s : State) (e : Element) :
    operatedAfter block s e ↔ (((peuInputs { s with lsu := s.lsu.push block }).stepElems s.peu).get e).st = .operated := by
  rw [stepElems_get, Elem.step_operated_iff, armed_iff]
  rfl

theorem mem_elementOrder (e : Element) : e ∈ elementOrder := by cases e <;> decide

/-- Where every element that stands OPERATED after an update had operated before, the update requests no trip (R31). -/
theorem cause_none (block : List SampleSet) (s : State)
    (h : ∀ e, operatedAfter block s e → (s.peu.elems.get e).st = .operated) :
    (peuInputs { s with lsu := s.lsu.push block }).cause s.peu = none := by
  refine List.find?_eq_none.2 fun e _ hnew => ?_
  simp only [Bool.and_eq_true, beq_iff_eq, bne_iff_ne] at hnew
  obtain ⟨hop, hfresh⟩ := hnew
  rw [← operatedAfter_iff] at hop
  rw [armedElems_get, Ne, Elem.armed_operated] at hfresh
  exact hfresh ⟨(armed_iff _ e).2 hop.1, h e hop⟩

theorem armedFast_iff (s : State) (e : Element) : armedFast s e ↔ e ∈ fastElements ∧ armedAt s e := by
  simp [armedFast, fastElements]

/-- The departure check reads what R36 says it reads. -/
theorem departure_iff (block : List SampleSet) (s : State) :
    (peuInputs { s with lsu := s.lsu.push block }).departure s.peu = true ↔ departureRaised block s := by
  let t : State := { s with lsu := s.lsu.push block }
  have htimed : (∃ e ∈ fastElements, (peuInputs t).armed e = true ∧ 0 < (((peuInputs t).armedElems s.peu).get e).acc) ↔
      ∃ e, armedFast s e ∧ 0 < accBefore (s.peu.elems.get e) := by
    refine exists_congr fun e => ?_
    rw [armedFast_iff, and_assoc]
    refine and_congr_right fun _ => ?_
    rw [armedElems_get, armed_iff]
    refine and_congr_right fun harmed => ?_
    rw [(armed_iff t e).2 harmed, Elem.armed_acc]
  have hnone : (∀ e ∈ elementOrder, (((peuInputs t).stepElems s.peu).get e).st ≠ .operated) ↔ ∀ e, ¬ operatedAfter block s e :=
    forall_congr' fun e => by simp [mem_elementOrder e, operatedAfter_iff, t]
  have hbelow : (∀ e ∈ fastElements, (peuInputs t).armed e = true →
        elementMagnitude t.lsu.meas e < dropout (elemSettings t.sst.group e).pickup) ↔
      ∀ e, armedFast s e → measuredBy (s.lsu.push block).meas e < (elemSettings s.sst.group e).pickup * 95 / 100 := by
    refine forall_congr' fun e => ?_
    rw [armedFast_iff, armed_iff, elementMagnitude_eq, and_imp]
    rfl
  rw [departureRaised, ← htimed, ← hnone, ← hbelow]
  simp only [PeuInputs.departure, Bool.and_eq_true, List.any_eq_true, List.all_eq_true, decide_eq_true_eq, bne_iff_ne, and_assoc,
    Bool.or_eq_true, Bool.not_eq_true', ← Bool.not_eq_true, imp_iff_not_or]
  rfl

/-- The detector after an update (R37). -/
theorem detector_iff (block : List SampleSet) (s : State) :
    (peuInputs { s with lsu := s.lsu.push block }).detector s.peu = true ↔
      (s.peu.detector = true ∧ ¬ departureRaised block s) ∨
        ∀ e, armedFast s e → (((peuInputs { s with lsu := s.lsu.push block }).stepElems s.peu).get e).st = .quiet := by
  have hfast (e : Element) : (e ∈ fastElements → (!(peuInputs { s with lsu := s.lsu.push block }).armed e ||
        (((peuInputs { s with lsu := s.lsu.push block }).stepElems s.peu).get e).st == .quiet) = true) ↔
      (armedFast s e → (((peuInputs { s with lsu := s.lsu.push block }).stepElems s.peu).get e).st = .quiet) := by
    rw [armedFast_iff, and_imp, Bool.or_eq_true, Bool.not_eq_true', ← Bool.not_eq_true, armed_iff, beq_iff_eq, ← imp_iff_not_or]
    rfl
  rw [← forall_congr' hfast, ← departure_iff]
  simp [PeuInputs.detector]

/-! ### The element that names the trip (R31) -/

/-- The cause of a trip request has operated at this update, as the first in the table's order. -/
theorem cause_first (t : State) (p : Peu) (e : Element) (h : (peuInputs t).cause p = some e) :
    (((peuInputs t).stepElems p).get e).st = .operated ∧
    ∀ d, d.index < e.index → (((peuInputs t).stepElems p).get d).st = .operated → (p.elems.get d).st = .operated := by
  obtain ⟨hnew, before, after, horder, hbefore⟩ := List.find?_eq_some_iff_append.1 h
  simp only [Bool.and_eq_true, beq_iff_eq] at hnew
  refine ⟨hnew.1, fun d hd hop => ?_⟩
  have hsorted : (before ++ e :: after).Pairwise fun x y => x.index < y.index := horder ▸ by decide
  obtain ⟨-, hafter, -⟩ := List.pairwise_append.1 hsorted
  have hmem : d ∈ before := by
    rcases List.mem_append.1 (horder ▸ mem_elementOrder d) with hm | hm
    · exact hm
    · rcases List.mem_cons.1 hm with rfl | hm
      · omega
      · have := (List.pairwise_cons.1 hafter).1 d hm
        omega
  have hold := hbefore d hmem
  simp only [Bool.not_eq_true', Bool.and_eq_false_imp, beq_iff_eq, bne_eq_false_iff_eq] at hold
  exact ((Elem.armed_operated _ _).1 (armedElems_get t p d ▸ hold hop)).2

end Sys2Proof.Machine
end

section
/-! SUPPORT. A trip request from its taking at SEQ to the pulse or the held trip (spec/03 R44, R47, R58; spec/04 R72 to R74, R79, R80). -/

namespace Sys2Proof.Machine

/-! ### A cut close at SEQ (spec/03 R58) -/

/-- A cut moves nothing of SEQ but the held reply, which is sent in TRIPPING. -/
theorem seqCloseCompletion_cut (s : State) :
    seqCloseCompletion .cut s = if s.seq.state = .tripping then answerHeldClose .ok s else s := by
  unfold seqCloseCompletion
  cases h : s.seq.state <;> rfl

/-- What a sent reply of a held CLOSE leaves alone of SEQ and of the waiting frames. -/
@[simp] theorem answerHeldClose_keeps_more (res : Res) (s : State) :
    (answerHeldClose res s).seq = { s.seq with heldClose := none } ∧ (answerHeldClose res s).hlc.queue = s.hlc.queue := by
  unfold answerHeldClose
  cases h : s.seq.heldClose with
  | none => simp [← h]
  | some src => cases src <;> simp [answer]

@[simp] theorem seqCloseCompletion_cut_keeps (s : State) :
    (seqCloseCompletion .cut s).peu = s.peu ∧ (seqCloseCompletion .cut s).orl = s.orl ∧
    (seqCloseCompletion .cut s).hlc.queue = s.hlc.queue ∧ (seqCloseCompletion .cut s).seq.state = s.seq.state ∧
    (seqCloseCompletion .cut s).seq.trip = s.seq.trip ∧ (seqCloseCompletion .cut s).seq.deadLeft = s.seq.deadLeft ∧
    (seqCloseCompletion .cut s).seq.holdLeft = s.seq.holdLeft ∧
    (seqCloseCompletion .cut s).seq.reclaimLeft = s.seq.reclaimLeft := by
  rw [seqCloseCompletion_cut]
  split <;> simp

/-! ### The capture of a fault (spec/07 R137) -/

@[simp] theorem captureFault_capture (s : State) :
    (captureFault s).orl.capture = some (s.orl.capture.getD ⟨s.lsu.meas.a, s.lsu.meas.b, s.lsu.meas.c, s.lsu.meas.n⟩) := by
  unfold captureFault
  cases h : s.orl.capture <;> simp [h]

@[simp] theorem captureFault_stamp (s : State) :
    (captureFault s).orl.next = s.orl.next ∧ (captureFault s).orl.time = s.orl.time ∧ (captureFault s).orl.valid = s.orl.valid := by
  unfold captureFault
  split <;> simp

@[simp] theorem complete_capture (body : RecBody) (s : State) : (complete body s).orl.capture = s.orl.capture := by
  unfold complete
  split <;> simp [completeNow, enterRecord, addToRing]

/-! ### A close cut by a trip (spec/04 R79, R80) -/

@[simp] theorem cutClose_keeps_more (s : State) :
    (cutClose s).peu = s.peu ∧ (cutClose s).hlc.queue = s.hlc.queue ∧ (cutClose s).orl.capture = s.orl.capture ∧
    (cutClose s).act.cap = s.act.cap ∧ (cutClose s).seq.state = s.seq.state ∧ (cutClose s).seq.trip = s.seq.trip ∧
    (cutClose s).seq.deadLeft = s.seq.deadLeft ∧ (cutClose s).seq.holdLeft = s.seq.holdLeft ∧
    (cutClose s).seq.reclaimLeft = s.seq.reclaimLeft := by
  simp [cutClose, handCloseRecord, Act.toIdle]

/-- A record that ORL enters is t's newest. -/
theorem recorded_of_enter (body : RecBody) (s t : State) (h : t.orl = s.orl.enter body) : recorded body s t := by
  rw [recorded, h]
  exact lastN_getLast? 64 _ _ (by decide)

/-- The cut's CLOSE record is the one record that it makes. -/
theorem cutClose_recorded (s : State) (hs : s.stage = .running) :
    recorded (.close (s.act.origin.getD .auto) .cut (s.act.pulseMs.getD 0) (s.act.before.getD 0) s.act.cap) s (cutClose s) :=
  recorded_of_enter _ _ _ (by simp [cutClose, handCloseRecord, complete_orl_running, hs, closeRecord])

theorem answerHeldClose_answers_host (res : Res) (s : State) (f : RxFrame) (hh : s.seq.heldClose = some .host)
    (hf : s.hlc.current = some f) : (answerHeldClose res s).answered f.kind f.tag res [] := by
  simp only [answerHeldClose, hh, answer]
  exact hostReply_answered res [] _ f hf

/-- In TRIPPING the host's held CLOSE is answered OK. -/
theorem cutClose_answers_host (s : State) (f : RxFrame) (ht : s.seq.state = .tripping) (hh : s.seq.heldClose = some .host)
    (hf : s.hlc.current = some f) : (cutClose s).answered f.kind f.tag .ok [] := by
  rw [cutClose, seqCloseCompletion_cut, if_pos (by simpa using ht)]
  exact answerHeldClose_answers_host .ok _ f (by simpa using hh) (by simpa [handCloseRecord] using hf)

/-! ### The trip at ACT (spec/04 R72 to R74) -/

/-- A beginning trip is read off the capacitor before it and off ACT after it. -/
theorem tripBegun_congr {s s' t t' : State} (hs : s'.act.cap = s.act.cap) (ht : t'.act = t.act) (h : tripBegun s t) :
    tripBegun s' t' := by
  rwa [tripBegun, hs, ht]

theorem startTrip_begun (s : State) : tripBegun s (startTrip s) := by
  refine ⟨fun hready => ?_, fun hlow => ?_⟩
  · have hr : s.act.tripReady = true := decide_eq_true hready
    simp [startTrip, hr, beginTrip]
  · have hr : s.act.tripReady = false := decide_eq_false (Nat.not_le.2 hlow)
    have hfull : converterFrom s.act.cap = .full := if_pos (lt_trans hlow (by decide))
    simp [startTrip, hr, holdTrip, hfull]

theorem actTrip_from_idle (s : State) (h : s.act.state = .idle) : actTrip s = startTrip s := by simp [actTrip, h]

theorem actTrip_from_closePulse (s : State) (h : s.act.state = .closePulse) : actTrip s = startTrip (cutClose s) := by
  simp [actTrip, h]

/-- ACT takes a trip and leaves SEQ, but for a held CLOSE reply, the elements, the capture and the waiting frames alone. -/
@[simp] theorem actTrip_keeps_more (s : State) :
    (actTrip s).peu = s.peu ∧ (actTrip s).hlc.queue = s.hlc.queue ∧ (actTrip s).orl.capture = s.orl.capture ∧
    (actTrip s).seq.state = s.seq.state ∧ (actTrip s).seq.trip = s.seq.trip ∧ (actTrip s).seq.deadLeft = s.seq.deadLeft ∧
    (actTrip s).seq.holdLeft = s.seq.holdLeft ∧ (actTrip s).seq.reclaimLeft = s.seq.reclaimLeft := by
  unfold actTrip
  split <;> simp

/-- A trip handed over with ACT IDLE, or with a close in progress, which is cut, begins or is held by the capacitor as it stands. -/
theorem actTrip_begun (s : State) (h : s.act.state = .idle ∨ s.act.state = .closePulse) : tripBegun s (actTrip s) := by
  rcases h with h | h
  · rw [actTrip_from_idle s h]
    exact startTrip_begun s
  · rw [actTrip_from_closePulse s h]
    exact tripBegun_congr (by simp) rfl (startTrip_begun (cutClose s))

/-! ### The request at SEQ (spec/03 R44, R47) -/

@[simp] theorem seqTrip_keeps_more (r : TripReq) (s : State) :
    (seqTrip r s).peu = s.peu ∧ (seqTrip r s).hlc.queue = s.hlc.queue ∧ (seqTrip r s).orl.capture = s.orl.capture := by
  unfold seqTrip tripNow tripAttempt
  (repeat' split) <;> simp [joinTrip]

theorem seqTrip_now (r : TripReq) (s : State)
    (h : s.seq.state ∈ [SeqState.closed, .reclaim, .deadTime, .recloseHold, .reclosing, .closing]) : seqTrip r s = tripNow r s := by
  unfold seqTrip
  cases hs : s.seq.state <;> simp [hs] at h ⊢

theorem seqTrip_joins (r : TripReq) (s : State) (h : s.seq.state = .tripping) : seqTrip r s = joinTrip r s := by
  simp [seqTrip, h]

theorem seqTrip_attempts (r : TripReq) (s : State) (h : s.seq.state ∈ [SeqState.lockout, .mechFail]) :
    seqTrip r s = tripAttempt r s := by
  unfold seqTrip
  cases hs : s.seq.state <;> simp [hs] at h ⊢

/-- A trip handed over from a state with a closed breaker or a close to come: SEQ in TRIPPING, the timers discarded. -/
theorem tripNow_seq (r : TripReq) (s : State) :
    (tripNow r s).seq.state = .tripping ∧ (tripNow r s).seq.trip = some [r] ∧ (tripNow r s).seq.deadLeft = none ∧
    (tripNow r s).seq.holdLeft = none ∧ (tripNow r s).seq.reclaimLeft = none := by
  simp [tripNow, Seq.stopTimers]

theorem tripNow_begun (r : TripReq) (s : State) (h : s.act.state = .idle ∨ s.act.state = .closePulse) : tripBegun s (tripNow r s) := by
  let x := seqTo .tripping { s with seq := { s.seq.stopTimers with trip := some [r] } }
  have hact : x.act = s.act := by simp [x]
  exact tripBegun_congr (congrArg Act.cap hact.symm) rfl (actTrip_begun x (hact ▸ h))

theorem tripAttempt_state (r : TripReq) (s : State) : (tripAttempt r s).seq.state = s.seq.state := by
  unfold tripAttempt
  split <;> simp [joinTrip]

theorem tripAttempt_begun (r : TripReq) (s : State) (ht : s.seq.trip = none) (h : s.act.state = .idle) :
    (tripAttempt r s).seq.trip = some [r] ∧ tripBegun s (tripAttempt r s) := by
  obtain ⟨x, hx, -, hseq, hact⟩ := tripAttempt_fresh r s ht
  rw [hx]
  exact ⟨by simp [hseq], tripBegun_congr (congrArg Act.cap hact.symm) rfl (actTrip_begun x (Or.inl (hact ▸ h)))⟩

theorem tripAttempt_joins (r : TripReq) (s : State) (rs : List TripReq) (ht : s.seq.trip = some rs) :
    (tripAttempt r s).seq.trip = some (rs ++ [r]) ∧ (tripAttempt r s).act = s.act := by
  simp [tripAttempt, ht, joinTrip, Seq.requests]

/-- No trip request leaves SEQ in CLOSED or RECLOSE_HOLD. -/
theorem seqTrip_not_waiting (r : TripReq) (s : State) :
    (seqTrip r s).seq.state ≠ .closed ∧ (seqTrip r s).seq.state ≠ .recloseHold := by
  by_cases hnow : s.seq.state ∈ [SeqState.closed, .reclaim, .deadTime, .recloseHold, .reclosing, .closing]
  · rw [seqTrip_now r s hnow, (tripNow_seq r s).1]
    simp
  · by_cases htrip : s.seq.state = .tripping
    · simp [seqTrip_joins r s htrip, joinTrip, htrip]
    · have hlock : s.seq.state ∈ [SeqState.lockout, .mechFail] := by
        cases hs : s.seq.state <;> simp [hs] at hnow htrip ⊢
      rw [seqTrip_attempts r s hlock, tripAttempt_state]
      constructor <;> rintro hs <;> simp [hs] at hlock

/-! ### The cut of a close in RECLOSING and CLOSING -/

theorem tripNow_cuts (r : TripReq) (s : State) (hs : s.stage = .running) (h : s.act.state = .closePulse) :
    recorded (.close (s.act.origin.getD .auto) .cut (s.act.pulseMs.getD 0) (s.act.before.getD 0) s.act.cap) s (tripNow r s) ∧
    ∀ f, s.seq.heldClose = some .host → s.hlc.current = some f → (tripNow r s).answered f.kind f.tag .ok [] := by
  let x := seqTo .tripping { s with seq := { s.seq.stopTimers with trip := some [r] } }
  have hx : tripNow r s = startTrip (cutClose x) := actTrip_from_closePulse x (by simpa [x] using h)
  refine ⟨?_, fun f hh hf => ?_⟩
  · have hrec := cutClose_recorded x (by simpa [x] using hs)
    rw [hx]
    simpa [x, recorded] using hrec
  · have hans := cutClose_answers_host x f (by simp [x]) (by simpa [x, Seq.stopTimers] using hh) (by simpa [x] using hf)
    rw [hx]
    simpa [State.answered] using hans

end Sys2Proof.Machine
end

section
/-! SUPPORT and PROOFS. A magnitude update as a whole (spec/01 R14, spec/02 R23, spec/03 R60, R65): what the PEU leaves, what SEQ makes of
it, and the record of the source side; O8. -/

namespace Sys2Proof.Machine

/-! ### The request, the departure and the group at SEQ -/

/-- SEQ holds a reclose for want of a live source (spec/03 R54). -/
def awaitsSource (s : State) : Prop := s.seq.state = .recloseHold ∧ s.seq.holdReason = some .source

theorem seqEvent_decided (e : SeqEvent) (s : State) (h : s.seq.decided = true) : seqEvent e s = takeEvent e s := if_pos h

theorem seqEvent_undecided (e : SeqEvent) (s : State) (h : s.seq.decided = false) :
    seqEvent e s = { s with seq := { s.seq with events := s.seq.events ++ [e] } } := by simp [seqEvent, h]

@[simp] theorem requestTrip_keeps_more (cause : Option Element) (s : State) :
    (requestTrip cause s).peu = s.peu ∧ (requestTrip cause s).hlc.queue = s.hlc.queue := by
  cases cause with
  | none => simp [requestTrip]
  | some e =>
    unfold requestTrip seqEvent takeEvent
    dsimp only
    split <;> simp

theorem requestTrip_awaitsSource (cause : Option Element) (s : State) (h : awaitsSource (requestTrip cause s)) : awaitsSource s := by
  cases cause with
  | none => exact h
  | some e =>
    have hseq : (captureFault s).seq = s.seq := by simp
    change awaitsSource (seqEvent (.trip (.element e)) (captureFault s)) at h
    cases hd : s.seq.decided with
    | true =>
      rw [seqEvent_decided _ _ (by rwa [hseq])] at h
      exact absurd h.1 (seqTrip_not_waiting (.element e) (captureFault s)).2
    | false =>
      rw [seqEvent_undecided _ _ (by rwa [hseq])] at h
      simpa [awaitsSource] using h

theorem coordinates_iff (s : State) :
    coordinates s = true ↔ s.seq.state ∈ [SeqState.closed, .reclaim] ∧ s.sst.group.field 51 = 1 ∧ s.seq.manual = false ∧
      s.lsu.source.line = .live ∧ s.seq.shots < fastEntries s.sst.group := by
  simp [coordinates, Page.coordination, and_assoc]

theorem seqDeparture_uncounted (s : State) (h : coordinates s = false) : seqDeparture s = s := by simp [seqDeparture, h]

/-- A coordination step (R60). -/
theorem seqDeparture_counted (s : State) (hs : s.stage = .running) (h : coordinates s = true) :
    (seqDeparture s).seq = { s.seq with state := .reclaim, shots := s.seq.shots + 1, reclaimLeft := some (s.sst.group.field 50 * 1000),
                                        deadNo := none, deadLeft := none, holdReason := none, holdLeft := none } ∧
    (seqDeparture s).orl = s.orl.enter (.coordination (s.seq.shots + 1)) := by
  rw [seqDeparture, if_pos h]
  refine ⟨by simp [enterReclaim, stopTimers, Seq.stopTimers, Page.reclaimMs], ?_⟩
  rw [complete_orl_running _ _ (by simpa using hs)]
  simp [enterReclaim, stopTimers, Seq.stopTimers]

@[simp] theorem seqDeparture_queue (s : State) : (seqDeparture s).hlc.queue = s.hlc.queue := by
  unfold seqDeparture
  split <;> simp

/-- After a departure SEQ waits for a live source only where it did before. -/
theorem departure_awaitsSource (s : State) (h : awaitsSource (seqEvent .departure s)) : awaitsSource s := by
  cases hd : s.seq.decided with
  | true =>
    rw [seqEvent_decided _ _ hd] at h
    cases hc : coordinates s with
    | true =>
      have hstate : (seqDeparture s).seq.state = .reclaim := by simp [seqDeparture, hc, enterReclaim]
      exact absurd (hstate.symm.trans h.1) (by decide)
    | false => rwa [takeEvent, seqDeparture_uncounted s hc] at h
  | false =>
    rw [seqEvent_undecided _ _ hd] at h
    exact h

@[simp] theorem seqEvent_departure_keeps (s : State) :
    (seqEvent .departure s).peu = s.peu ∧ (seqEvent .departure s).hlc.queue = s.hlc.queue := by
  unfold seqEvent takeEvent
  split <;> simp

/-- The group of an update leaves SEQ's state, the detector and the waiting frames alone (R65). -/
@[simp] theorem applyWhenQuiet_keeps_more (s : State) :
    (applyWhenQuiet s).seq.state = s.seq.state ∧ (applyWhenQuiet s).seq.holdReason = s.seq.holdReason ∧
    (applyWhenQuiet s).peu.detector = s.peu.detector ∧ (applyWhenQuiet s).hlc.queue = s.hlc.queue := by
  unfold applyWhenQuiet applyPending takeHeld
  (repeat' split) <;> simp [applyGroup, applyToElements, Peu.withElems]

theorem applyPending_get (s : State) (e : Element) (h : (s.peu.elems.get e).apply = s.peu.elems.get e) :
    (applyPending s).peu.elems.get e = s.peu.elems.get e := by
  unfold applyPending takeHeld
  (repeat' split) <;> simp [applyGroup, h]

/-! ### The PEU after an update (R23, R38) -/

@[simp] theorem peuUpdate_keeps_more (s : State) :
    (peuUpdate s).peu = (peuInputs s).update s.peu ∧ (peuUpdate s).hlc.queue = s.hlc.queue := by
  simp only [peuUpdate]
  split <;> simp

theorem peuUpdate_awaitsSource (s : State) (h : awaitsSource (peuUpdate s)) : awaitsSource s := by
  simp only [peuUpdate] at h
  split at h
  · have hbefore := requestTrip_awaitsSource _ _ (departure_awaitsSource _ h)
    exact hbefore
  · have hbefore := requestTrip_awaitsSource _ _ h
    exact hbefore

theorem allQuiet_get (x : Elems) (h : x.allQuiet = true) (e : Element) : (x.get e).st = .quiet ∨ (x.get e).st = .disabled := by
  simpa using List.all_eq_true.1 h e (mem_elementOrder e)

/-- A group or content applied at an update with all quiet finds every element at rest: the elements are as the update computed them. -/
theorem applyWhenQuiet_get (s : State) (e : Element) :
    (applyWhenQuiet (peuUpdate s)).peu.elems.get e = ((peuInputs s).stepElems s.peu).get e := by
  have hpeu : (peuUpdate s).peu.elems = (peuInputs s).stepElems s.peu := by simp [PeuInputs.update]
  unfold applyWhenQuiet
  split
  · rename_i hq
    have hquiet : ((peuInputs s).stepElems s.peu).allQuiet = true := by simpa [PeuInputs.update] using hq.2
    have hrest := allQuiet_get _ hquiet e
    rw [applyPending_get, hpeu]
    rw [hpeu]
    rw [stepElems_get] at hrest ⊢
    exact Elem.step_apply_at_rest _ _ _ _ _ hrest
  · rw [hpeu]

/-! ### The record of the source side (spec/01 R14) -/

theorem sourceRecord_ringGrows (old new : LineState) (s : State) (hs : s.stage = .running) : ringGrows s (sourceRecord old new s) := by
  unfold sourceRecord
  split
  · exact Or.inr ⟨stamp .sourceLost s, by rw [complete_running _ _ hs, completeNow_ring]⟩
  · exact Or.inr ⟨stamp .sourceRestored s, by rw [complete_running _ _ hs, completeNow_ring]⟩
  · exact ringGrows_of_eq _ _ rfl

/-- No record but the source side's own is made. -/
theorem sourceRecord_bodies (old new : LineState) (s : State) (hs : s.stage = .running) :
    ∀ r ∈ (sourceRecord old new s).orl.ring, r ∈ s.orl.ring ∨ r.body = .sourceLost ∨ r.body = .sourceRestored := by
  have hnew (body : RecBody) (r : Record) (hr : r ∈ (complete body s).orl.ring) : r ∈ s.orl.ring ∨ r.body = body := by
    rw [complete_orl_running _ _ hs] at hr
    rcases List.mem_append.1 (List.mem_of_mem_drop hr) with hr | hr
    · exact Or.inl hr
    · exact Or.inr (congrArg Record.body (List.mem_singleton.1 hr))
  intro r hr
  unfold sourceRecord at hr
  split at hr
  · exact (hnew _ r hr).imp_right Or.inl
  · exact (hnew _ r hr).imp_right Or.inr
  · exact Or.inl hr

@[simp] theorem sourceRecord_capture (old new : LineState) (s : State) : (sourceRecord old new s).orl.capture = s.orl.capture := by
  unfold sourceRecord
  split <;> simp

/-- A record takes no reply off the transmit list. -/
theorem complete_answered (body : RecBody) (s : State) (kind tag : Byte) (res : Res) (b : Bytes) (h : s.answered kind tag res b) :
    (complete body s).answered kind tag res b := by
  unfold State.answered at h ⊢
  unfold complete completeNow enterRecord
  split
  · simpa using h
  · simp only [reportRecord_keeps, placeNotice, queueWrite_keeps, addToRing_keeps]
    split
    · exact List.mem_append_left _ h
    · exact h

theorem sourceRecord_answered (old new : LineState) (s : State) (kind tag : Byte) (res : Res) (b : Bytes)
    (h : s.answered kind tag res b) : (sourceRecord old new s).answered kind tag res b := by
  unfold sourceRecord
  split
  · exact complete_answered _ _ _ _ _ _ h
  · exact complete_answered _ _ _ _ _ _ h
  · exact h

/-! ### The update put together (log 13) -/

/-- Where SEQ makes no retry, the line states of an update are set and their record made, and nothing else comes of them. -/
theorem lineUpdate_without_retry (s : State)
    (h : ¬ (awaitsSource s ∧ s.lsu.qualifySides.source.line = .live ∧ s.lsu.source.line ≠ .live)) :
    lineUpdate s = sourceRecord s.lsu.source.line s.lsu.qualifySides.source.line { s with lsu := s.lsu.qualifySides } := by
  simp only [lineUpdate]
  split
  · rename_i hlive
    refine seqSourceLive_without_hold _ fun hw => h ⟨?_, hlive⟩
    simpa [awaitsSource] using hw
  · rfl

/-- The state in which the PEU finds the update of a block. -/
def State.pushed (block : List SampleSet) (s : State) : State := { s with lsu := s.lsu.push block }

/-- The state after an update's elements and group, with the line states of the update. -/
def State.afterPeu (block : List SampleSet) (s : State) : State :=
  { applyWhenQuiet (peuUpdate (s.pushed block)) with lsu := s.lsu.update block }

theorem magnitudeUpdate_without_retry (block : List SampleSet) (s : State)
    (h : ¬ (awaitsSource (applyWhenQuiet (peuUpdate (s.pushed block))) ∧ sideBecomes .live .source block s = true)) :
    magnitudeUpdate block s = sourceRecord s.lsu.source.line (s.lsu.update block).source.line (s.afterPeu block) := by
  have hlsu : (applyWhenQuiet (peuUpdate (s.pushed block))).lsu = s.lsu.push block := by simp [State.pushed]
  rw [sideBecomes_iff] at h
  have hline := lineUpdate_without_retry (applyWhenQuiet (peuUpdate (s.pushed block))) (by rwa [hlsu])
  rw [hlsu] at hline
  exact hline

/-- The same for an update that finds no reclose on hold to retry. -/
theorem magnitudeUpdate_not_retried (block : List SampleSet) (s : State) (h : ¬ sourceRetries block s) :
    magnitudeUpdate block s = sourceRecord s.lsu.source.line (s.lsu.update block).source.line (s.afterPeu block) := by
  refine magnitudeUpdate_without_retry block s fun ⟨hw, hlive⟩ => h ?_
  obtain ⟨hstate, hreason⟩ := peuUpdate_awaitsSource (s.pushed block) (by simpa [awaitsSource] using hw)
  exact ⟨hstate, hreason, hlive⟩

/-- The elements after an update that finds no reclose on hold to retry: as it computed them. -/
theorem magnitudeUpdate_get (block : List SampleSet) (s : State) (h : ¬ sourceRetries block s) (e : Element) :
    (magnitudeUpdate block s).peu.elems.get e = ((peuInputs (s.pushed block)).stepElems s.peu).get e := by
  rw [magnitudeUpdate_not_retried block s h]
  simp only [sourceRecord_keeps]
  exact applyWhenQuiet_get (s.pushed block) e

/-- An update of a running part completes, and serves no request. -/
theorem exec_magnitudeUpdate_runs (block : List SampleSet) (s : State) (hb : block.length = 16) (hs : s.runs) :
    exec (.magnitudeUpdate block) s = .next (magnitudeUpdate block s) := by
  obtain ⟨hrun, -, hqueue⟩ := hs
  rw [exec_magnitudeUpdate block s hb (by simp [hrun, Stage.started]), pump_without_frames]
  simp [magnitudeUpdate, hqueue]

/-! ### The elements after an update (R19 to R33) -/

/-- Settles O8: no operation after the computation changes an element, and the computation goes by the bands. -/
theorem elementsCompute : Obligations.ElementsCompute := by
  intro block s e hb hs hretry
  refine ⟨magnitudeUpdate block s, exec_magnitudeUpdate_runs block s hb hs, ?_⟩
  intro set i old new
  let points := curvePoints s.sst.curves set.curve
  have hmeas : (magnitudeUpdate block s).lsu.meas = (s.lsu.push block).meas := by simp [magnitudeUpdate_lsu, Lsu.update]
  have hnew : new = old.step ((peuInputs (s.pushed block)).armed e) set points i :=
    (magnitudeUpdate_get block s hretry e).trans (by simp only [stepElems_get, i, hmeas]; rfl)
  have harmed : (peuInputs (s.pushed block)).armed e = true ↔ armedAt s e := armed_iff (s.pushed block) e
  by_cases hon : armedAt s e
  · rw [harmed.2 hon] at hnew
    refine ⟨fun hoff => absurd hon hoff, fun _ => hnew ▸ Elem.step_enabled set points i old,
      fun _ hop => hnew.trans (Elem.step_of_operated set points i old hop), fun _ hop => ?_⟩
    rw [Elem.step_computed set points i old hop] at hnew
    have hacc := Elem.armed_acc old
    have hgrow : increment set points i = 2000000 / operateTime s e i := increment_eq s e i
    refine ⟨fun hp => ?_, fun hp hd => ?_, fun hp hd hr => ?_, fun hp hd hr => ?_⟩
    · rw [hnew, Elem.compute_pickup set points i _ hp, hacc, hgrow]
      exact ⟨rfl, rfl⟩
    · rw [hnew, Elem.compute_hold set points i _ hp hd, hacc]
      exact ⟨rfl, rfl⟩
    · rw [hnew, Elem.compute_reset set points i _ hp hd hr]
    · rw [hnew, Elem.compute_decay set points i _ hp hd hr, hacc]
      exact ⟨rfl, rfl⟩
  · rw [Bool.eq_false_iff.2 (mt harmed.1 hon)] at hnew
    exact ⟨fun _ => hnew, fun h => absurd h hon, fun h => absurd h hon, fun h => absurd h hon⟩

end Sys2Proof.Machine
end

section
/-! PROOFS. A fault departure at SEQ and the departure detector (spec/02 R36, R37; spec/03 R60); O19. -/

namespace Sys2Proof.Machine

/-- An update at which no element operates and no group or content waits: SEQ takes the departure, if one is raised. -/
theorem afterPeu_without_trip (block : List SampleSet) (s : State)
    (hnew : ∀ e, operatedAfter block s e → (s.peu.elems.get e).st = .operated)
    (hg : s.seq.pendingGroup = none) (hh : s.sst.held = none) (hd : s.seq.decided = true) :
    ∃ x : State, x.stage = s.stage ∧ x.orl = s.orl ∧ x.seq = s.seq ∧ x.sst = s.sst ∧ x.lsu.source = s.lsu.source ∧
      (departureRaised block s → coordinates x = true →
        (s.afterPeu block).seq = (seqDeparture x).seq ∧ (s.afterPeu block).orl = (seqDeparture x).orl) ∧
      (¬ (departureRaised block s ∧ coordinates x = true) → (s.afterPeu block).seq = s.seq ∧ (s.afterPeu block).orl = s.orl) := by
  let t := s.pushed block
  let x : State := { t with peu := (peuInputs t).update s.peu }
  have hseq : (s.afterPeu block).seq = (applyWhenQuiet (peuUpdate t)).seq := rfl
  have horl : (s.afterPeu block).orl = (applyWhenQuiet (peuUpdate t)).orl := rfl
  have hcause : (peuInputs t).cause t.peu = none := cause_none block s hnew
  have hdeparture : (peuInputs t).departure t.peu = true ↔ departureRaised block s := departure_iff block s
  have hpeu : peuUpdate t = if (peuInputs t).departure t.peu then seqDeparture x else x := by
    simp only [peuUpdate]
    rw [hcause]
    split
    · exact seqEvent_decided .departure x hd
    · rfl
  have hidle : applyWhenQuiet x = x := by
    have hpending : applyPending x = x := by simp [applyPending, takeHeld, x, t, State.pushed, hg, hh]
    rw [applyWhenQuiet, hpending, ite_self]
  refine ⟨x, rfl, rfl, rfl, rfl, rfl, fun hraised hcounts => ?_, fun hnot => ?_⟩
  · have hstate : (seqDeparture x).seq.state = .reclaim := by simp [seqDeparture, hcounts, enterReclaim]
    have hafter : applyWhenQuiet (peuUpdate t) = seqDeparture x := by
      rw [hpeu, if_pos (hdeparture.2 hraised), applyWhenQuiet, if_neg (by simp [hstate])]
    exact ⟨hseq.trans (congrArg State.seq hafter), horl.trans (congrArg State.orl hafter)⟩
  · have hafter : applyWhenQuiet (peuUpdate t) = x := by
      rw [hpeu]
      split
      · rename_i hraised
        have hc : coordinates x = false := by
          rw [Bool.eq_false_iff]
          exact fun hc => hnot ⟨hdeparture.1 hraised, hc⟩
        rw [seqDeparture_uncounted x hc, hidle]
      · exact hidle
    exact ⟨hseq.trans ((congrArg State.seq hafter).trans rfl), horl.trans ((congrArg State.orl hafter).trans rfl)⟩

/-- Settles O19, by what SEQ makes of the departure and by what the detector reads. -/
theorem coordinationStep : Obligations.CoordinationStep := by
  intro block s hb hs hd hg hh hretry
  refine ⟨magnitudeUpdate block s, exec_magnitudeUpdate_runs block s hb hs, ?_⟩
  intro raised counts
  have hupdate := magnitudeUpdate_not_retried block s hretry
  have hrun : (s.afterPeu block).stage = .running := by simpa [State.afterPeu, State.pushed] using hs.1
  have hseq : (magnitudeUpdate block s).seq = (s.afterPeu block).seq := by rw [hupdate]; simp
  refine ⟨fun hraised hcounts => ?_, fun hnew hnot => ?_, ?_⟩
  · obtain ⟨-, -, hnone, -⟩ := id hraised
    obtain ⟨x, hstage, horl, hxseq, hsst, hsource, hcounted, -⟩ :=
      afterPeu_without_trip block s (fun e he => absurd he (hnone e)) hg hh hd
    have hc : coordinates x = true := by
      rw [coordinates_iff, hxseq, hsst, hsource]
      exact hcounts
    obtain ⟨hdseq, hdorl⟩ := seqDeparture_counted x (hstage.trans hs.1) hc
    obtain ⟨haseq, haorl⟩ := hcounted hraised hc
    rw [hxseq, hsst] at hdseq
    rw [hxseq, horl] at hdorl
    refine ⟨hseq.trans (haseq.trans hdseq), ?_⟩
    have hrec : recorded (.coordination (s.seq.shots + 1)) s (s.afterPeu block) := recorded_of_enter _ _ _ (haorl.trans hdorl)
    rw [hupdate]
    exact mem_ring_of_ringGrows _ _ _ (sourceRecord_ringGrows _ _ _ hrun) hrec
  · obtain ⟨x, hstage, horl, hxseq, hsst, hsource, -, huncounted⟩ := afterPeu_without_trip block s hnew hg hh hd
    obtain ⟨haseq, haorl⟩ := huncounted fun ⟨hr, hc⟩ => hnot ⟨hr, by
      rw [coordinates_iff, hxseq, hsst, hsource] at hc
      exact hc⟩
    refine ⟨hseq.trans haseq, fun r hr => ?_⟩
    rw [hupdate] at hr
    exact (sourceRecord_bodies _ _ _ hrun r hr).imp_left fun h => haorl ▸ h
  · have hdetector : (magnitudeUpdate block s).peu.detector = (peuInputs (s.pushed block)).detector s.peu := by
      rw [hupdate]
      simp [State.afterPeu, State.pushed, PeuInputs.update]
    rw [hdetector]
    simp only [magnitudeUpdate_get block s hretry]
    exact detector_iff block s

end Sys2Proof.Machine
end

section
/-! SUPPORT and PROOFS. An update at which an element operates (spec/02 R31, spec/03 R44, R47); O10. -/

namespace Sys2Proof.Machine

theorem elementOperates_iff (block : List SampleSet) (s : State) :
    elementOperates block s = true ↔ ∃ e, (peuInputs (s.pushed block)).cause s.peu = some e := Option.isSome_iff_exists

theorem exec_elementOperate_runs (block : List SampleSet) (s : State) (hb : block.length = 16) (hs : s.runs)
    (ho : elementOperates block s = true) : exec (.elementOperate block) s = .next (magnitudeUpdate block s) := by
  rw [← exec_magnitudeUpdate_runs block s hb hs]
  change execElementOperate block s = execMagnitudeUpdate block s
  rw [execElementOperate, ho]
  rfl

/-- The state in which SEQ takes the trip request of an update: the elements computed, the fault captured. -/
def State.requesting (block : List SampleSet) (s : State) : State :=
  captureFault { s.pushed block with peu := (peuInputs (s.pushed block)).update s.peu }

@[simp] theorem State.requesting_reads (block : List SampleSet) (s : State) :
    (s.requesting block).stage = s.stage ∧ (s.requesting block).seq = s.seq ∧ (s.requesting block).act = s.act ∧
    (s.requesting block).hlc = s.hlc ∧ (s.requesting block).peu = (peuInputs (s.pushed block)).update s.peu ∧
    (s.requesting block).orl.next = s.orl.next ∧ (s.requesting block).orl.time = s.orl.time ∧
    (s.requesting block).orl.valid = s.orl.valid := by
  simp [State.requesting, State.pushed]

/-- An update at which an element operates is its trip request at SEQ, the line states and the record of the source side. -/
theorem magnitudeUpdate_of_cause (block : List SampleSet) (s : State) (e : Element) (hd : s.seq.decided = true)
    (hcause : (peuInputs (s.pushed block)).cause s.peu = some e) :
    magnitudeUpdate block s = sourceRecord s.lsu.source.line (s.lsu.update block).source.line
      { seqTrip (.element e) (s.requesting block) with lsu := s.lsu.update block } := by
  have hop : operatedAfter block s e := (operatedAfter_iff block s e).2 (cause_first _ _ e hcause).1
  have hdeparture : (peuInputs (s.pushed block)).departure s.peu = false := by
    rw [Bool.eq_false_iff, Ne]
    intro hraised
    obtain ⟨-, -, hnone, -⟩ := (departure_iff block s).1 hraised
    exact hnone e hop
  have hpeu : peuUpdate (s.pushed block) = seqTrip (.element e) (s.requesting block) := by
    have hrequest : seqEvent (.trip (.element e)) (s.requesting block) = seqTrip (.element e) (s.requesting block) :=
      seqEvent_decided _ _ (by simpa using hd)
    rw [← hrequest, peuUpdate]
    simp only [show (s.pushed block).peu = s.peu from rfl, hcause, hdeparture]
    rfl
  obtain ⟨hopen, hhold⟩ := seqTrip_not_waiting (.element e) (s.requesting block)
  have hidle : applyWhenQuiet (peuUpdate (s.pushed block)) = seqTrip (.element e) (s.requesting block) := by
    rw [hpeu, applyWhenQuiet, if_neg (fun h => hopen h.1)]
  rw [magnitudeUpdate_without_retry block s (fun h => hhold (hidle ▸ h.1.1)), State.afterPeu, hidle]

/-- Settles O10, by the state of SEQ that the trip request finds. -/
theorem elementOperateTrips : Obligations.ElementOperateTrips := by
  intro block s e hb hs hd hcause
  change (peuInputs (s.pushed block)).cause s.peu = some e at hcause
  refine ⟨magnitudeUpdate block s, exec_elementOperate_runs block s hb hs ((elementOperates_iff block s).2 ⟨e, hcause⟩), ?_⟩
  let y := s.requesting block
  let u := seqTrip (.element e) y
  have hupdate := magnitudeUpdate_of_cause block s e hd hcause
  have hpeu : (magnitudeUpdate block s).peu.elems = (peuInputs (s.pushed block)).stepElems s.peu := by
    rw [hupdate]
    simp [PeuInputs.update]
  have hseq : (magnitudeUpdate block s).seq = u.seq := by rw [hupdate]; simp [u, y]
  have hact : (magnitudeUpdate block s).act = u.act := by rw [hupdate]; simp [u, y]
  have hyseq : y.seq = s.seq := by simp [y]
  have hyact : y.act = s.act := by simp [y]
  obtain ⟨hop, hfirst⟩ := cause_first _ _ e hcause
  rw [hpeu, hseq, hact]
  refine ⟨hop, hfirst, ?_, fun hstate hidle => ?_, fun hstate hpulse => ?_, fun hstate => ?_, fun hstate => ?_⟩
  · rw [hupdate]
    simp [State.requesting, State.pushed, Lsu.update]
  · have hnow : u = tripNow (.element e) y := seqTrip_now _ y (by
      rw [hyseq]
      exact (show [SeqState.closed, .reclaim, .deadTime, .recloseHold] ⊆ _ by decide) hstate)
    obtain ⟨htripping, htrip, hdead, hhold, hreclaim⟩ := tripNow_seq (.element e) y
    rw [hnow] at hact ⊢
    exact ⟨htripping, htrip, hdead, hhold, hreclaim,
      tripBegun_congr (congrArg Act.cap hyact.symm) hact (tripNow_begun (.element e) y (Or.inl (hyact ▸ hidle)))⟩
  · have hnow : u = tripNow (.element e) y := seqTrip_now _ y (by
      rw [hyseq]
      exact (show [SeqState.reclosing, .closing] ⊆ _ by decide) hstate)
    obtain ⟨htripping, htrip, -, -, -⟩ := tripNow_seq (.element e) y
    obtain ⟨hcut, hanswer⟩ := tripNow_cuts (.element e) y (by simpa [y] using hs.1) (hyact ▸ hpulse)
    have hgrows : ringGrows u (magnitudeUpdate block s) := by
      rw [hupdate]
      exact sourceRecord_ringGrows _ _ { u with lsu := s.lsu.update block } (by simpa [u, y] using hs.1)
    rw [← hnow] at hcut hanswer htripping htrip
    refine ⟨htripping, htrip, mem_ring_of_ringGrows _ _ _ hgrows ?_,
      tripBegun_congr (congrArg Act.cap hyact.symm) hact (hnow ▸ tripNow_begun (.element e) y (Or.inr (hyact ▸ hpulse))),
      fun f hheld hf => ?_⟩
    · simpa [recorded, y] using hcut
    · rw [hupdate]
      exact sourceRecord_answered _ _ { u with lsu := s.lsu.update block } _ _ _ _
        (hanswer f (by rwa [hyseq]) (by simpa [y] using hf))
  · have hjoin : u = joinTrip (.element e) y := seqTrip_joins _ y (by rwa [hyseq])
    rw [hjoin]
    simp [joinTrip, Seq.requests, hyseq, hyact, hstate]
  · have hattempt : u = tripAttempt (.element e) y := seqTrip_attempts _ y (by rwa [hyseq])
    rw [hattempt] at hact ⊢
    refine ⟨by rw [tripAttempt_state, hyseq], fun hnone hidle => ?_, fun rs hrs => ?_⟩
    · obtain ⟨htrip, hbegun⟩ := tripAttempt_begun (.element e) y (by rwa [hyseq]) (by rwa [hyact])
      exact ⟨htrip, tripBegun_congr (congrArg Act.cap hyact.symm) hact hbegun⟩
    · rw [← hyact]
      exact tripAttempt_joins (.element e) y rs (by rwa [hyseq])

end Sys2Proof.Machine
end

section
/-! SUPPORT. What each of SEQ's entries leaves of SEQ itself (spec/03 R43 to R65): its state, its timers, its flag, its cause and the
pending group. -/

namespace Sys2Proof.Machine

@[simp] theorem stopTimers_seq (s : State) : (stopTimers s).seq = s.seq.stopTimers := rfl

@[simp] theorem applyGroup_seq (g : Nat) (s : State) : (applyGroup g s).seq = { s.seq with pendingGroup := none } := by
  simp [applyGroup]

@[simp] theorem applyPending_seq (s : State) : (applyPending s).seq = { s.seq with pendingGroup := none } := by
  unfold applyPending
  split <;> rename_i hp <;> simp [← hp]

theorem enterLockout_seq (c : Cause) (s : State) :
    (enterLockout c s).seq = { s.seq.stopTimers with state := .lockout, manual := false, cause := some c, pendingGroup := none } := by
  simp [enterLockout]

theorem enterMechFail_seq (s : State) :
    (enterMechFail s).seq = { s.seq.stopTimers with state := .mechFail, cause := none, pendingGroup := none } := by
  simp only [enterMechFail]
  split <;> simp

theorem enterReclaim_seq (s : State) :
    (enterReclaim s).seq = { s.seq.stopTimers with state := .reclaim, reclaimLeft := some s.sst.group.reclaimMs } := by
  simp [enterReclaim]

theorem enterReclaimByHand_seq (s : State) :
    (enterReclaimByHand s).seq = { s.seq.stopTimers with
      state := .reclaim, shots := 0, manual := true, reclaimLeft := some s.sst.group.reclaimMs } := by
  simp [enterReclaimByHand, enterReclaim_seq, Seq.stopTimers]

/-- Whether the elements are quiet decides only about the pending group (R64). -/
theorem enterClosed_seq (s : State) :
    (enterClosed s).seq = { s.seq.stopTimers with
      state := .closed, shots := 0, manual := false, cause := none,
      pendingGroup := if s.peu.allQuiet then none else s.seq.pendingGroup } := by
  simp only [enterClosed, seqTo_keeps]
  split <;> simp [Seq.stopTimers]

theorem enterDeadTime_seq (s : State) :
    (enterDeadTime s).seq = { s.seq.stopTimers with
      state := .deadTime, deadNo := some s.seq.shots, deadLeft := some (s.sst.group.deadTime s.seq.shots) } := by
  simp [enterDeadTime, Seq.stopTimers]

theorem enterHold_seq (r : HoldReason) (ms : Nat) (s : State) :
    (enterHold r ms s).seq = { s.seq with
      state := .recloseHold, deadNo := none, deadLeft := none, holdReason := some r, holdLeft := some ms } := by
  simp [enterHold]

theorem commandedClose_seq (a : Authority) (src : Src) (s : State) :
    (commandedClose a src s).seq = { s.seq with
      state := .closing, shots := 0, manual := true, cause := none, heldClose := some src } := by
  simp [commandedClose, beginClose]

end Sys2Proof.Machine
end

section
/-! SUPPORT. SEQ's items and its state (spec/03 R41, R43, R66): every operation of a SEQ that has decided leaves them going together, and
one that has not decided holds its events. -/

namespace Sys2Proof.Machine

/-- SEQ's items go with its state as in the tables of R41. -/
def Seq.fits (q : Seq) : Prop :=
  q.shots ≤ 4 ∧ (q.cause.isSome ↔ q.state = .lockout) ∧
  (q.deadLeft.isSome ↔ q.state = .deadTime) ∧ (q.deadNo.isSome ↔ q.state = .deadTime) ∧
  (q.holdLeft.isSome ↔ q.state = .recloseHold) ∧ (q.holdReason.isSome ↔ q.state = .recloseHold) ∧
  (q.reclaimLeft.isSome ↔ q.state = .reclaim) ∧ (q.state = .tripping → q.trip.isSome)

/-- A SEQ that has decided, its items going with its state. -/
def Seq.sound (q : Seq) : Prop := q.fits ∧ q.decided = true

theorem Seq.fits.shots_le {q : Seq} (h : q.fits) : q.shots ≤ 4 := h.1

/-- Outside LOCKOUT there is no cause (R43). -/
theorem Seq.fits.cause_none {q : Seq} (h : q.fits) (hs : q.state ≠ .lockout) : q.cause = none := by
  obtain ⟨-, hcause, -⟩ := h
  simpa [hs] using hcause

/-- In RECLAIM alone is there a reclaim timer (R41). -/
theorem Seq.fits.reclaimLeft_none {q : Seq} (h : q.fits) (hs : q.state ≠ .reclaim) : q.reclaimLeft = none := by
  obtain ⟨-, -, -, -, -, -, hreclaim, -⟩ := h
  simpa [hs] using hreclaim

/-- What a trip in flight names matters in TRIPPING alone. -/
theorem Seq.fits.with_trip {q : Seq} (h : q.fits) (rs : Option (List TripReq)) (hs : q.state = .tripping → rs.isSome) :
    ({ q with trip := rs } : Seq).fits := by
  obtain ⟨hshots, hcause, hdead, hdeadNo, hhold, hreason, hreclaim, -⟩ := h
  exact ⟨hshots, hcause, hdead, hdeadNo, hhold, hreason, hreclaim, hs⟩

@[simp] theorem Seq.sound_heldClose (q : Seq) (x : Option Src) : ({ q with heldClose := x } : Seq).sound ↔ q.sound := Iff.rfl

@[simp] theorem Seq.sound_pendingGroup (q : Seq) (x : Option Nat) : ({ q with pendingGroup := x } : Seq).sound ↔ q.sound := Iff.rfl

/-! ### SEQ's entries -/

/-- An entry leaves the items fitting when the counter was in its range, and, where it keeps the cause, there was none. -/
theorem enterLockout_sound (c : Cause) (s : State) (hn : s.seq.shots ≤ 4) (hd : s.seq.decided = true) : (enterLockout c s).seq.sound := by
  simp [enterLockout_seq, Seq.sound, Seq.fits, Seq.stopTimers, hn, hd]

theorem enterMechFail_sound (s : State) (hn : s.seq.shots ≤ 4) (hd : s.seq.decided = true) : (enterMechFail s).seq.sound := by
  simp [enterMechFail_seq, Seq.sound, Seq.fits, Seq.stopTimers, hn, hd]

theorem enterClosed_sound (s : State) (hd : s.seq.decided = true) : (enterClosed s).seq.sound := by
  simp [enterClosed_seq, Seq.sound, Seq.fits, Seq.stopTimers, hd]

theorem enterReclaim_sound (s : State) (hn : s.seq.shots ≤ 4) (hc : s.seq.cause = none) (hd : s.seq.decided = true) :
    (enterReclaim s).seq.sound := by
  simp [enterReclaim_seq, Seq.sound, Seq.fits, Seq.stopTimers, hn, hc, hd]

theorem enterReclaimByHand_sound (s : State) (hc : s.seq.cause = none) (hd : s.seq.decided = true) :
    (enterReclaimByHand s).seq.sound := by
  simp [enterReclaimByHand_seq, Seq.sound, Seq.fits, Seq.stopTimers, hc, hd]

theorem enterDeadTime_sound (s : State) (hn : s.seq.shots ≤ 4) (hc : s.seq.cause = none) (hd : s.seq.decided = true) :
    (enterDeadTime s).seq.sound := by
  simp [enterDeadTime_seq, Seq.sound, Seq.fits, Seq.stopTimers, hn, hc, hd]

/-- The states in which a reclose is to come (R51 to R55). -/
def SeqState.recloses (x : SeqState) : Prop := x = .deadTime ∨ x = .recloseHold

section
variable (s : State) (h : s.seq.sound)
include h

theorem enterHold_sound (r : HoldReason) (ms : Nat) (hs : s.seq.state.recloses) : (enterHold r ms s).seq.sound := by
  have hcause := h.1.cause_none (by rcases hs with hs | hs <;> simp [hs])
  have hreclaim := h.1.reclaimLeft_none (by rcases hs with hs | hs <;> simp [hs])
  simp [enterHold_seq, Seq.sound, Seq.fits, hcause, hreclaim, h.1.shots_le, h.2]

@[simp] theorem answerHeldClose_seq_sound (res : Res) : (answerHeldClose res s).seq.sound := by
  simpa using h

/-! ### Completions (R48 to R50, R56, R58) -/

@[simp] theorem seqCloseCompletion_seq_sound (o : PulseOutcome) : (seqCloseCompletion o s).seq.sound := by
  have hcause := h.1.cause_none
  have hn := h.1.shots_le
  unfold seqCloseCompletion
  split <;> rename_i hs
  · have hc := hcause (by simp [hs])
    cases o with
    | done => exact enterReclaim_sound _ hn hc h.2
    | noMove => exact enterLockout_sound _ _ (by simpa using hn) (by simpa using h.2)
    | cut => exact h
  · have hc := hcause (by simp [hs])
    cases o with
    | done => exact answerHeldClose_seq_sound _ (enterReclaimByHand_sound s hc h.2) _
    | noMove => exact answerHeldClose_seq_sound _ (enterLockout_sound _ _ (by simpa using hn) (by simpa using h.2)) _
    | cut => exact h
  · cases o <;> simpa using h
  all_goals exact h

@[simp] theorem countTrip_seq_sound (o : PulseOutcome) : (countTrip o s).seq.sound := by
  unfold countTrip
  split
  · dsimp only
    split
    · obtain ⟨⟨-, hrest⟩, hd⟩ := h
      exact ⟨⟨min_le_left _ _, by simpa using hrest⟩, by simpa using hd⟩
    · simpa using h
  · exact h

/-- The decision on a trip pulse that has ended, with no trip in flight any more (R48 to R50): it takes SEQ out of TRIPPING. -/
theorem carryOut_seq_sound (o : PulseOutcome) (ho : o ≠ .cut) (t : State) (ht : t.seq = { s.seq with trip := none }) :
    (carryOut (afterTrip o s) t).seq.sound := by
  have hn : t.seq.shots ≤ 4 := ht ▸ h.1.shots_le
  have hd : t.seq.decided = true := ht ▸ h.2
  have stays (hs : s.seq.state ≠ .tripping) : t.seq.sound := ht ▸ ⟨h.1.with_trip none fun hx => absurd hx hs, h.2⟩
  unfold afterTrip
  split <;> rename_i hs
  · have hc : t.seq.cause = none := ht ▸ h.1.cause_none (by simp [hs])
    split_ifs
    · exact enterLockout_sound _ t hn hd
    · exact enterLockout_sound _ t hn hd
    · exact enterLockout_sound _ t hn hd
    · exact enterDeadTime_sound t hn hc hd
  · exact enterMechFail_sound _ (by simpa using hn) (by simpa using hd)
  · exact enterMechFail_sound _ (by simpa using hn) (by simpa using hd)
  · simpa [carryOut] using stays (by simp [hs])
  · rename_i ended _ _ hdone hmove _
    refine stays fun htrip => ?_
    cases ended with
    | done => exact hdone htrip rfl
    | noMove => exact hmove htrip rfl
    | cut => exact ho rfl

@[simp] theorem tripCompletion_seq_sound (o : PulseOutcome) (ho : o ≠ .cut) (pp : PulsePart) (partFirst : Bool) :
    (tripCompletion o pp partFirst s).seq.sound := by
  have decision (x t : State) (hx : x.seq.sound) (ht : t.seq = { x.seq with trip := none }) (b : Bool) :
      (if b = true then exhaustionTripEnded (carryOut (afterTrip o x) t) else carryOut (afterTrip o x) t).seq.sound := by
    split <;> simpa using carryOut_seq_sound x hx o ho t ht
  cases partFirst with
  | true => exact decision _ _ (countTrip_seq_sound _ (by simpa using h) o) (by simp) _
  | false => exact decision _ _ (countTrip_seq_sound _ h o) (by simp) _

@[simp] theorem endClose_seq_sound (o : PulseOutcome) (pulse : Nat) (fin : PulseEnd) : (endClose o pulse fin s).seq.sound := by
  simp only [endClose]
  (repeat' split) <;> simp [h]

@[simp] theorem endTrip_seq_sound (o : PulseOutcome) (ho : o ≠ .cut) (pulse : Nat) (fin : PulseEnd) :
    (endTrip o pulse fin s).seq.sound := by
  simp only [endTrip]
  split <;> simp [h, ho]

@[simp] theorem endHeldTrip_seq_sound (fin : PulseEnd) : (endHeldTrip fin s).seq.sound := by simp [endHeldTrip, h]

/-! ### Trips, opens and closes (R44 to R47, R57) -/

@[simp] theorem actTrip_seq_sound : (actTrip s).seq.sound := by
  unfold actTrip cutClose
  split <;> simp [h]

@[simp] theorem joinTrip_seq_sound (r : TripReq) : (joinTrip r s).seq.sound := ⟨h.1.with_trip _ fun _ => rfl, h.2⟩

/-- Where a trip is handed over with SEQ entering TRIPPING there is no cause. -/
theorem tripNow_seq_sound (r : TripReq) (hs : s.seq.state ≠ .lockout) : (tripNow r s).seq.sound := by
  refine actTrip_seq_sound _ ?_
  simp [Seq.sound, Seq.fits, Seq.stopTimers, h.1.shots_le, h.1.cause_none hs, h.2]

@[simp] theorem tripAttempt_seq_sound (r : TripReq) : (tripAttempt r s).seq.sound := by
  unfold tripAttempt
  split
  · exact actTrip_seq_sound _ ⟨h.1.with_trip _ fun _ => rfl, h.2⟩
  · exact joinTrip_seq_sound s h r

@[simp] theorem seqTrip_seq_sound (r : TripReq) : (seqTrip r s).seq.sound := by
  unfold seqTrip
  split <;> rename_i hs
  case h_7 => exact joinTrip_seq_sound s h r
  case h_8 | h_9 => exact tripAttempt_seq_sound s h r
  all_goals exact tripNow_seq_sound s h r (by simp [hs])

@[simp] theorem seqOpen_seq_sound (a : Authority) (src : Src) : (seqOpen a src s).seq.sound := by
  have hlock := enterLockout_sound .commandOpen s h.1.shots_le h.2
  unfold seqOpen
  (repeat' split) <;> simp [h, hlock]

@[simp] theorem seqClose_seq_sound (a : Authority) (src : Src) : (seqClose a src s).seq.sound := by
  unfold seqClose
  split <;> rename_i hs
  case h_2 =>
    split
    · simpa using h
    · obtain ⟨⟨-, -, hdead, hdeadNo, hhold, hreason, hreclaim, -⟩, hd⟩ := h
      simp only [hs, reduceCtorEq, iff_false] at hdead hdeadNo hhold hreason hreclaim
      simp [commandedClose_seq, Seq.sound, Seq.fits, hdead, hdeadNo, hhold, hreason, hreclaim, hd]
  all_goals simpa using h

/-! ### The reclose decision (R52 to R55) -/

theorem autoRefused_seq_sound (r : Res) (hs : s.seq.state.recloses) : (autoRefused r s).seq.sound := by
  have hlock c := enterLockout_sound c s h.1.shots_le h.2
  have hcause := h.1.cause_none (by rcases hs with hs | hs <;> simp [hs])
  unfold autoRefused
  (repeat' split) <;> simp [h, hlock, hs, hcause, enterHold_sound, enterReclaimByHand_sound, h.2]

theorem autoClose_seq_sound (hs : s.seq.state.recloses) : (autoClose s).seq.sound := by
  have hcause := h.1.cause_none (by rcases hs with hs | hs <;> simp [hs])
  unfold autoClose
  split
  · simp [beginClose, Seq.sound, Seq.fits, Seq.stopTimers, hcause, h.1.shots_le, h.2]
  · exact autoRefused_seq_sound s h _ hs

theorem deadEnd_seq_sound (d : DeadEnd) (hs : s.seq.state.recloses) : (deadEnd d s).seq.sound := by
  cases d with
  | lockout c => exact enterLockout_sound c s h.1.shots_le h.2
  | holdSource => exact enterHold_sound s h _ _ hs
  | close => exact autoClose_seq_sound s h hs

theorem deadTimeEnd_seq_sound (hs : s.seq.state = .deadTime) : (deadTimeEnd s).seq.sound := by
  obtain ⟨⟨hshots, hcause, -, hrest⟩, hd⟩ := h
  have hzero : ({ s.seq with deadLeft := some 0 } : Seq).sound := ⟨⟨hshots, hcause, by simp [hs], hrest⟩, hd⟩
  exact deadEnd_seq_sound { s with seq := { s.seq with deadLeft := some 0 } } hzero _ (Or.inl hs)

@[simp] theorem seqSourceLive_seq_sound : (seqSourceLive s).seq.sound := by
  unfold seqSourceLive
  split
  · rename_i hs
    exact deadEnd_seq_sound s h _ (Or.inr hs.1)
  · exact h

@[simp] theorem seqEnergyReady_seq_sound : (seqEnergyReady s).seq.sound := by
  unfold seqEnergyReady
  split
  · rename_i hs
    exact deadEnd_seq_sound s h _ (Or.inr hs.1)
  · exact h

@[simp] theorem holdEnd_seq_sound : (holdEnd s).seq.sound := by
  unfold holdEnd
  split
  · exact enterLockout_sound _ s h.1.shots_le h.2
  · exact enterLockout_sound _ s h.1.shots_le h.2
  · exact h

/-! ### Coordination, tags, position, groups (R60 to R65) -/

omit h in
/-- The shot table has four entries (R60). -/
theorem fastEntries_le (g : Page) : fastEntries g ≤ 4 := by
  simpa [fastEntries] using List.Sublist.length_le
    (List.takeWhile_sublist (l := [1, 2, 3, 4].map fun t => armed g t .none .pf || armed g t .none .gf) id)

@[simp] theorem seqDeparture_seq_sound : (seqDeparture s).seq.sound := by
  cases hc : coordinates s with
  | false => rwa [seqDeparture_uncounted s hc]
  | true =>
    obtain ⟨hstate, -, -, -, hfast⟩ := (coordinates_iff s).1 hc
    have hcause := h.1.cause_none (by rintro hs; simp [hs] at hstate)
    have hle := fastEntries_le s.sst.group
    simpa [seqDeparture, hc] using
      enterReclaim_sound { s with seq := { s.seq with shots := s.seq.shots + 1 } } (by dsimp only; omega) hcause h.2

@[simp] theorem seqTagAccepted_seq_sound : (seqTagAccepted s).seq.sound := by
  unfold seqTagAccepted
  split
  · exact enterLockout_sound _ s h.1.shots_le h.2
  · exact h

@[simp] theorem seqPosition_seq_sound (p : Position) : (seqPosition p s).seq.sound := by
  have hlock := enterLockout_sound .externalOpen s h.1.shots_le h.2
  have hhand (hs : s.seq.state ≠ .lockout) := enterReclaimByHand_sound s (h.1.cause_none hs) h.2
  have hfound := enterReclaimByHand_sound { s with seq := { s.seq with cause := none } } rfl h.2
  unfold seqPosition
  (repeat' split) <;> simp_all

@[simp] theorem seqSelect_seq_sound (g : Nat) (src : Src) : (seqSelect g src s).seq.sound := by
  unfold seqSelect
  (repeat' split) <;> simpa using h

/-- SEQ takes an event, whichever it is. -/
@[simp] theorem takeEvent_seq_sound (e : SeqEvent) : (takeEvent e s).seq.sound := by
  cases e <;> simp [takeEvent, h]

@[simp] theorem mechFailCleared_seq_sound : (mechFailCleared s).1.seq.sound := by
  have hclosed := enterClosed_sound (clearElements (setMech false s)) (by simpa using h.2)
  have hlock := enterLockout_sound .mechCleared (setMech false s) (by simpa using h.1.shots_le) (by simpa using h.2)
  unfold mechFailCleared
  (repeat' split) <;> simp [h, hclosed, hlock]

end

end Sys2Proof.Machine
end

section
/-! SUPPORT and PROOFS. SEQ's items go with its state through every step (spec/03 R41, R43, R66): before SEQ has decided nothing moves it,
and from the start reading on every operation keeps it sound; O20. -/

namespace Sys2Proof.Machine

/-! ### SEQ before and after its decision (R66) -/

/-- SEQ's items fit, it has decided or not as `d` says, and before the decision it stands in its placeholder LOCKOUT with ACT IDLE
(log 10). -/
def Seq.holds (q : Seq) (a : ActState) (d : Bool) : Prop :=
  q.fits ∧ q.decided = d ∧ (d = false → q.state = .lockout ∧ a = .idle)

@[simp] theorem Seq.holds_true (q : Seq) (a : ActState) : q.holds a true ↔ q.sound := by simp [Seq.holds, Seq.sound]

theorem Seq.sound.holds {q : Seq} (h : q.sound) (a : ActState) : q.holds a true := (q.holds_true a).2 h

/-- SEQ outside its placeholder, or ACT at work, is after the decision. -/
theorem Seq.holds.decided_of {q : Seq} {a : ActState} {d : Bool} (h : q.holds a d) (hs : q.state ≠ .lockout ∨ a ≠ .idle) : d = true := by
  obtain ⟨-, -, hplace⟩ := h
  cases d with
  | true => rfl
  | false => exact absurd (hplace rfl) (by tauto)

theorem seqSound_iff (s : State) :
    seqSound s ↔ s.seq.holds s.act.state s.seq.decided ∧ (s.seq.decided = true ↔ s.stage = .running) := by
  constructor
  · rintro ⟨hshots, hcause, hdead, hdeadNo, hhold, hreason, hreclaim, htrip, hdecided, hplace⟩
    exact ⟨⟨⟨hshots, hcause, hdead, hdeadNo, hhold, hreason, hreclaim, htrip⟩, rfl,
      fun hd => hplace fun hrun => by simp [hdecided.2 hrun] at hd⟩, hdecided⟩
  · rintro ⟨⟨⟨hshots, hcause, hdead, hdeadNo, hhold, hreason, hreclaim, htrip⟩, -, hplace⟩, hdecided⟩
    exact ⟨hshots, hcause, hdead, hdeadNo, hhold, hreason, hreclaim, htrip, hdecided,
      fun hrun => hplace (Bool.eq_false_iff.2 fun hd => hrun (hdecided.1 hd))⟩

theorem foldl_holds {α : Type} {d : Bool} (f : State → α → State)
    (hf : ∀ t x, t.seq.holds t.act.state d → (f t x).seq.holds (f t x).act.state d) (l : List α) (s : State)
    (h : s.seq.holds s.act.state d) : (l.foldl f s).seq.holds (l.foldl f s).act.state d := by
  induction l generalizing s with
  | nil => exact h
  | cons x rest ih => exact ih (f s x) (hf s x h)

theorem foldl_seq_sound {α : Type} (f : State → α → State) (hf : ∀ t x, t.seq.sound → (f t x).seq.sound) (l : List α) (s : State)
    (h : s.seq.sound) : (l.foldl f s).seq.sound := by
  induction l generalizing s with
  | nil => exact h
  | cons x rest ih => exact ih (f s x) (hf s x h)

section
variable {d : Bool} (s : State) (h : s.seq.holds s.act.state d)
include h

/-! ### Events and what raises them -/

/-- Before the decision an event waits; after it SEQ takes it. -/
@[simp] theorem seqEvent_holds (e : SeqEvent) : (seqEvent e s).seq.holds (seqEvent e s).act.state d := by
  cases d with
  | true =>
    simp only [Seq.holds_true] at h ⊢
    rw [seqEvent_decided e s h.2]
    exact takeEvent_seq_sound s h e
  | false =>
    rw [seqEvent_undecided e s h.2.1]
    exact h

@[simp] theorem requestTrip_holds (cause : Option Element) : (requestTrip cause s).seq.holds (requestTrip cause s).act.state d := by
  unfold requestTrip
  split
  · exact seqEvent_holds _ (by simpa using h) _
  · exact h

@[simp] theorem peuUpdate_holds : (peuUpdate s).seq.holds (peuUpdate s).act.state d := by
  have hreq := requestTrip_holds { s with peu := (peuInputs s).update s.peu } h ((peuInputs s).cause s.peu)
  simp only [peuUpdate]
  split
  · exact seqEvent_holds _ hreq _
  · exact hreq

@[simp] theorem applyWhenQuiet_holds : (applyWhenQuiet s).seq.holds s.act.state d := by
  unfold applyWhenQuiet
  split
  · simpa [Seq.holds, Seq.fits] using h
  · exact h

/-- A source side that becomes LIVE moves SEQ in RECLOSE_HOLD alone (R54). -/
@[simp] theorem seqSourceLive_holds : (seqSourceLive s).seq.holds (seqSourceLive s).act.state d := by
  cases d with
  | true => simpa using seqSourceLive_seq_sound s (by simpa using h)
  | false =>
    have hid : seqSourceLive s = s := if_neg fun hs => absurd (h.decided_of (Or.inl (by simp [hs.1]))) (by decide)
    rwa [hid]

@[simp] theorem magnitudeUpdate_holds (block : List SampleSet) :
    (magnitudeUpdate block s).seq.holds (magnitudeUpdate block s).act.state d := by
  simp only [magnitudeUpdate, lineUpdate]
  have hpeu := applyWhenQuiet_holds _ (peuUpdate_holds { s with lsu := s.lsu.push block } h)
  split
  · exact seqSourceLive_holds _ (by simpa using hpeu)
  · simpa using hpeu

@[simp] theorem acceptTag_holds (t : TagTable) (x : Tag) : (acceptTag t x s).seq.holds (acceptTag t x s).act.state d := by
  simpa [acceptTag] using seqEvent_holds { s with tag := { s.tag with table := t } } h .tagAccepted

@[simp] theorem placeTag_holds (a : Authority) (crew mode expiry : Nat) :
    (placeTag a crew mode expiry s).1.seq.holds (placeTag a crew mode expiry s).1.act.state d := by
  simp only [placeTag]
  (repeat' split) <;> simp [h]

@[simp] theorem beginShutdown_holds : (beginShutdown s).seq.holds (beginShutdown s).act.state d := by
  unfold beginShutdown
  split
  · refine seqEvent_holds _ ?_ _
    exact h
  · exact h

@[simp] theorem changeLevel_holds (l : Level) (r : TestReading) : (changeLevel l r s).seq.holds (changeLevel l r s).act.state d := by
  simp only [changeLevel]
  (repeat' split) <;> simp [h]

@[simp] theorem battMeasure_holds (m : BattMeas) (r : TestReading) : (battMeasure m r s).seq.holds (battMeasure m r s).act.state d := by
  simp only [battMeasure, gradeReserve]
  split <;> simp [h]

@[simp] theorem releaseSelections_holds (t : Target) (waiting : List Src) :
    (releaseSelections t waiting s).seq.holds (releaseSelections t waiting s).act.state d := by
  unfold releaseSelections
  split
  · exact foldl_holds _ (fun x _ hx => seqEvent_holds x hx _) _ _ h
  · exact h

@[simp] theorem completeCommit_holds (b : StageBuf) (reply : Bool) :
    (completeCommit b reply s).seq.holds (completeCommit b reply s).act.state d := by
  simp only [completeCommit]
  split <;> simp [h]

@[simp] theorem selectGroup_holds (g : Nat) (src : Src) : (selectGroup g src s).seq.holds (selectGroup g src s).act.state d := by
  unfold selectGroup
  (repeat' split) <;> simp [h]

@[simp] theorem takeBeacon_holds (b : Beacon) : (takeBeacon b s).seq.holds (takeBeacon b s).act.state d := by
  simp only [takeBeacon, takeCommands, takeCommand, executeCommand, ownCommand]
  (repeat' split) <;> simp [h]

/-! ### Host requests, which are served in a running part alone (spec/10 R183) -/

omit h in
@[simp] theorem seqEvent_seq_sound (h : s.seq.sound) (e : SeqEvent) : (seqEvent e s).seq.sound := by
  simpa using seqEvent_holds s (h.holds _) e

omit h in
@[simp] theorem placeTag_seq_sound (h : s.seq.sound) (a : Authority) (crew mode expiry : Nat) :
    (placeTag a crew mode expiry s).1.seq.sound := by
  simpa using placeTag_holds s (h.holds _) a crew mode expiry

omit h in
@[simp] theorem selectGroup_seq_sound (h : s.seq.sound) (g : Nat) (src : Src) : (selectGroup g src s).seq.sound := by
  simpa using selectGroup_holds s (h.holds _) g src

omit h in
@[simp] theorem serve_seq_sound (h : s.seq.sound) (a : Authority) (r : Request) : (serve a r s).seq.sound := by
  unfold serve serveMechFailClear serveTagPlace
  (repeat' split) <;> simp [h]

omit h in
@[simp] theorem serveNext_seq_sound (h : s.seq.sound) : (serveNext s).seq.sound := by
  unfold serveNext
  split <;> simp [h]

theorem pumpFor_holds (n : Nat) (hr : s.stage = .running → d = true) : (pumpFor n s).seq.holds (pumpFor n s).act.state d := by
  induction n generalizing s with
  | zero => exact h
  | succ n ih =>
    unfold pumpFor
    split
    · rename_i hserve
      simp only [mayServe, Bool.and_eq_true, beq_iff_eq] at hserve
      obtain rfl := hr hserve.1.1
      exact ih _ (by simpa using serveNext_seq_sound s (by simpa using h)) fun _ => rfl
    · exact h

theorem pump_holds (hr : s.stage = .running → d = true) : (pump s).seq.holds (pump s).act.state d := pumpFor_holds s h 5 hr

theorem receive_holds (f : RxFrame) (hr : s.stage = .running → d = true) : (receive f s).seq.holds (receive f s).act.state d := by
  unfold receive
  split
  · exact h
  · exact pump_holds _ (by simpa using h) (by simpa using hr)

theorem receiveBytes_holds (n : Nat) (bs : Bytes) (hr : s.stage = .running → d = true) :
    (receiveBytes n bs s).seq.holds (receiveBytes n bs s).act.state d := by
  induction n generalizing bs s with
  | zero => exact h
  | succ n ih =>
    unfold receiveBytes
    split
    · exact ih s h _ hr
    · exact h
    · exact ih _ (receive_holds s h _ hr) _ (by simpa using hr)

theorem feed_holds (bytes : Bytes) (hr : s.stage = .running → d = true) : (feed bytes s).seq.holds (feed bytes s).act.state d := by
  unfold feed
  split
  · exact h
  · exact receiveBytes_holds s h _ _ hr

/-! ### Contacts and the capacitor: a pulse means that SEQ has decided -/

omit h in
@[simp] theorem endByPosition_stage (p : Position) (fin : PulseEnd) : (endByPosition p fin s).stage = s.stage := by
  unfold endByPosition
  split <;> simp

omit h in
@[simp] theorem changePosition_stage (p : Position) (fin : PulseEnd) : (changePosition p fin s).stage = s.stage := by
  simp [changePosition]

@[simp] theorem endByPosition_holds (p : Position) (fin : PulseEnd) :
    (endByPosition p fin s).seq.holds (endByPosition p fin s).act.state d := by
  unfold endByPosition
  split
  case h_4 => exact h
  all_goals
    rename_i ha
    obtain rfl := h.decided_of (Or.inr (by simp [ha]))
    simp_all

@[simp] theorem changePosition_holds (p : Position) (fin : PulseEnd) :
    (changePosition p fin s).seq.holds (changePosition p fin s).act.state d :=
  seqEvent_holds _ (endByPosition_holds { s with act := { s.act with position := p } } h p fin) _

@[simp] theorem endSpent_holds (volts : Nat) : (endSpent volts s).seq.holds (endSpent volts s).act.state d := by
  unfold endSpent
  split
  · rename_i hspent
    obtain rfl := h.decided_of (Or.inr (by simp [(Act.spent_iff _).1 hspent]))
    simp_all
  · exact h

@[simp] theorem releaseHeld_holds : (releaseHeld s).seq.holds (releaseHeld s).act.state d := by
  unfold releaseHeld
  split
  · rename_i hheld
    obtain rfl := h.decided_of (Or.inr (by simp [hheld.1]))
    simpa [beginTrip] using h
  · exact h

omit h in
@[simp] theorem rechargeReview_keeps (before : Bool) :
    (rechargeReview before s).stage = s.stage ∧ (rechargeReview before s).seq = s.seq ∧
    (rechargeReview before s).act = s.act := by
  unfold rechargeReview
  (repeat' split) <;> simp

omit h in
@[simp] theorem endSpent_stage (volts : Nat) : (endSpent volts s).stage = s.stage := by
  unfold endSpent
  split <;> simp

omit h in
@[simp] theorem releaseHeld_stage : (releaseHeld s).stage = s.stage := by
  unfold releaseHeld
  split <;> simp

omit h in
@[simp] theorem measureCap_stage (volts : Nat) : (measureCap volts s).stage = s.stage := by
  simp only [measureCap]
  split <;> simp

/-- A measurement is told SEQ where recharge demand clears (R55; spec/04 R82). -/
@[simp] theorem measureCap_holds (volts : Nat) : (measureCap volts s).seq.holds (measureCap volts s).act.state d := by
  have hacts (x : State) (hx : x.seq.holds x.act.state d) (before : Bool) :
      (rechargeReview before (releaseHeld (endSpent (clampVolts volts) x))).seq.holds
        (rechargeReview before (releaseHeld (endSpent (clampVolts volts) x))).act.state d := by
    simp [hx]
  simp only [measureCap]
  split
  · exact seqEvent_holds _ (hacts _ (by exact h) _) _
  · exact hacts _ (by exact h) _

end

/-! ### The start reading (R66) -/

/-- The start decides between states that need no timer, with a cause in LOCKOUT alone. -/
theorem startDecision_fits (p : Position) (mech : Bool) (lockout : Option Cause) :
    ((startDecision p mech lockout).2.isSome ↔ (startDecision p mech lockout).1 = .lockout) ∧
    (startDecision p mech lockout).1 ∈ [SeqState.mechFail, .lockout, .closed] := by
  unfold startDecision
  split_ifs
  · simp
  · cases p <;> simp

@[simp] theorem decideStart_seq (p : Position) (s : State) :
    (decideStart p s).seq = { s.seq with
      state := (startDecision p s.act.mech s.sst.store.lockout).1
      cause := (startDecision p s.act.mech s.sst.store.lockout).2 } := by
  simp [decideStart]

@[simp] theorem release_keeps (x : Held) (s : State) :
    (release x s).stage = s.stage ∧ (release x s).peu = s.peu ∧ (release x s).seq = s.seq ∧ (release x s).act = s.act := by
  unfold release
  split <;> simp

/-- READY, the RESTART record and what waited for it leave elements, SEQ and ACT alone, and the part runs. -/
@[simp] theorem announceStart_keeps (k : StartKind) (s : State) :
    (announceStart k s).stage = .running ∧ (announceStart k s).peu = s.peu ∧ (announceStart k s).seq = s.seq ∧
    (announceStart k s).act = s.act := by
  have released (l : List Held) (x : State) :
      (l.foldl (fun t y => release y t) x).stage = x.stage ∧ (l.foldl (fun t y => release y t) x).peu = x.peu ∧
      (l.foldl (fun t y => release y t) x).seq = x.seq ∧ (l.foldl (fun t y => release y t) x).act = x.act := by
    induction l generalizing x with
    | nil => exact ⟨rfl, rfl, rfl, rfl⟩
    | cons y rest ih => simpa using ih (release y x)
  simp [announceStart, released]

theorem takeHeldEvents_seq_sound (s : State) (h : s.seq.fits) : (takeHeldEvents s).seq.sound :=
  foldl_seq_sound _ (fun t e ht => takeEvent_seq_sound t ht e) _ _ ⟨h, rfl⟩

@[simp] theorem takeHeldEvents_stage (s : State) : (takeHeldEvents s).stage = s.stage := by
  have taken (l : List SeqEvent) (x : State) : (l.foldl (fun t e => takeEvent e t) x).stage = x.stage := by
    induction l generalizing x with
    | nil => rfl
    | cons e rest ih => simpa using ih (takeEvent e x)
  simp [takeHeldEvents, taken]

/-- From the placeholder LOCKOUT, in which no timer runs, the decision leaves SEQ's items fitting. -/
theorem decideStart_fits (p : Position) (s : State) (h : s.seq.fits) (hs : s.seq.state = .lockout) : (decideStart p s).seq.fits := by
  obtain ⟨hshots, -, hdead, hdeadNo, hhold, hreason, hreclaim, -⟩ := h
  obtain ⟨hcause, hstate⟩ := startDecision_fits p s.act.mech s.sst.store.lockout
  simp only [hs, reduceCtorEq, iff_false] at hdead hdeadNo hhold hreason hreclaim
  generalize hx : (startDecision p s.act.mech s.sst.store.lockout).1 = x at hcause hstate
  simp only [Seq.fits, decideStart_seq, hx]
  cases x <;> simp_all

/-- The start reading makes SEQ sound, and the part runs. -/
theorem startReading_sound (k : StartKind) (p : Position) (s : State) (h : s.seq.fits) (hs : s.seq.state = .lockout) :
    (startReading k p s).seq.sound ∧ (startReading k p s).stage = .running := by
  let x := takeHeldEvents (announceStart k (decideStart p { s with act := { s.act with position := p, startRead := true } }))
  have hx : x.seq.sound := by
    refine takeHeldEvents_seq_sound _ ?_
    simp only [announceStart_keeps]
    exact decideStart_fits p _ h hs
  exact ⟨(Seq.holds_true _ _).1 (pump_holds x (hx.holds _) fun _ => rfl), by simp [startReading]⟩

/-! ### The commands -/

/-- What keeps the stage and what SEQ holds keeps SEQ sound. -/
theorem seqSound_of_holds {s t : State} (h : seqSound s) (hheld : t.seq.holds t.act.state s.seq.decided) (hstage : t.stage = s.stage) :
    seqSound t := by
  rw [seqSound_iff] at h ⊢
  rw [hheld.2.1, hstage]
  exact ⟨hheld, h.2⟩

/-- An event leaves SEQ sound, whether it happens or not (log 4). -/
theorem happens_seqSound {can : Bool} {after s t : State} (h : seqSound s) (ht : happens can after s = .next t)
    (ha : can = true → after.seq.holds after.act.state s.seq.decided ∧ after.stage = s.stage) : seqSound t := by
  cases can <;> cases ht
  · exact h
  · obtain ⟨hheld, hstage⟩ := ha rfl
    exact seqSound_of_holds h hheld hstage

theorem happens_of_seqSound {can : Bool} {after s t : State} (h : seqSound s) (ht : happens can after s = .next t)
    (ha : seqSound after) : seqSound t := by
  cases can <;> cases ht
  · exact h
  · exact ha

/-- A part whose running state has ended holds the undecided SEQ and an ACT that is IDLE (R66, spec/04 R85). -/
theorem blank_seqSound (stage : Stage) (store : Store) (connected : Bool) (cap pulses : Nat) (pending : List Instr)
    (hs : stage ≠ .running) : seqSound (.blank stage store connected cap pulses pending) := by
  simp [seqSound, hs, Seq.undecided, Act.idle]

section
variable {s t : State} (h : seqSound s)
include h

theorem seqSound.held : s.seq.holds s.act.state s.seq.decided := ((seqSound_iff s).1 h).1

theorem seqSound.decided_of_running (hr : s.stage = .running) : s.seq.decided = true := ((seqSound_iff s).1 h).2.2 hr

/-- An event after which waiting host requests are served. -/
theorem happens_pump_seqSound {can : Bool} {after : State} (ht : happens can (pump after) s = .next t)
    (ha : can = true → after.seq.holds after.act.state s.seq.decided) (hstage : after.stage = s.stage) : seqSound t :=
  happens_seqSound h ht fun hc =>
    ⟨pump_holds _ (ha hc) fun hr => h.decided_of_running (hstage ▸ hr), by simpa using hstage⟩

theorem updateWhen_seqSound {can : Bool} {block : List SampleSet} (ht : updateWhen can block s = .next t) : seqSound t := by
  unfold updateWhen at ht
  split at ht
  · refine happens_seqSound h ht fun _ => ?_
    split
    · exact ⟨pump_holds _ (magnitudeUpdate_holds s h.held block) fun hr => h.decided_of_running (by simpa using hr), by simp⟩
    · exact ⟨h.held, rfl⟩
  · cases ht

theorem measureWhen_seqSound {can : Bool} {m : BattMeas} {r : TestReading} (ht : measureWhen can m r s = .next t) : seqSound t := by
  refine happens_seqSound h ht fun _ => ?_
  split
  · exact ⟨pump_holds _ (battMeasure_holds s h.held m r) fun hr => h.decided_of_running (by simpa [battMeasure] using hr),
      by simp [battMeasure]⟩
  · exact ⟨h.held, rfl⟩

theorem completeMinute_seqSound {can : Bool} (ht : happens can (completeMinute s) s = .next t) : seqSound t :=
  happens_seqSound h ht fun _ => by simpa using h.held

/-- A timer of SEQ ends in a state that SEQ is in after its decision alone (R52, R54, R59). -/
theorem timer_seqSound {can : Bool} {after : State} (ht : happens can after s = .next t) (hs : can = true → s.seq.state ≠ .lockout)
    (hstage : after.stage = s.stage) (ha : can = true → s.seq.sound → after.seq.sound) : seqSound t := by
  refine happens_seqSound h ht fun hc => ?_
  have hd := h.held.decided_of (Or.inl (hs hc))
  have hheld := h.held
  rw [hd, Seq.holds_true] at hheld
  exact ⟨hd ▸ (ha hc hheld).holds _, hstage⟩

/-- A pulse ends after SEQ's decision alone. -/
theorem pulseEnd_seqSound {a : ActState} {after : State} (ht : happens (s.act.state == a) (pump after) s = .next t) (ha : a ≠ .idle)
    (hstage : after.stage = s.stage) (hsound : s.seq.sound → after.seq.sound) : seqSound t := by
  refine happens_pump_seqSound h ht (fun hc => ?_) hstage
  have hd := h.held.decided_of (Or.inr (by simpa [beq_iff_eq.1 hc] using ha))
  have hheld := h.held
  rw [hd, Seq.holds_true] at hheld
  exact hd ▸ (hsound hheld).holds _

theorem startReading_seqSound (k : StartKind) (p : Position) (hk : s.stage = .starting k) (u : State) (hu : u.seq = s.seq) :
    seqSound (startReading k p u) := by
  have hd : s.seq.decided = false := by
    have hiff := ((seqSound_iff s).1 h).2
    simpa [hk] using hiff
  obtain ⟨hfits, -, hplace⟩ := h.held
  obtain ⟨hsound, hrun⟩ := startReading_sound k p u (hu ▸ hfits) (hu ▸ (hplace hd).1)
  rw [seqSound_iff, hsound.2, hrun]
  exact ⟨hsound.holds _, by simp⟩

/-- A position formed from the contacts: the start reading in a start, else at most a change (R66, spec/04 R69, R70). -/
theorem contactRead_seqSound (c : Contact) (x : ContactState) (ms : Nat) (fin : PulseEnd) : seqSound (contactRead c x ms fin s) := by
  have hread : (readContact c x ms s.act).state = s.act.state := by cases c <;> rfl
  have hu : seqSound { s with act := readContact c x ms s.act } := by
    rw [seqSound_iff] at h ⊢
    simpa [hread] using h
  simp only [contactRead]
  split
  · unfold takePosition
    split
    · rename_i k hk
      exact startReading_seqSound h k _ hk _ rfl
    · split
      · exact hu
      · exact happens_pump_seqSound hu (can := true) rfl (fun _ => changePosition_holds _ hu.held _ _)
          (by simp)
  · exact hu

/-- A host request that arrives, whichever it is. -/
theorem receive_next_seqSound {f : RxFrame} (ht : (Host.Outcome.next (receive f s) : Result) = .next t) : seqSound t := by
  cases ht
  exact seqSound_of_holds h (receive_holds s h.held f h.decided_of_running) (by simp)

end

theorem exec_seqSound (c : Instr) (s t : State) (h : seqSound s) (ht : exec c s = .next t) : seqSound t := by
  have same {can : Bool} {after : State} (hx : happens can after s = .next t) (hstage : after.stage = s.stage)
      (hseq : after.seq = s.seq) (hact : after.act = s.act) : seqSound t :=
    happens_seqSound h hx fun _ => ⟨by rw [hseq, hact]; exact h.held, hstage⟩
  cases c with
  | coldStart => cases ht; exact blank_seqSound _ _ _ _ _ _ (by simp)
  | startDelayEnd =>
    change execStartDelayEnd _ s = _ at ht
    unfold execStartDelayEnd at ht
    split at ht <;> cases ht
    · simp [seqSound, startBlocks, Seq.undecided, startAct, Act.idle]
    all_goals exact h
  | warmStart =>
    refine happens_of_seqSound h ht ?_
    simp [seqSound, warmStart, Seq.undecided, Act.idle]
  | supplyLoss => exact happens_seqSound h ht fun _ => ⟨h.held, rfl⟩
  | holdUpEnd => exact happens_of_seqSound h ht (blank_seqSound _ _ _ _ _ _ (by simp))
  | magnitudeUpdate => exact updateWhen_seqSound h ht
  | liveQualified => exact updateWhen_seqSound h ht
  | deadQualified => exact updateWhen_seqSound h ht
  | elementOperate => exact updateWhen_seqSound h ht
  | deadTimerExpiry =>
    exact timer_seqSound h ht (fun hc => by simp [beq_iff_eq.1 hc]) (by simp)
      fun hc hs => deadTimeEnd_seq_sound s hs (beq_iff_eq.1 hc)
  | holdTimerExpiry =>
    exact timer_seqSound h ht (fun hc => by simp [beq_iff_eq.1 hc]) (by simp) fun _ hs => holdEnd_seq_sound s hs
  | reclaimTimerExpiry =>
    exact timer_seqSound h ht (fun hc hs => by simp [hs] at hc) (by simp) fun _ hs => enterClosed_sound s hs.2
  | contactDebounced => exact happens_of_seqSound h ht (contactRead_seqSound h _ _ _ _)
  | startReadingTimeout =>
    change execStartReadingTimeout s = _ at ht
    unfold execStartReadingTimeout at ht
    split at ht <;> cases ht
    · exact startReading_seqSound h _ _ (by assumption) s rfl
    all_goals exact h
  | capacitorMeasurement => exact happens_seqSound h ht fun _ => ⟨measureCap_holds s h.held _, by simp⟩
  | tripPulseTimeout => exact pulseEnd_seqSound h ht (by decide) (by simp) fun hs => endTrip_seq_sound s hs _ (by decide) _ _
  | closePulseTimeout => exact pulseEnd_seqSound h ht (by decide) (by simp) fun hs => endClose_seq_sound s hs _ _ _
  | minuteEvent => exact completeMinute_seqSound h ht
  | tagExpiry => exact completeMinute_seqSound h ht
  | tagHourlyWrite => exact completeMinute_seqSound h ht
  | batteryMeasurement => exact measureWhen_seqSound h ht
  | absorbTimeLimit => exact measureWhen_seqSound h ht
  | floatLowRunLimit => exact measureWhen_seqSound h ht
  | faultClearRunComplete => exact measureWhen_seqSound h ht
  | resyncRunComplete => exact measureWhen_seqSound h ht
  | chargeCountWrite => exact measureWhen_seqSound h ht
  | tripWaitTimeout => exact same ht rfl rfl rfl
  | partStop => exact happens_of_seqSound h ht (blank_seqSound _ _ _ _ _ _ (by simp))
  | scheduledTestDue => exact completeMinute_seqSound h ht
  | settlingComplete => exact same ht rfl rfl rfl
  | loadTestComplete => exact same ht (by simp) (by simp) (by simp)
  | testAbandonTimeout => exact same ht (by simp) (by simp) (by simp)
  | radioPacketReceived bytes =>
    change execRadioPacketReceived bytes s = _ at ht
    unfold execRadioPacketReceived at ht
    split at ht
    · exact happens_pump_seqSound h ht (fun _ => takeBeacon_holds s h.held _) (by simp)
    · cases ht; exact h
  | beaconMissCheck => exact same ht rfl rfl rfl
  | ownSlotStart => exact same ht (by simp) (by simp) (by simp)
  | radioTransmitEnd => cases ht; exact h
  | statusIntervalDue => exact completeMinute_seqSound h ht
  | commitComplete =>
    change execCommitComplete s = _ at ht
    unfold execCommitComplete at ht
    split at ht
    · exact happens_pump_seqSound (can := true) h ht (fun _ => completeCommit_holds s h.held _ _) (by simp)
    all_goals cases ht; exact h
  | retainedWriteComplete =>
    change execRetainedWriteComplete s = _ at ht
    unfold execRetainedWriteComplete at ht
    split at ht <;> cases ht <;> exact h
  | hostFrameReceived =>
    cases ht
    exact seqSound_of_holds h (feed_holds s h.held _ h.decided_of_running) (by simp)
  | frameByteTimeout => cases ht; exact h
  | keySwitchDebounced => exact same ht rfl rfl rfl
  | hostFrameTransmitted =>
    change execHostFrameTransmitted s = _ at ht
    unfold execHostFrameTransmitted at ht
    split at ht <;> cases ht <;> exact h
  | timeBaseSecond =>
    change execTimeBaseSecond s = _ at ht
    unfold execTimeBaseSecond at ht
    split at ht
    · exact same (can := true) (after := runSecond s) ht (by simp) (by simp) (by simp)
    · exact same (can := true) (after := runSecond s) ht (by simp) (by simp) (by simp)
    all_goals cases ht; exact h
  | _ => exact receive_next_seqSound h ht

/-- One millisecond runs SEQ's timers down and stops none (R59). -/
theorem tick_seqSound (s : State) (h : seqSound s) : seqSound (tick s) := by
  unfold tick
  dsimp only
  split
  · simpa [seqSound, Seq.tick, Act.tick, down, apply_ite Option.isSome] using h
  · exact h

/-- Settles O20, by what every operation does to SEQ: it leaves SEQ alone, hands it an event that waits before the decision, or enters a
state with the items of that state. -/
theorem seqStaysSound : Obligations.SeqStaysSound := by
  intro s t h ht
  unfold step at ht
  split at ht
  · rename_i c rest _
    exact exec_seqSound c (s.withPending rest) t h ht
  · unfold idle at ht
    split at ht
    · exact exec_seqSound _ s t h ht
    · cases ht
      exact tick_seqSound s h

end Sys2Proof.Machine
end

section
/-! PROOFS. A step with nothing commanded (spec/00 section 4.5, spec/03 section 3.4): the part's own due event, or one millisecond in
every count; O2. -/

namespace Sys2Proof.Machine

theorem step_without_commands (s : State) (h : s.pending = []) : step s = idle s := by simp [step, h]

theorem idle_due (s : State) (c : Instr) (h : due s = some c) : idle s = exec c s := by simp [idle, h]

theorem idle_ticks (s : State) (h : due s = none) : idle s = .next (tick s) := by simp [idle, h]

theorem tick_started (s : State) (h : s.stage.started = true) :
    tick s = { s with sst := s.sst.tick, act := s.act.tick, seq := s.seq.tick s.peu.timing, bcu := s.bcu.tick, rcc := s.rcc.tick } :=
  if_pos h

theorem tick_unstarted (s : State) (h : s.stage.started = false) : tick s = { s with sst := s.sst.tick } := by simp [tick, h]

/-- The pulse timer runs in a pulse alone, up to the pulse's length (R71). -/
theorem Act.tick_eq (a : Act) : a.tick = { a with
    pulseMs := if a.state = .tripPulse then a.pulseMs.map fun n => min 120 (n + 1)
      else if a.state = .closePulse then a.pulseMs.map fun n => min 200 (n + 1) else a.pulseMs
    heldMs := if a.state = .tripHeld then a.heldMs.map fun n => n + 1 else a.heldMs
    startMs := if a.startRead then a.startMs else min 100 (a.startMs + 1) } := by
  unfold Act.tick
  cases ha : a.state <;> rfl

/-- Settles O2: a step with nothing commanded is the due event, or a tick, whose parts are read one by one. -/
theorem emptyQueueRuns : Obligations.EmptyQueueRuns := by
  intro s hp
  refine ⟨fun c hc => ?_, fun hd hs => ?_, fun hd hs => ⟨tick s, ?_, ?_⟩⟩
  · rw [step_without_commands s hp, idle_due s c hc]
  · rw [step_without_commands s hp, idle_ticks s hd, tick_unstarted s hs]
    rfl
  · rw [step_without_commands s hp, idle_ticks s hd]
  · rw [tick_started s hs]
    refine ⟨fun n hn => ?_, fun n hn => ?_, fun n hn => ?_, rfl, Act.tick_eq s.act, rfl, rfl, rfl⟩
    · simp [Seq.tick, down, hn]
    · simp [Seq.tick, down, hn]
    · cases ht : s.peu.timing <;> simp [Seq.tick, down, hn]

end Sys2Proof.Machine
end

section
/-! SUPPORT. The records that an event makes, in order (spec/07 R136): ORL's log, which every operation leaves alone or adds records to. -/

namespace Sys2Proof.Machine

/-- What numbers, stamps and holds the records, apart from the rest of ORL. -/
def Orl.log (o : Orl) : Orl := { Orl.idle with ring := o.ring, next := o.next, time := o.time, valid := o.valid }

@[simp] theorem Orl.enter_log (o : Orl) (body : RecBody) : (o.enter body).log = o.log.enter body := by
  simp [Orl.enter, Orl.log]

@[simp] theorem foldl_enter_log (bodies : List RecBody) (o : Orl) : (bodies.foldl Orl.enter o).log = bodies.foldl Orl.enter o.log := by
  induction bodies generalizing o with
  | nil => rfl
  | cons b rest ih => simpa using ih (o.enter b)

/-- t's log is s's with these records. -/
def logs (bodies : List RecBody) (s t : State) : Prop := t.orl.log = bodies.foldl Orl.enter s.orl.log

theorem logs_of_orl {bodies : List RecBody} {s t : State} (h : t.orl = bodies.foldl Orl.enter s.orl) : logs bodies s t := by
  simp [logs, h]

theorem logs.trans {xs ys : List RecBody} {s t u : State} (h : logs xs s t) (h' : logs ys t u) : logs (xs ++ ys) s u := by
  rw [logs, List.foldl_append, ← h]
  exact h'

theorem logs_complete (body : RecBody) (s : State) (hs : s.stage = .running) : logs [body] s (complete body s) :=
  logs_of_orl (complete_orl_running body s hs)

theorem logs_completeAll (bodies : List RecBody) (s : State) (hs : s.stage = .running) : logs bodies s (completeAll bodies s) :=
  logs_of_orl (completeAll_orl_running bodies s hs)

/-- Up to 64 records of an event all stand in the ring, numbered on from the event's first (R136). -/
theorem logs.mem_ring {bodies : List RecBody} {s t : State} (h : logs bodies s t) (hlen : bodies.length ≤ 64) {i : Nat} {b : RecBody}
    (hb : bodies[i]? = some b) : ⟨recordAfter^[i] s.orl.next, b, s.orl.time, s.orl.valid⟩ ∈ t.orl.ring := by
  obtain ⟨l, hl⟩ := foldl_enter_ring bodies s.orl.log hlen
  have hring : t.orl.log.ring = (bodies.foldl Orl.enter s.orl.log).ring := congrArg Orl.ring h
  change _ ∈ t.orl.log.ring
  rw [hring, hl]
  exact List.mem_append_right _ (List.mem_iff_getElem?.2 ⟨i, by simp [List.getElem?_mapIdx, hb, Orl.log]⟩)

theorem logs.first {body : RecBody} {rest : List RecBody} {s t : State} (h : logs (body :: rest) s t) (hlen : rest.length < 64) :
    recordedFirst body s t :=
  h.mem_ring (Nat.succ_le_of_lt hlen) (i := 0) rfl

theorem logs.exists_mem {bodies : List RecBody} {s t : State} (h : logs bodies s t) (hlen : bodies.length ≤ 64) {b : RecBody}
    (hb : b ∈ bodies) : ∃ x ∈ t.orl.ring, x.body = b := by
  obtain ⟨i, hi⟩ := List.mem_iff_getElem?.1 hb
  exact ⟨_, h.mem_ring hlen hi, rfl⟩

/-- A record in the ring stood there before or is one of the event's. -/
theorem logs.mem_of_ring {bodies : List RecBody} {s t : State} (h : logs bodies s t) {x : Record} (hx : x ∈ t.orl.ring) :
    x ∈ s.orl.ring ∨ x.body ∈ bodies := by
  have hring : t.orl.log.ring = (bodies.foldl Orl.enter s.orl.log).ring := congrArg Orl.ring h
  have entered (l : List RecBody) (o : Orl) (hl : x ∈ (l.foldl Orl.enter o).ring) : x ∈ o.ring ∨ x.body ∈ l := by
    induction l generalizing o with
    | nil => exact Or.inl hl
    | cons b rest ih =>
      rcases ih (o.enter b) hl with h1 | h1
      · have h2 := List.mem_of_mem_drop h1
        simp only [List.mem_append, List.mem_singleton] at h2
        rcases h2 with h2 | rfl
        · exact Or.inl h2
        · simp
      · exact Or.inr (List.mem_cons_of_mem b h1)
  exact entered bodies s.orl.log (hring ▸ (hx : x ∈ t.orl.log.ring))

/-- Of one record t's newest is that one. -/
theorem logs.recorded {body : RecBody} {s t : State} (h : logs [body] s t) : Machine.recorded body s t := by
  have hring : t.orl.log.ring = (s.orl.log.enter body).ring := congrArg Orl.ring h
  change t.orl.log.ring.getLast? = _
  rw [hring]
  exact lastN_getLast? 64 _ _ (by decide)

/-- What records in a row leave alone of ORL. -/
theorem foldl_enter_keeps_more (bodies : List RecBody) (o : Orl) :
    (bodies.foldl Orl.enter o).opCount = o.opCount ∧ (bodies.foldl Orl.enter o).capture = o.capture ∧
    (bodies.foldl Orl.enter o).part = o.part := by
  induction bodies generalizing o with
  | nil => exact ⟨rfl, rfl, rfl⟩
  | cons b rest ih => exact ih (o.enter b)

/-! ### The records of an entry -/

/-- The GROUP_CHANGE record of a pending group (spec/03 R65). -/
def groupRecords (s : State) : List RecBody := s.seq.pendingGroup.toList.map (.groupChange s.sst.active)

theorem groupRecords_length (s : State) : (groupRecords s).length ≤ 1 := by
  unfold groupRecords
  cases s.seq.pendingGroup <;> simp

theorem applyGroup_orl (g : Nat) (s : State) (hs : s.stage = .running) :
    (applyGroup g s).orl = s.orl.enter (.groupChange s.sst.active g) := by
  simp [applyGroup, complete_orl_running, hs]

theorem applyPending_orl (s : State) (hs : s.stage = .running) : (applyPending s).orl = (groupRecords s).foldl Orl.enter s.orl := by
  unfold applyPending groupRecords
  split <;> rename_i hg
  · simpa [hg] using applyGroup_orl _ s hs
  · simp [hg]

end Sys2Proof.Machine
end

section
/-! SUPPORT. What an entry to LOCKOUT leaves (spec/03 R43, R65), once for all the events that enter it. -/

namespace Sys2Proof.Machine

/-- A group application takes no queued write of another item away. -/
theorem applyPending_keeps_queued (i : RetItem) (s : State) (h : writeQueued i s) (hring : i.item ≠ 5) (hgroup : i.item ≠ 3) :
    writeQueued i (applyPending s) := by
  unfold applyPending
  split
  · exact queueWrite_keeps_queued _ _ _ (complete_keeps_queued _ _ _ h hring) hgroup
  · unfold takeHeld
    split
    · exact h
    · exact h

/-- The pending group becomes the active one (R65). -/
theorem applyPending_takes (s : State) (g : Nat) (hg : s.seq.pendingGroup = some g) : (applyPending s).sst.active = g := by
  simp [applyPending, hg, applyGroup]

theorem applyPending_active (s : State) (hg : s.seq.pendingGroup = none) : (applyPending s).sst.active = s.sst.active := by
  unfold applyPending takeHeld
  rw [hg]
  dsimp only
  split <;> simp

/-- A clearing is not undone by the group applied after it. -/
theorem applyPending_cleared {s x : State} (h : cleared s x) : cleared s (applyPending x) := fun e => by
  rw [applyPending_get x e ?_, h e]
  rw [h e]
  simp only [Elem.apply, Elem.clear]
  split_ifs <;> simp_all

/-- SEQ in LOCKOUT with its LOCKOUT record made and its write queued, before a pending group is applied. -/
def lockedUngrouped (c : Cause) (s : State) : State :=
  let s2 := seqTo .lockout { clearElements (stopTimers s) with seq := { s.seq.stopTimers with manual := false, cause := some c } }
  let s3 := complete (.lockout c s2.seq.shots) s2
  queueWrite (lockoutItem s3) s3

theorem enterLockout_eq (c : Cause) (s : State) : enterLockout c s = applyPending (lockedUngrouped c s) := rfl

theorem lockedUngrouped_leaves (c : Cause) (s : State) (hs : s.stage = .running) :
    (lockedUngrouped c s).stage = .running ∧ cleared s (lockedUngrouped c s) ∧ writeQueued (.lockout (some c)) (lockedUngrouped c s) ∧
    (lockedUngrouped c s).orl = s.orl.enter (.lockout c s.seq.shots) ∧ (lockedUngrouped c s).seq.pendingGroup = s.seq.pendingGroup ∧
    (lockedUngrouped c s).sst.active = s.sst.active := by
  refine ⟨by simpa [lockedUngrouped] using hs, fun e => ?_, ?_, ?_, by simp [lockedUngrouped, Seq.stopTimers], by simp [lockedUngrouped]⟩
  · simpa [lockedUngrouped] using clearElements_cleared s e
  · have hq := queueWrite_queued (.lockout (some c))
    simp [lockedUngrouped, lockoutItem, hq]
  · simp [lockedUngrouped, complete_orl_running, hs, Seq.stopTimers]

/-- The records of an entry: LOCKOUT, and the GROUP_CHANGE of a pending group. -/
theorem enterLockout_orl (c : Cause) (s : State) (hs : s.stage = .running) :
    (enterLockout c s).orl = (.lockout c s.seq.shots :: groupRecords s).foldl Orl.enter s.orl := by
  obtain ⟨hstage, -, -, horl, hgroup, hactive⟩ := lockedUngrouped_leaves c s hs
  rw [enterLockout_eq, applyPending_orl _ hstage, horl, groupRecords, hgroup, hactive]
  rfl

theorem enterLockout_queued (c : Cause) (s : State) (hs : s.stage = .running) : writeQueued (.lockout (some c)) (enterLockout c s) := by
  obtain ⟨-, -, hqueued, -⟩ := lockedUngrouped_leaves c s hs
  exact applyPending_keeps_queued _ _ hqueued (by simp [RetItem.item]) (by simp [RetItem.item])

theorem enterLockout_cleared (c : Cause) (s : State) (hs : s.stage = .running) : cleared s (enterLockout c s) := by
  obtain ⟨-, hcleared, -⟩ := lockedUngrouped_leaves c s hs
  exact applyPending_cleared hcleared

/-- Every entry to LOCKOUT in a running part (R43). -/
theorem enterLockout_entered (c : Cause) (s : State) (hs : s.stage = .running) : lockoutEntered c s (enterLockout c s) := by
  obtain ⟨-, -, -, -, hgroup, -⟩ := lockedUngrouped_leaves c s hs
  have hlogs := logs_of_orl (enterLockout_orl c s hs)
  have hlen := groupRecords_length s
  refine ⟨by simp [enterLockout_seq], by simp [enterLockout_seq, Seq.stopTimers], by simp [enterLockout_seq, Seq.stopTimers],
    by simp [enterLockout_seq, Seq.stopTimers], enterLockout_cleared c s hs, by simp [enterLockout_seq], by simp [enterLockout_seq],
    by simp [enterLockout_seq, Seq.stopTimers], hlogs.first (by omega), enterLockout_queued c s hs, fun g hg => ⟨?_, ?_, ?_⟩⟩
  · exact applyPending_takes _ g (hgroup.trans hg)
  · simp [enterLockout_seq]
  · exact hlogs.exists_mem (by simp only [List.length_cons]; omega) (by simp [groupRecords, hg])

/-- An entry to LOCKOUT is read off SEQ, the elements, the records and the store, before and after. -/
theorem lockoutEntered_congr {c : Cause} {s s' t t' : State} (h : lockoutEntered c s t)
    (hpeu : s'.peu = s.peu) (hseq : s'.seq = s.seq) (horl : s'.orl = s.orl) (hactive : s'.sst.active = s.sst.active)
    (hpeu' : t'.peu = t.peu) (hseq' : t'.seq = t.seq) (horl' : t'.orl = t.orl) (hsst' : t'.sst = t.sst) : lockoutEntered c s' t' := by
  simpa only [lockoutEntered, cleared, recordedFirst, writeQueued, hpeu, hseq, horl, hactive, hpeu', hseq', horl', hsst'] using h

end Sys2Proof.Machine
end

section
/-! SUPPORT and PROOFS. The reclose decision (spec/03 R52, R53): the checks in order, the request for the close, and what becomes of each
answer; O11. -/

namespace Sys2Proof.Machine

/-! ### The request for the close (R53, R76) -/

theorem reserveBars_iff (l : Level) : reserveBars l = true ↔ l = .conserve ∨ l = .exhausted := by simp [reserveBars]

theorem autoClose_refused (r : Res) (s : State) (h : closeRefusal .auto s = some r) : autoClose s = autoRefused r s := by
  simp [autoClose, h]

/-- An automatic close is refused for the first of R76's conditions that is not met. -/
theorem closeRefusal_auto (s : State) (hidle : s.act.state = .idle) :
    (s.act.mech = true → closeRefusal .auto s = some .mechFail) ∧
    (s.act.mech = false →
      (s.act.position = .unknown → closeRefusal .auto s = some .positionUnknown) ∧
      (s.act.position = .closed → closeRefusal .auto s = some .notLockedOut) ∧
      (s.act.position = .isOpen →
        (s.tag.table.tags ≠ [] → closeRefusal .auto s = some .tagNoClose ∨ closeRefusal .auto s = some .tagNoReclose) ∧
        (s.tag.table.tags = [] → reserveBars s.bcu.level = false →
          closeRefusal .auto s = if s.act.cap < closePermit then some .lowEnergy else none))) := by
  refine ⟨fun hm => ?_, fun hm => ⟨fun hp => ?_, fun hp => ?_, fun hp => ⟨fun ht => ?_, fun ht hb => ?_⟩⟩⟩
  · simp [closeRefusal, hidle, hm]
  · simp [closeRefusal, hidle, hm, hp]
  · simp [closeRefusal, hidle, hm, hp]
  · obtain ⟨x, hx⟩ := List.exists_mem_of_ne_nil _ ht
    by_cases hn : s.tag.table.tags.any (·.mode == .noClose) = true
    · exact Or.inl (by rw [closeRefusal]; simp [hidle, hm, hp, hn])
    · have hr : s.tag.table.tags.any (·.mode == .noReclose) = true := by
        refine List.any_eq_true.2 ⟨x, hx, ?_⟩
        cases hmode : x.mode with
        | noReclose => rfl
        | noClose => exact absurd (List.any_eq_true.2 ⟨x, hx, by simp [hmode]⟩) hn
      exact Or.inr (by rw [closeRefusal]; simp [hidle, hm, hp, hn, hr])
  · simp [closeRefusal, hidle, hm, hp, ht, hb]

theorem enterReclaimByHand_leaves (s : State) : reclaimByHand s (enterReclaimByHand s) := by
  simp [reclaimByHand, enterReclaimByHand_seq, Seq.stopTimers, Page.reclaimMs]

theorem enterHold_leaves (r : HoldReason) (ms : Nat) (s : State) : onHold r ms s (enterHold r ms s) := by
  simp [onHold, enterHold_seq]

theorem autoClose_begun (s : State) (h : closeRefusal .auto s = none) : closeBegun s (autoClose s) := by
  simp [closeBegun, autoClose, h, beginClose, Seq.stopTimers]

theorem autoClose_asked (s : State) (hs : s.stage = .running) (hidle : s.act.state = .idle) (hbar : reserveBars s.bcu.level = false) :
    closeAsked (fun c => lockoutEntered c s (autoClose s)) s (autoClose s) := by
  have hlock c := enterLockout_entered c s hs
  have refused {r : Res} (hr : closeRefusal .auto s = some r) := autoClose_refused r s hr
  obtain ⟨hmech, hclear⟩ := closeRefusal_auto s hidle
  refine ⟨fun hm => ?_, fun hm => ⟨fun hp => ?_, fun hp => ?_, fun hp => ⟨fun ht => ?_, fun ht => ⟨fun hcap => ?_, fun hcap => ?_⟩⟩⟩⟩
  · simpa only [refused (hmech hm), autoRefused] using hlock .mechCleared
  · simpa only [refused ((hclear hm).1 hp), autoRefused] using hlock .externalOpen
  · simpa only [refused ((hclear hm).2.1 hp), autoRefused] using enterReclaimByHand_leaves s
  · rcases ((hclear hm).2.2 hp).1 ht with hr | hr <;> simpa only [refused hr, autoRefused] using hlock .tag
  · exact autoClose_begun s ((((hclear hm).2.2 hp).2 ht hbar).trans (if_neg (Nat.not_lt.2 hcap)))
  · rw [refused ((((hclear hm).2.2 hp).2 ht hbar).trans (if_pos hcap)), autoRefused]
    split_ifs
    · rfl
    · exact enterHold_leaves .energy 30000 s

/-! ### The checks (R52) -/

theorem sourceCheck_missing (s : State) (h : s.sst.group.field 52 = 1 ∧ s.lsu.source.line ≠ .live) :
    sourceCheck s = if s.sst.group.field 53 = 0 then .lockout .sourceTimeout else .holdSource := by
  simp [sourceCheck, Page.liveSource, Page.sourceWaitMs, h]

theorem sourceCheck_met (s : State) (h : ¬ (s.sst.group.field 52 = 1 ∧ s.lsu.source.line ≠ .live)) : sourceCheck s = .close :=
  if_neg (by simpa [Page.liveSource] using h)

/-- The checks in order and what is made of each (R52); a retry for a source seen LIVE leaves the fourth out (R54). -/
theorem deadEnd_decided (withSource : Bool) (s : State) (hs : s.stage = .running) :
    recloseDecided withSource (fun c => lockoutEntered c s (deadEnd (deadEndChecks withSource s) s)) s
      (deadEnd (deadEndChecks withSource s) s) := by
  have hlock c := enterLockout_entered c s hs
  have notBarred (hb : ¬ (s.bcu.level = .conserve ∨ s.bcu.level = .exhausted)) : reserveBars s.bcu.level = false := by
    rwa [Bool.eq_false_iff, Ne, reserveBars_iff]
  have reached (hn : ¬ tripsToLockout s ≤ s.seq.shots) (hb : ¬ (s.bcu.level = .conserve ∨ s.bcu.level = .exhausted))
      (hl : s.lsu.load.line ≠ .live) : deadEndChecks withSource s = if withSource then sourceCheck s else .close := by
    simp [deadEndChecks, hn, notBarred hb, hl]
  refine ⟨fun hn => ?_, fun hn hb => ?_, fun hn hb hl => ?_, fun hn hb hl hsrc => ?_, fun hn hb hl hsrc hidle => ?_⟩
  · simpa [deadEndChecks, hn, deadEnd] using hlock .shots
  · simpa [deadEndChecks, hn, (reserveBars_iff _).2 hb, deadEnd] using hlock .conserve
  · simpa [deadEndChecks, hn, notBarred hb, hl, deadEnd] using hlock .loadLive
  · rw [reached hn hb hl, if_pos hsrc.1, sourceCheck_missing s hsrc.2]
    refine ⟨fun hwait => ?_, fun hwait => ?_⟩
    · simpa [hwait, deadEnd] using hlock .sourceTimeout
    · simpa [Nat.pos_iff_ne_zero.1 hwait, deadEnd, Page.sourceWaitMs] using enterHold_leaves .source (s.sst.group.field 53 * 1000) s
  · have hclose : deadEndChecks withSource s = .close := by
      rw [reached hn hb hl]
      cases withSource with
      | true => exact sourceCheck_met s (by simpa using hsrc)
      | false => rfl
    rw [hclose]
    exact autoClose_asked s hs hidle (notBarred hb)

/-- Two states that agree in all that the reclose decision reads. -/
structure decidesAlike (s s' : State) : Prop where
  shots : s'.seq.shots = s.seq.shots
  limit : tripsToLockout s' = tripsToLockout s
  level : s'.bcu.level = s.bcu.level
  lsu : s'.lsu = s.lsu
  group : s'.sst.group = s.sst.group
  tag : s'.tag = s.tag
  idle : s'.act.state = .idle ↔ s.act.state = .idle
  mech : s'.act.mech = s.act.mech
  position : s'.act.position = s.act.position
  cap : s'.act.cap = s.act.cap
  state : s'.seq.state = s.seq.state
  reason : s'.seq.holdReason = s.seq.holdReason
  retry : s.seq.state = .recloseHold → s'.seq = s.seq

theorem closeAsked_of {locked locked' : Cause → Prop} {s s' t : State} (h : closeAsked locked s t) (hlock : ∀ c, locked c → locked' c)
    (hs : decidesAlike s s') : closeAsked locked' s' t := by
  obtain ⟨hmech, hclear⟩ := h
  simp only [closeAsked, reclaimByHand, closeBegun, onHold, hs.mech, hs.position, hs.group, hs.tag, hs.cap, hs.shots, hs.state, hs.reason]
  refine ⟨fun hm => hlock _ (hmech hm), fun hm => ⟨fun hp => hlock _ ((hclear hm).1 hp), (hclear hm).2.1, fun hp => ?_⟩⟩
  obtain ⟨htagged, hfree⟩ := (hclear hm).2.2 hp
  refine ⟨fun ht => hlock _ (htagged ht), fun ht => ⟨(hfree ht).1, fun hcap => ?_⟩⟩
  have hlow := (hfree ht).2 hcap
  split_ifs at hlow ⊢ with hhold
  · rw [hs.retry hhold.1]
    exact hlow
  · exact hlow

/-- The decision of one state is that of another that it reads alike. -/
theorem recloseDecided_of {b : Bool} {locked locked' : Cause → Prop} {s s' t : State} (h : recloseDecided b locked s t)
    (hlock : ∀ c, locked c → locked' c) (hs : decidesAlike s s') : recloseDecided b locked' s' t := by
  obtain ⟨hshots, hbarred, hlive, hsource, hask⟩ := h
  simp only [recloseDecided, onHold, hs.shots, hs.limit, hs.level, hs.lsu, hs.group, hs.idle]
  exact ⟨fun hn => hlock _ (hshots hn), fun hn hb => hlock _ (hbarred hn hb), fun hn hb hl => hlock _ (hlive hn hb hl),
    fun hn hb hl hsrc => (hsource hn hb hl hsrc).imp_left fun hnone hzero => hlock _ (hnone hzero),
    fun hn hb hl hsrc hidle => closeAsked_of (hask hn hb hl hsrc hidle) hlock hs⟩

/-- Settles O11: the dead timer's end is the reclose decision with all its checks. -/
theorem deadTimeEndsByTheChecks : Obligations.DeadTimeEndsByTheChecks := by
  intro s hs hdead
  refine ⟨deadTimeEnd s, ?_, ?_⟩
  · change execDeadTimerExpiry s = _
    simp [execDeadTimerExpiry, happens, hdead]
  · exact recloseDecided_of (deadEnd_decided true { s with seq := { s.seq with deadLeft := some 0 } } hs) (fun c hc => hc)
      ⟨rfl, rfl, rfl, rfl, rfl, rfl, Iff.rfl, rfl, rfl, rfl, rfl, rfl, fun hhold => by simp [hdead] at hhold⟩

end Sys2Proof.Machine
end

section
/-! SUPPORT and PROOFS. RECLOSE_HOLD and RECLAIM (spec/03 R54, R55, R59, R84): the retries of a reclose on hold, and the ends of the hold
and reclaim timers; O12. -/

namespace Sys2Proof.Machine

/-! ### The retry when energy is there (R55; spec/04 R82, R84) -/

theorem exec_capacitorMeasurement (volts : Nat) (s : State) (hs : s.stage = .running) :
    exec (.capacitorMeasurement volts) s = .next (measureCap volts s) := by
  change execCapacitorMeasurement volts s = _
  simp [execCapacitorMeasurement, whenStarted, happens, hs, Stage.started]

@[simp] theorem resumeTest_level (s : State) : (resumeTest s).bcu.level = s.bcu.level := by
  unfold resumeTest Bcu.settle Bcu.chargerToTest
  dsimp only
  split_ifs
  · split <;> rfl
  · rfl

/-- The state with the capacitor and the converter as a measurement forms them (spec/04 R82, R83). -/
def State.measured (volts : Nat) (s : State) : State :=
  { s with act := { s.act with cap := clampVolts volts, converter := converterStep s.act.converter (clampVolts volts) } }

/-- With ACT IDLE a measurement that clears recharge demand may resume a test, and raises the energy-ready event. -/
theorem measureCap_readies (volts : Nat) (s : State) (hidle : s.act.state = .idle) (hlow : s.act.cap < 250) (hhigh : 250 ≤ volts) :
    measureCap volts s = seqEvent .energyReady (resumeTest (s.measured volts)) := by
  have hbefore : s.act.rechargeDemand = true := decide_eq_true hlow
  have hafter : (s.measured volts).act.rechargeDemand = false := decide_eq_false (by
    simp only [State.measured, clampVolts, closePermit]
    omega)
  have hspent : endSpent (clampVolts volts) (s.measured volts) = s.measured volts :=
    endSpent_of_not_spent _ _ (by simp [Act.spent, State.measured, hidle])
  have hheld : releaseHeld (s.measured volts) = s.measured volts := by simp [releaseHeld, State.measured, hidle]
  have hreview : rechargeReview true (s.measured volts) = resumeTest (s.measured volts) := by simp [rechargeReview, hafter]
  change (if s.act.rechargeDemand = true ∧ (s.measured volts).act.rechargeDemand = false
    then seqEvent .energyReady (rechargeReview s.act.rechargeDemand (releaseHeld (endSpent (clampVolts volts) (s.measured volts)))) else _) = _
  rw [if_pos ⟨hbefore, hafter⟩, hspent, hheld, hbefore, hreview]

/-- The energy-ready event makes the checks again (R55). -/
theorem energy_retries (s : State) (hd : s.seq.decided = true) (hs : s.seq.state = .recloseHold) (hr : s.seq.holdReason = some .energy) :
    seqEvent .energyReady s = deadEnd (deadEndChecks true s) s := by
  rw [seqEvent_decided _ _ hd]
  exact if_pos ⟨hs, hr⟩

/-! ### The retry when the source is live (R54) -/

/-- An update without a protection event in RECLOSE_HOLD is the change of the line states alone. -/
theorem magnitudeUpdate_on_hold (block : List SampleSet) (s : State) (hp : noProtectionEvent block s) (hs : s.seq.state = .recloseHold) :
    ∃ p, magnitudeUpdate block s = lineUpdate { s with lsu := s.lsu.push block, peu := p } := by
  obtain ⟨hcause, hdep⟩ := hp
  let p := (peuInputs { s with lsu := s.lsu.push block }).update s.peu
  have hpeu : peuUpdate { s with lsu := s.lsu.push block } = { s with lsu := s.lsu.push block, peu := p } := by
    simp only [peuUpdate]
    rw [hcause, hdep]
    rfl
  exact ⟨p, by rw [magnitudeUpdate, hpeu, applyWhenQuiet, if_neg (by simp [hs])]⟩

theorem sourceRecord_logs (old new : LineState) (s : State) (hs : s.stage = .running) :
    ∃ l, l.length ≤ 1 ∧ logs l s (sourceRecord old new s) := by
  unfold sourceRecord
  split
  · exact ⟨[.sourceLost], le_refl _, logs_complete _ s hs⟩
  · exact ⟨[.sourceRestored], le_refl _, logs_complete _ s hs⟩
  · exact ⟨[], by simp, logs_of_orl rfl⟩

@[simp] theorem complete_limit (body : RecBody) (s : State) : (complete body s).orl.limit = s.orl.limit := by
  unfold complete
  split <;> simp [completeNow, enterRecord, addToRing]

@[simp] theorem sourceRecord_keeps_copies (old new : LineState) (s : State) :
    (sourceRecord old new s).sst.group = s.sst.group ∧ (sourceRecord old new s).orl.limit = s.orl.limit := by
  unfold sourceRecord
  split <;> simp

/-- An entry to LOCKOUT after an event that has made at most one record. -/
theorem lockedOut_of_entered {c : Cause} {u x t : State} (h : lockoutEntered c x t) (l : List RecBody) (hl : l.length ≤ 1)
    (hlogs : logs l u x) (hseq : x.seq = u.seq) : lockedOut c u t := by
  obtain ⟨hstate, hdead, hreclaim, hhold, hclear, hmanual, hcause, hshots, hrec, hwrite, -⟩ := h
  rw [hseq] at hshots hrec
  refine ⟨hstate, hdead, hreclaim, hhold, fun e => by rw [hclear e], hmanual, hcause, hshots, ?_, hwrite⟩
  obtain ⟨-, -, htime, hvalid⟩ := foldl_enter_keeps l u.orl.log
  have hnext : x.orl.next = recordAfter^[l.length] u.orl.next := (congrArg Orl.next hlogs).trans (foldl_enter_next l u.orl.log)
  have htime : x.orl.time = u.orl.time := (congrArg Orl.time hlogs).trans htime
  have hvalid : x.orl.valid = u.orl.valid := (congrArg Orl.valid hlogs).trans hvalid
  rw [recordedFirst, hnext, htime, hvalid] at hrec
  rcases Nat.le_one_iff_eq_zero_or_eq_one.1 hl with hzero | hone
  · rw [hzero] at hrec
    exact Or.inl hrec
  · rw [hone, Function.iterate_one] at hrec
    exact Or.inr hrec

/-- The retry for a source that becomes LIVE is the decision without the fourth check, after the source's own record (R54, log 13). -/
theorem source_retries (block : List SampleSet) (s : State) (hrun : s.stage = .running) (hs : s.seq.state = .recloseHold)
    (hr : s.seq.holdReason = some .source) (hp : noProtectionEvent block s) (hold : s.lsu.source.line ≠ .live)
    (hnew : (s.lsu.update block).source.line = .live) :
    recloseDecided false (fun c => lockedOut c { s with lsu := s.lsu.update block } (magnitudeUpdate block s))
      { s with lsu := s.lsu.update block } (magnitudeUpdate block s) := by
  obtain ⟨p, hmag⟩ := magnitudeUpdate_on_hold block s hp hs
  let y : State := { s with lsu := s.lsu.update block, peu := p }
  let x := sourceRecord s.lsu.source.line .live y
  have hline : magnitudeUpdate block s = seqSourceLive x := by
    have hq : (s.lsu.push block).qualifySides.source.line = .live := hnew
    have hsame : (s.lsu.push block).source = s.lsu.source := by simp
    rw [hmag, lineUpdate]
    dsimp only
    rw [hq, hsame, if_pos ⟨rfl, hold⟩]
    rfl
  have hretry : seqSourceLive x = deadEnd (deadEndChecks false x) x := if_pos ⟨by simpa [x, y], by simpa [x, y]⟩
  have hdecided := deadEnd_decided false x (by simpa [x, y] using hrun)
  rw [← hretry, ← hline] at hdecided
  obtain ⟨l, hl, hlogs⟩ := sourceRecord_logs s.lsu.source.line .live y hrun
  refine recloseDecided_of hdecided (fun c hc => lockedOut_of_entered hc l hl hlogs (by simp [x, y])) ?_
  constructor <;> simp [x, y, tripsToLockout]

theorem exec_holdTimerExpiry (s : State) (hs : s.seq.state = .recloseHold) : exec .holdTimerExpiry s = .next (holdEnd s) := by
  change execHoldTimerExpiry s = _
  simp [execHoldTimerExpiry, happens, hs]

theorem exec_reclaimTimerExpiry (s : State) (hs : s.seq.state = .reclaim) :
    exec .reclaimTimerExpiry s = .next (if s.peu.timing then s else enterClosed s) := by
  change execReclaimTimerExpiry s = _
  cases ht : s.peu.timing <;> simp [execReclaimTimerExpiry, happens, hs, ht]

/-- At the entry to CLOSED a pending group is applied with all quiet, and goes on pending otherwise (R65). -/
theorem enterClosed_group (s : State) (g : Nat) (hg : s.seq.pendingGroup = some g) :
    (s.peu.allQuiet = true → (enterClosed s).sst.active = g ∧ (enterClosed s).seq.pendingGroup = none) ∧
    (s.peu.allQuiet = false → (enterClosed s).sst.active = s.sst.active ∧ (enterClosed s).seq.pendingGroup = some g) := by
  refine ⟨fun hq => ⟨?_, by simp [enterClosed_seq, hq]⟩, fun hq => ⟨?_, by simpa [enterClosed_seq, hq] using hg⟩⟩
  · simp only [enterClosed, seqTo_keeps, hq, if_true]
    exact applyPending_takes _ g (by simpa [Seq.stopTimers] using hg)
  · simp [enterClosed, hq]

/-- Settles O12: each retry is the reclose decision of the state that the event leaves, and the timers' ends are entries to LOCKOUT and
CLOSED. -/
theorem holdIsRetriedOrExpires : Obligations.HoldIsRetriedOrExpires := by
  intro s
  refine ⟨fun hruns hd hs hidle => ⟨fun volts hr hlow hhigh => ?_, fun block hb hr _ hfill _ hrun hline hvolts hp => ?_⟩,
    fun hrun hs => ⟨fun hr => ?_, fun hr => ?_⟩, fun hs => ⟨fun ht => ?_, fun ht => ?_⟩⟩
  · let x := resumeTest (s.measured volts)
    have hx : measureCap volts s = deadEnd (deadEndChecks true x) x :=
      (measureCap_readies volts s hidle hlow hhigh).trans
        (energy_retries x (by simpa [x, State.measured]) (by simpa [x, State.measured]) (by simpa [x, State.measured]))
    have hdecided := deadEnd_decided true x (by simpa [x, State.measured] using hruns.1)
    rw [← hx] at hdecided
    refine ⟨measureCap volts s, exec_capacitorMeasurement volts s hruns.1, recloseDecided_of hdecided (fun c hc => ?_) ?_⟩
    · exact lockoutEntered_congr hc (by simp [x, State.measured]) (by simp [x, State.measured]) (by simp [x, State.measured])
        (by simp [x, State.measured]) rfl rfl rfl rfl
    · constructor <;> simp [x, State.measured, tripsToLockout, clampVolts]
  · have hlive : ((s.lsu.update block).side .source).line = .live := by
      rw [Lsu.update_side block s.lsu .source hb hfill, qualify_high _ _ _ _ hvolts]
      simp [Lsu.side, hrun]
    have hbecomes : sideBecomes .live .source block s = true := (sideBecomes_iff _ _ _ _).2 ⟨hlive, hline⟩
    refine ⟨magnitudeUpdate block s, ?_, magnitudeUpdate_lsu block s, ?_, ?_⟩
    · rw [exec_liveQualified .source block s hb (by simp [hruns.1, Stage.started]), if_pos hbecomes, pump_without_frames]
      simp [magnitudeUpdate, hruns.2.2]
    · rw [magnitudeUpdate_lsu]
      exact hlive
    · rw [magnitudeUpdate_lsu]
      exact source_retries block s hruns.1 hs hr hp hline hlive
  · exact ⟨_, exec_holdTimerExpiry s hs, by simpa [holdEnd, hr] using enterLockout_entered .sourceTimeout s hrun⟩
  · exact ⟨_, exec_holdTimerExpiry s hs, by simpa [holdEnd, hr] using enterLockout_entered .energy s hrun⟩
  · refine ⟨enterClosed s, by simp [exec_reclaimTimerExpiry s hs, ht], by simp [enterClosed_seq], by simp [enterClosed_seq],
      by simp [enterClosed_seq], by simp [enterClosed_seq, Seq.stopTimers], by simp, enterClosed_group s⟩
  · simp [exec_reclaimTimerExpiry s hs, ht]

end Sys2Proof.Machine
end

section
/-! SUPPORT and PROOFS. The debounced contacts (spec/04 R68, R69), and a breaker that moves without SEQ's having asked for it (spec/03
R62); O18. -/

namespace Sys2Proof.Machine

/-! ### A reading that completes the debouncing -/

/-- Four milliseconds of one reading are enough (R68). -/
@[simp] theorem debounce_stable (d : Debouncer) (x : ContactState) : (debounce d x 4).stable = some x := by
  simp only [debounce]
  split_ifs <;> simp_all

/-- What a reading of the contacts leaves of ACT alone. -/
@[simp] theorem readContact_keeps (c : Contact) (x : ContactState) (ms : Nat) (a : Act) :
    (readContact c x ms a).state = a.state ∧ (readContact c x ms a).pulseMs = a.pulseMs ∧ (readContact c x ms a).before = a.before ∧
    (readContact c x ms a).origin = a.origin ∧ (readContact c x ms a).heldMs = a.heldMs ∧ (readContact c x ms a).mech = a.mech ∧
    (readContact c x ms a).position = a.position ∧ (readContact c x ms a).cap = a.cap ∧
    (readContact c x ms a).converter = a.converter ∧ (readContact c x ms a).pulses = a.pulses := by
  cases c <;> simp [readContact]

theorem readOpen_decoded (x y : ContactState) (a : Act) (h : a.closedC.stable = some y) :
    (readContact .openContact x 4 a).decoded = some (decodePosition x y) := by
  simp [readContact, Act.decoded, h]

theorem readClosed_decoded (x y : ContactState) (a : Act) (h : a.openC.stable = some y) :
    (readContact .closedContact x 4 a).decoded = some (decodePosition y x) := by
  simp [readContact, Act.decoded, h]

/-- The state in which a change of position finds the other blocks (R69). -/
def State.moved (c : Contact) (x : ContactState) (p : Position) (s : State) : State :=
  { s with act := { readContact c x 4 s.act with position := p } }

/-- In a running part a changed position may end a pulse, and SEQ is told (R69). -/
theorem exec_contact_moves (c : Contact) (x : ContactState) (p : Position) (fin : PulseEnd) (s : State) (hs : s.stage = .running)
    (hdec : (readContact c x 4 s.act).decoded = some p) (hne : p ≠ s.act.position) :
    exec (.contactDebounced c x 4 fin) s = .next (pump (seqEvent (.position p) (endByPosition p fin (s.moved c x p)))) := by
  change execContactDebounced c x 4 fin s = _
  simp [execContactDebounced, whenStarted, happens, hs, Stage.started, contactRead, hdec, takePosition, hne, changePosition, State.moved]

section
variable (s : State) (fin : PulseEnd)

theorem exec_opens (hs : s.stage = .running) (h : opensNow s) :
    exec (.contactDebounced .openContact .made 4 fin) s =
      .next (pump (seqEvent (.position .isOpen) (endByPosition .isOpen fin (s.moved .openContact .made .isOpen)))) :=
  exec_contact_moves _ _ _ fin s hs (readOpen_decoded .made .notMade s.act h.1) h.2.symm

theorem exec_closes (hs : s.stage = .running) (h : closesNow s) :
    exec (.contactDebounced .closedContact .made 4 fin) s =
      .next (pump (seqEvent (.position .closed) (endByPosition .closed fin (s.moved .closedContact .made .closed)))) :=
  exec_contact_moves _ _ _ fin s hs (readClosed_decoded .made .notMade s.act h.1) h.2.symm

theorem exec_unknown (hs : s.stage = .running) (hc : s.act.closedC.stable = some .notMade) (hp : s.act.position ≠ .unknown) :
    exec (.contactDebounced .openContact .notMade 4 fin) s =
      .next (pump (seqEvent (.position .unknown) (endByPosition .unknown fin (s.moved .openContact .notMade .unknown)))) :=
  exec_contact_moves _ _ _ fin s hs (readOpen_decoded .notMade .notMade s.act hc) hp.symm

/-! ### A breaker that moves unasked (R62) -/

/-- With ACT IDLE there is no pulse to end. -/
theorem endByPosition_idle (p : Position) (h : s.act.state = .idle) : endByPosition p fin s = s := by
  simp [endByPosition, h]

/-- With ACT IDLE in a running part SEQ's share of the change is all that happens. -/
theorem moved_idle (c : Contact) (x : ContactState) (p : Position) (t : State) (hd : s.seq.decided = true)
    (hidle : s.act.state = .idle) (ht : seqPosition p (s.moved c x p) = t) (hq : t.hlc.queue = []) :
    pump (seqEvent (.position p) (endByPosition p fin (s.moved c x p))) = t := by
  rw [endByPosition_idle _ _ _ (by simpa [State.moved]), seqEvent_decided _ _ (by simpa [State.moved]), takeEvent, ht]
  exact pump_without_frames _ hq

theorem seqPosition_lockout (p : Position) (ht : s.seq.trip = none)
    (h : (s.seq.state ∈ [SeqState.closed, .reclaim] ∧ p = .isOpen) ∨ (s.seq.state ∈ [SeqState.deadTime, .recloseHold] ∧ p = .unknown)) :
    seqPosition p s = enterLockout .externalOpen s := by
  unfold seqPosition
  rcases h with ⟨h, rfl⟩ | ⟨h, rfl⟩ <;> cases hs : s.seq.state <;> simp [hs, ht] at h ⊢

theorem seqPosition_closed (h : s.seq.state ∈ [SeqState.deadTime, .recloseHold]) : seqPosition .closed s = enterReclaimByHand s := by
  unfold seqPosition
  cases hs : s.seq.state <;> simp [hs] at h ⊢

/-- SEQ as a breaker closed by hand in LOCKOUT leaves it, before the write is queued. -/
def State.uncaused (s : State) : State := enterReclaimByHand { s with seq := { s.seq with cause := none } }

theorem seqPosition_closed_lockout (hs : s.seq.state = .lockout) (ht : s.seq.trip = none) :
    seqPosition .closed s = queueWrite (.lockout none) s.uncaused := by
  have hitem : lockoutItem s.uncaused = .lockout none := by simp [lockoutItem, State.uncaused, enterReclaimByHand_seq]
  rw [← hitem]
  simp [seqPosition, hs, ht, State.uncaused]

theorem seqPosition_unknown (h : s.seq.state ∉ [SeqState.deadTime, .recloseHold]) : seqPosition .unknown s = s := by
  unfold seqPosition
  cases hs : s.seq.state <;> simp [hs] at h ⊢

end

/-- Settles O18: with ACT IDLE the reading is SEQ's alone, and each case is one of SEQ's entries, or none. -/
theorem breakerMovesUnasked : Obligations.BreakerMovesUnasked := by
  intro s fin ⟨hrun, _, hqueue⟩ hd hidle htrip
  have locks (c : Contact) (x : ContactState) (p : Position) : lockoutEntered .externalOpen s (enterLockout .externalOpen (s.moved c x p)) :=
    lockoutEntered_congr (enterLockout_entered .externalOpen (s.moved c x p) hrun) rfl rfl rfl rfl rfl rfl rfl rfl
  refine ⟨fun hs hopen => ?_, fun hs hclose => ?_, fun hc hp => ?_⟩
  · have hseq := seqPosition_lockout (s.moved .openContact .made .isOpen) _ htrip (Or.inl ⟨hs, rfl⟩)
    rw [exec_opens s fin hrun hopen, moved_idle s fin _ _ _ _ hd hidle hseq (by simpa [State.moved])]
    exact ⟨_, rfl, by simp [State.moved], locks _ _ _⟩
  · rw [exec_closes s fin hrun hclose]
    by_cases hlock : s.seq.state = .lockout
    · have hseq := seqPosition_closed_lockout (s.moved .closedContact .made .closed) hlock htrip
      rw [moved_idle s fin _ _ _ _ hd hidle hseq (by simpa [State.moved, State.uncaused])]
      refine ⟨_, rfl, by simp [State.moved, State.uncaused], ?_, fun _ => ⟨?_, queueWrite_queued _ _⟩⟩
      · simp [reclaimByHand, State.uncaused, enterReclaimByHand_seq, Seq.stopTimers, Page.reclaimMs, State.moved]
      · simp [State.uncaused, enterReclaimByHand_seq, Seq.stopTimers]
    · have hseq := seqPosition_closed (s.moved .closedContact .made .closed) (by simpa [State.moved, hlock] using hs)
      rw [moved_idle s fin _ _ _ _ hd hidle hseq (by simpa [State.moved])]
      exact ⟨_, rfl, by simp [State.moved], enterReclaimByHand_leaves (s.moved .closedContact .made .closed), fun h => absurd h hlock⟩
  · rw [exec_unknown s fin hrun hc hp]
    by_cases hs : s.seq.state ∈ [SeqState.deadTime, .recloseHold]
    · have hseq := seqPosition_lockout (s.moved .openContact .notMade .unknown) _ htrip (Or.inr ⟨hs, rfl⟩)
      rw [moved_idle s fin _ _ _ _ hd hidle hseq (by simpa [State.moved])]
      exact ⟨_, rfl, by simp [State.moved], fun _ => locks _ _ _, fun h => absurd hs h⟩
    · have hseq := seqPosition_unknown (s.moved .openContact .notMade .unknown) hs
      rw [moved_idle s fin _ _ _ _ hd hidle hseq hqueue]
      exact ⟨_, rfl, rfl, fun h => absurd h hs, fun _ => rfl⟩

end Sys2Proof.Machine
end

section
/-! SUPPORT and PROOFS. The host's OPEN and CLOSE (spec/03 R45, R57; spec/04 R76): what SEQ makes of each in each of its states, and the
reply; O16, O17. -/

namespace Sys2Proof.Machine

/-! ### The request at SEQ -/

/-- The frames of OPEN and CLOSE (spec/10 R185). -/
def openFrame (tag : Byte) : RxFrame := ⟨0x10#8, tag, .openBreaker⟩
def closeFrame (tag : Byte) : RxFrame := ⟨0x11#8, tag, .closeBreaker⟩

/-- The authority of a request is read off the key switch (spec/10 R184). -/
theorem keyAuthority_eq (k : Key) : keyAuthority k = if k = .loc then .loc else .link := by cases k <;> rfl

theorem exec_hostOpen (tag : Byte) (s t : State) (h : s.serving) (hd : s.seq.decided = true)
    (ht : seqOpen (keyAuthority s.hlc.key) .host (s.taking (openFrame tag)) = t) (hq : t.hlc.queue = []) :
    exec (.hostOpen tag) s = .next t := by
  change Host.Outcome.next (receive (openFrame tag) s) = _
  have hserve : serve (keyAuthority s.hlc.key) (openFrame tag).req (s.taking (openFrame tag)) = t :=
    (seqEvent_decided (.openCmd _ .host) (s.taking (openFrame tag)) hd).trans ht
  rw [receive_serving _ s h, hserve, pumpFor_without_frames 4 t hq]

theorem exec_hostClose (tag : Byte) (s t : State) (h : s.serving) (hd : s.seq.decided = true)
    (ht : seqClose (keyAuthority s.hlc.key) .host (s.taking (closeFrame tag)) = t) (hq : t.hlc.queue = []) :
    exec (.hostClose tag) s = .next t := by
  change Host.Outcome.next (receive (closeFrame tag) s) = _
  have hserve : serve (keyAuthority s.hlc.key) (closeFrame tag).req (s.taking (closeFrame tag)) = t :=
    (seqEvent_decided (.closeCmd _ .host) (s.taking (closeFrame tag)) hd).trans ht
  rw [receive_serving _ s h, hserve, pumpFor_without_frames 4 t hq]

/-! ### The reply beside a held CLOSE -/

/-- The frame f is the current request, or it has been answered OK already. -/
def answerable (f : RxFrame) (s : State) : Prop := s.hlc.current = some f ∨ s.answered f.kind f.tag .ok []

theorem hostReply_keeps_answered (kind tag : Byte) (r res : Res) (b body : Bytes) (s : State) (h : s.answered kind tag r b) :
    (hostReply res body s).answered kind tag r b := by
  unfold State.answered hostReply at *
  dsimp only
  split
  · exact List.mem_append_left _ h
  · exact h

theorem hostReply_answerable (f : RxFrame) (s : State) (h : answerable f s) : (hostReply .ok [] s).answered f.kind f.tag .ok [] := by
  rcases h with h | h
  · exact hostReply_answered .ok [] s f h
  · exact hostReply_keeps_answered _ _ _ _ _ _ s h

theorem answerHeldClose_answerable (f : RxFrame) (s : State) (h : s.hlc.current = some f) : answerable f (answerHeldClose .ok s) := by
  unfold answerHeldClose
  split
  · rename_i src _
    cases src with
    | host => exact Or.inr (hostReply_answered .ok [] _ f h)
    | radio => exact Or.inl (by simpa [answer] using h)
  · exact Or.inl h

/-- A trip that is handed over leaves the current request, or answers it in place of the CLOSE that it cuts (R58; spec/04 R79). -/
theorem actTrip_answerable (f : RxFrame) (s : State) (h : s.hlc.current = some f) : answerable f (actTrip s) := by
  have started (x : State) (hx : answerable f x) : answerable f (startTrip x) := by
    unfold answerable State.answered at *
    simpa using hx
  unfold actTrip
  split
  · exact started s (Or.inl h)
  · refine started _ ?_
    rw [cutClose, seqCloseCompletion_cut]
    split_ifs
    · exact answerHeldClose_answerable f _ (by simpa [handCloseRecord] using h)
    · exact Or.inl (by simpa [handCloseRecord] using h)
  · exact Or.inl h
  · exact Or.inl h

theorem seqTrip_answerable (f : RxFrame) (r : TripReq) (s : State) (h : s.hlc.current = some f) : answerable f (seqTrip r s) := by
  have now : answerable f (tripNow r s) := actTrip_answerable f _ (by simpa using h)
  have attempt : answerable f (tripAttempt r s) := by
    unfold tripAttempt
    split
    · exact actTrip_answerable f _ h
    · exact Or.inl h
  unfold seqTrip
  split
  case h_7 => exact Or.inl h
  case h_8 | h_9 => exact attempt
  all_goals exact now

@[simp] theorem enterLockout_current (c : Cause) (s : State) : (enterLockout c s).hlc.current = s.hlc.current := by
  have applied (x : State) : (applyPending x).hlc.current = x.hlc.current := by
    unfold applyPending
    split <;> simp [applyGroup]
  simp [enterLockout, applied]

/-! ### OPEN (R45) -/

theorem seqOpen_trips (a : Authority) (s : State) (h : s.seq.state ∈ [SeqState.closed, .reclaim, .reclosing, .closing, .tripping, .mechFail] ∨
    (s.seq.state = .lockout ∧ s.act.position ≠ .isOpen)) : seqOpen a .host s = hostReply .ok [] (seqTrip (.command a) s) := by
  unfold seqOpen
  rcases h with h | ⟨h, hp⟩
  · cases hs : s.seq.state <;> simp [hs] at h ⊢ <;> rfl
  · simp [h, hp, answer]

theorem seqOpen_locks (a : Authority) (s : State) (h : s.seq.state ∈ [SeqState.deadTime, .recloseHold]) :
    seqOpen a .host s = hostReply .ok [] (enterLockout .commandOpen s) := by
  unfold seqOpen
  cases hs : s.seq.state <;> simp [hs] at h ⊢ <;> rfl

theorem seqOpen_open (a : Authority) (s : State) (h : s.seq.state = .lockout) (hp : s.act.position = .isOpen) :
    seqOpen a .host s = hostReply .alreadyOpen [] s := by
  simp [seqOpen, h, hp, answer]

/-- An OPEN that makes a trip request is answered OK, and the request is what SEQ makes of it. -/
theorem exec_hostOpen_trips (tag : Byte) (s : State) (h : s.serving) (hd : s.seq.decided = true)
    (hs : s.seq.state ∈ [SeqState.closed, .reclaim, .reclosing, .closing, .tripping, .mechFail] ∨
      (s.seq.state = .lockout ∧ s.act.position ≠ .isOpen)) :
    ∃ t, exec (.hostOpen tag) s = .next t ∧ t.answered 0x10#8 tag .ok [] ∧
      let u := seqTrip (.command (if s.hlc.key = .loc then .loc else .link)) (s.taking (openFrame tag))
      t.seq = u.seq ∧ t.act = u.act ∧ t.orl = u.orl := by
  let x := s.taking (openFrame tag)
  have hopen := seqOpen_trips (keyAuthority s.hlc.key) x hs
  refine ⟨_, exec_hostOpen tag s _ h hd hopen (by simp [x, State.taking]), ?_, ?_⟩
  · exact hostReply_answerable (openFrame tag) _ (seqTrip_answerable (openFrame tag) _ x rfl)
  · simp [keyAuthority_eq, x]

/-- Settles O16, by SEQ's state: a trip handed over, joined or attempted, an entry to LOCKOUT, or the reply alone. -/
theorem hostOpens : Obligations.HostOpens := by
  intro tag s h hd a
  obtain ⟨⟨hrun, -, hqueue⟩, -⟩ := id h
  let x := s.taking (openFrame tag)
  refine ⟨fun hs hidle => ?_, fun hs hpulse => ?_, fun hs => ?_, fun hs => ?_, fun hs hp => ?_, fun hs => ?_⟩
  · obtain ⟨t, ht, hans, hseq, hact, -⟩ := exec_hostOpen_trips tag s h hd (Or.inl (by simp at hs ⊢; tauto))
    have hnow := seqTrip_now (.command a) x (by simp [x, State.taking] at hs ⊢; tauto)
    obtain ⟨hstate, htrip, -, -, hreclaim⟩ := tripNow_seq (.command a) x
    have hbegun := tripNow_begun (.command a) x (Or.inl hidle)
    rw [hnow] at hseq hact
    refine ⟨t, ht, by rw [hseq, hstate], by rw [hseq, htrip], by rw [hseq, hreclaim], tripBegun_congr rfl hact hbegun, hans⟩
  · obtain ⟨t, ht, hans, hseq, hact, horl⟩ := exec_hostOpen_trips tag s h hd (Or.inl (by simp at hs ⊢; tauto))
    have hnow := seqTrip_now (.command a) x (by simp [x, State.taking] at hs ⊢; tauto)
    obtain ⟨hstate, htrip, -⟩ := tripNow_seq (.command a) x
    have hbegun := tripNow_begun (.command a) x (Or.inr hpulse)
    obtain ⟨hcut, -⟩ := tripNow_cuts (.command a) x hrun hpulse
    rw [hnow] at hseq hact horl
    refine ⟨t, ht, by rw [hseq, hstate], by rw [hseq, htrip], ?_, tripBegun_congr rfl hact hbegun, hans⟩
    rw [closeCut, recordedFirst, horl]
    exact List.mem_of_getLast? hcut
  · obtain ⟨t, ht, hans, hseq, hact, -⟩ := exec_hostOpen_trips tag s h hd (Or.inl (by simp [hs]))
    rw [seqTrip_joins _ x hs] at hseq hact
    exact ⟨t, ht, by rw [hseq]; exact hs, by rw [hseq]; rfl, hact, hans⟩
  · have hlocks := seqOpen_locks (keyAuthority s.hlc.key) x hs
    refine ⟨_, exec_hostOpen tag s _ h hd hlocks (by simp [x, State.taking]), ?_, ?_⟩
    · exact lockoutEntered_congr (enterLockout_entered .commandOpen x hrun) rfl rfl rfl rfl (by simp) (by simp) (by simp) (by simp)
    · exact hostReply_answered .ok [] _ (openFrame tag) (by simp [x, State.taking])
  · have hopen := seqOpen_open (keyAuthority s.hlc.key) x hs hp
    exact exec_hostOpen tag s _ h hd (hopen.trans (hostReply_taking (openFrame tag) .alreadyOpen [] s h)) hqueue
  · obtain ⟨t, ht, hans, hseq, hact, -⟩ := exec_hostOpen_trips tag s h hd (by simp; tauto)
    have hattempt := seqTrip_attempts (.command a) x (by simp [x, State.taking]; tauto)
    rw [hattempt] at hseq hact
    refine ⟨t, ht, by rw [hseq]; exact tripAttempt_state (.command a) x, hans, fun htrip hidle => ?_, fun rs htrip => ?_⟩
    · obtain ⟨hnew, hbegun⟩ := tripAttempt_begun (.command a) x htrip hidle
      exact ⟨by rw [hseq, hnew], tripBegun_congr rfl hact hbegun⟩
    · obtain ⟨hjoined, hsame⟩ := tripAttempt_joins (.command a) x rs htrip
      exact ⟨by rw [hseq, hjoined], by rw [hact, hsame]; rfl⟩

/-! ### CLOSE (R57, R76) -/

theorem seqClose_refused (a : Authority) (r : Res) (s : State) (hs : s.seq.state = .lockout) (hr : closeRefusal a.origin s = some r) :
    seqClose a .host s = hostReply r [] s := by
  simp [seqClose, hs, hr, answer]

theorem seqClose_permitted (a : Authority) (s : State) (hs : s.seq.state = .lockout) (hr : closeRefusal a.origin s = none) :
    seqClose a .host s = commandedClose a .host s := by
  simp [seqClose, hs, hr]

theorem seqClose_mechFail (a : Authority) (s : State) (hs : s.seq.state = .mechFail) : seqClose a .host s = hostReply .mechFail [] s := by
  simp [seqClose, hs, answer]

theorem seqClose_elsewhere (a : Authority) (s : State) (hs : s.seq.state ∉ [SeqState.lockout, .mechFail]) :
    seqClose a .host s = hostReply .notLockedOut [] s := by
  unfold seqClose
  cases h : s.seq.state <;> simp [h] at hs ⊢ <;> rfl

/-- A CLOSE that SEQ only answers changes nothing but the transmit list. -/
theorem exec_hostClose_refused (tag : Byte) (r : Res) (s : State) (h : s.serving) (hd : s.seq.decided = true)
    (hr : seqClose (keyAuthority s.hlc.key) .host (s.taking (closeFrame tag)) = hostReply r [] (s.taking (closeFrame tag))) :
    exec (.hostClose tag) s = .next (s.replied 0x11#8 tag r []) :=
  exec_hostClose tag s _ h hd (hr.trans (hostReply_taking (closeFrame tag) r [] s h)) h.1.2.2

/-- What a commanded close leaves (R57, R78). -/
theorem commandedClose_leaves (a : Authority) (s : State) :
    writeQueued (.lockout none) (commandedClose a .host s) ∧ (commandedClose a .host s).hlc = s.hlc ∧
    (commandedClose a .host s).act = (beginClose a.origin s).act := by
  refine ⟨?_, by simp [commandedClose, beginClose], by simp [commandedClose]⟩
  have hq := queueWrite_queued (.lockout none)
  simp [commandedClose, lockoutItem, hq]

section
variable (o : Origin) (s : State) (hidle : s.act.state = .idle)
include hidle

theorem closeRefusal_mech (hm : s.act.mech = true) : closeRefusal o s = some .mechFail := by simp [closeRefusal, hidle, hm]

variable (hm : s.act.mech = false)
include hm

theorem closeRefusal_unknown (hp : s.act.position = .unknown) : closeRefusal o s = some .positionUnknown := by
  simp [closeRefusal, hidle, hm, hp]

theorem closeRefusal_closed (hp : s.act.position = .closed) : closeRefusal o s = some .notLockedOut := by
  simp [closeRefusal, hidle, hm, hp]

variable (hp : s.act.position = .isOpen)
include hp

theorem closeRefusal_noClose (ht : ∃ x ∈ s.tag.table.tags, x.mode = .noClose) : closeRefusal o s = some .tagNoClose := by
  have hany : s.tag.table.tags.any (·.mode == .noClose) = true := by simpa using ht
  rw [closeRefusal]
  simp [hidle, hm, hp, hany]

variable (ht : ¬ ∃ x ∈ s.tag.table.tags, x.mode = .noClose)
include ht

theorem closeRefusal_noReclose (hr : ∃ x ∈ s.tag.table.tags, x.mode = .noReclose) (ho : o ≠ .loc) :
    closeRefusal o s = some .tagNoReclose := by
  have hnone : s.tag.table.tags.any (·.mode == .noClose) = false := by simpa using ht
  have hany : s.tag.table.tags.any (·.mode == .noReclose) = true := by simpa using hr
  rw [closeRefusal]
  simp [hidle, hm, hp, hnone, hany, ho]

variable (hr : (¬ ∃ x ∈ s.tag.table.tags, x.mode = .noReclose) ∨ o = .loc)
include hr

/-- Past the tags the reserve and the capacitor decide. -/
theorem closeRefusal_untagged : closeRefusal o s =
    if reserveBars s.bcu.level = true ∧ o ≠ .loc then some .conserve else if s.act.cap < closePermit then some .lowEnergy else none := by
  have hnone : s.tag.table.tags.any (·.mode == .noClose) = false := by simpa using ht
  have htags : ¬ (s.tag.table.tags.any (·.mode == .noReclose) = true ∧ o ≠ .loc) := by
    rintro ⟨hany, ho⟩
    exact ho (hr.resolve_left (not_not.2 (by simpa using hany)))
  simp only [closeRefusal, hidle, hm, hp, hnone, if_neg htags]
  simp

end

/-- Settles O17: outside LOCKOUT a refusal, and in LOCKOUT the first of R76's conditions that is not met, or the pulse. -/
theorem hostCloses : Obligations.HostCloses := by
  intro tag s h hd o atKey barred noClose noReclose refused
  let x := s.taking (closeFrame tag)
  let a := keyAuthority s.hlc.key
  have ho : a.origin = o := by
    simp only [a, o]
    cases s.hlc.key <;> rfl
  have hloc : o = .loc ↔ atKey := by
    simp only [o, atKey]
    split_ifs with hk <;> simp [hk]
  have bars : reserveBars s.bcu.level = true ↔ barred := reserveBars_iff _
  have refuses (r : Res) (hs : s.seq.state = .lockout) (hr : closeRefusal o x = some r) : refused r :=
    exec_hostClose_refused tag r s h hd (seqClose_refused a r x hs (ho ▸ hr))
  refine ⟨fun hs => ⟨fun hbusy => ?_, fun hidle hm => ?_, fun hidle hm => ⟨fun hp => ?_, fun hp => ?_, fun hp ht => ?_,
    fun hp ht => ⟨fun hr hk => ?_, fun hr => ⟨fun hb hk => ?_, fun hb => ⟨fun hcap => ?_, fun hcap => ?_⟩⟩⟩⟩⟩, fun hs => ?_, fun hs => ?_⟩
  · exact refuses _ hs (if_pos hbusy)
  · exact refuses _ hs (closeRefusal_mech o x hidle hm)
  · exact refuses _ hs (closeRefusal_unknown o x hidle hm hp)
  · exact refuses _ hs (closeRefusal_closed o x hidle hm hp)
  · exact refuses _ hs (closeRefusal_noClose o x hidle hm hp ht)
  · exact refuses _ hs (closeRefusal_noReclose o x hidle hm hp ht hr (hloc.not.2 hk))
  · refine refuses _ hs ((closeRefusal_untagged o x hidle hm hp ht (hr.imp_right hloc.2)).trans (if_pos ⟨bars.2 hb, hloc.not.2 hk⟩))
  · have hopen : ¬ (reserveBars s.bcu.level = true ∧ o ≠ .loc) := by
      rintro ⟨hbar, hno⟩
      exact hb.elim (fun hn => hn (bars.1 hbar)) fun hk => hno (hloc.2 hk)
    exact refuses _ hs ((closeRefusal_untagged o x hidle hm hp ht (hr.imp_right hloc.2)).trans ((if_neg hopen).trans (if_pos hcap)))
  · have hopen : ¬ (reserveBars s.bcu.level = true ∧ o ≠ .loc) := by
      rintro ⟨hbar, hno⟩
      exact hb.elim (fun hn => hn (bars.1 hbar)) fun hk => hno (hloc.2 hk)
    have hnone : closeRefusal o x = none :=
      (closeRefusal_untagged o x hidle hm hp ht (hr.imp_right hloc.2)).trans ((if_neg hopen).trans (if_neg (Nat.not_lt.2 hcap)))
    obtain ⟨hwrite, hhlc, hact⟩ := commandedClose_leaves a x
    refine ⟨_, exec_hostClose tag s _ h hd (seqClose_permitted a x hs (ho ▸ hnone)) (by rw [hhlc]; rfl), by simp [commandedClose_seq],
      by simp [commandedClose_seq], by simp [commandedClose_seq], by simp [commandedClose_seq], by simp [commandedClose_seq], hwrite,
      ?_, ?_, ?_, ?_, by rw [hhlc]; rfl, by rw [hhlc]; rfl⟩
    · rw [hact]; rfl
    · rw [hact]; rfl
    · rw [hact]; rfl
    · rw [hact, ho]; rfl
  · exact exec_hostClose_refused tag _ s h hd (seqClose_mechFail a x hs)
  · exact exec_hostClose_refused tag _ s h hd (seqClose_elsewhere a x hs)

end Sys2Proof.Machine
end

section
/-! SUPPORT and PROOFS. MECH_FAIL_CLEAR (spec/03 R64): the flag, SEQ's way out of MECH_FAIL, and the reply; O22. -/

namespace Sys2Proof.Machine

/-! ### The flag (spec/04 R81) -/

theorem setMech_queued (f : Bool) (s : State) (h : s.act.mech ≠ f) : writeQueued (.mech f) (setMech f s) := by
  rw [setMech, if_neg h]
  exact queueWrite_queued (.mech f) _

theorem setMech_keeps_queued (i : RetItem) (f : Bool) (s : State) (h : writeQueued i s) (hne : i.item ≠ 2) : writeQueued i (setMech f s) := by
  unfold setMech
  split
  · exact h
  · exact queueWrite_keeps_queued i _ _ h hne

@[simp] theorem setMech_keeps_copies (f : Bool) (s : State) :
    (setMech f s).sst.active = s.sst.active ∧ (setMech f s).sst.group = s.sst.group ∧ (setMech f s).sst.held = s.sst.held := by
  unfold setMech
  split <;> simp

/-! ### Entries beside a queued write -/

/-- Items 1, 3 and 5 are those that an entry writes: the lockout, the active group and the ring. -/
theorem enterLockout_keeps_queued (i : RetItem) (c : Cause) (s : State) (h : writeQueued i s) (hlock : i.item ≠ 1) (hgroup : i.item ≠ 3)
    (hring : i.item ≠ 5) : writeQueued i (enterLockout c s) := by
  refine applyPending_keeps_queued i _ (queueWrite_keeps_queued i _ _ (complete_keeps_queued i _ _ ?_ hring) hlock) hring hgroup
  exact writeQueued_congr i s _ (by simp) h

theorem enterClosed_keeps_queued (i : RetItem) (s : State) (h : writeQueued i s) (hgroup : i.item ≠ 3) (hring : i.item ≠ 5) :
    writeQueued i (enterClosed s) := by
  have hseq (x : State) (hx : x.sst = s.sst) : writeQueued i x := writeQueued_congr i s x hx h
  simp only [enterClosed]
  split
  · exact applyPending_keeps_queued i _ (hseq _ (by simp)) hring hgroup
  · exact hseq _ (by simp)

/-- Cleared elements are quiet or disabled (spec/02 R34, R38). -/
theorem clearElements_allQuiet (s : State) : (clearElements s).peu.allQuiet = true := by
  have hget : (clearElements s).peu.allQuiet = (clearElements s).peu.elems.allQuiet := rfl
  rw [hget, Elems.allQuiet, List.all_eq_true]
  intro e _
  rw [clearElements_cleared s e]
  by_cases hd : (s.peu.elems.get e).st = .disabled <;> simp [hd]

/-- From MECH_FAIL with the breaker closed SEQ is in CLOSED, its elements cleared and a pending group applied (R64, R65). -/
theorem enterClosed_cleared (s : State) :
    cleared s (enterClosed (clearElements s)) ∧
    ∀ g, s.seq.pendingGroup = some g → (enterClosed (clearElements s)).sst.active = g ∧
      (enterClosed (clearElements s)).seq.pendingGroup = none := by
  have hquiet := clearElements_allQuiet s
  refine ⟨?_, fun g hg => (enterClosed_group (clearElements s) g (by simpa using hg)).1 hquiet⟩
  simp only [enterClosed, seqTo_keeps, hquiet, if_true]
  refine applyPending_cleared fun e => ?_
  simpa using clearElements_cleared s e

/-! ### The request -/

/-- The frame of a MECH_FAIL_CLEAR (spec/10 R185). -/
def clearFrame (tag : Byte) : RxFrame := ⟨0x12#8, tag, .mechFailClear⟩

theorem mechFailCleared_busy (s : State) (h : s.act.state ≠ .idle) : mechFailCleared s = (s, .busy) := by simp [mechFailCleared, h]

/-- With ACT IDLE the flag is cleared, and SEQ leaves MECH_FAIL by the position. -/
theorem mechFailCleared_idle (s : State) (h : s.act.state = .idle) :
    mechFailCleared s = (if s.seq.state = .mechFail then
      (if s.act.position = .closed then enterClosed (clearElements (setMech false s)) else enterLockout .mechCleared (setMech false s))
      else setMech false s, .ok) := by
  simp only [mechFailCleared, h]
  split_ifs <;> simp_all

theorem enterClosed_hlc_line (s : State) :
    (enterClosed s).hlc.current = s.hlc.current ∧ (enterClosed s).hlc.queue = s.hlc.queue := by
  have applied (x : State) : (applyPending x).hlc.current = x.hlc.current := by
    unfold applyPending
    split <;> simp [applyGroup]
  simp only [enterClosed]
  split <;> simp [applied]

/-- What a clearing from LOCAL with ACT IDLE leaves of the host line. -/
theorem mechFailCleared_line (s : State) :
    (mechFailCleared s).1.hlc.current = s.hlc.current ∧ (mechFailCleared s).1.hlc.queue = s.hlc.queue := by
  unfold mechFailCleared
  (repeat' split) <;> simp [enterClosed_hlc_line]

theorem serve_mechFailClear_local (s : State) (f : RxFrame) (hf : f.req = .mechFailClear) :
    serve .loc f.req s = hostReply (mechFailCleared s).2 [] (mechFailCleared s).1 := by
  simp [serve, hf, serveMechFailClear]

theorem exec_mechFailClear_local (tag : Byte) (s : State) (h : s.serving) (hk : s.hlc.key = .loc) :
    exec (.mechFailClear tag) s = .next (hostReply (mechFailCleared (s.taking (clearFrame tag))).2 []
      (mechFailCleared (s.taking (clearFrame tag))).1) := by
  change Host.Outcome.next (receive (clearFrame tag) s) = _
  rw [receive_serving _ s h, hk]
  refine congrArg _ ((congrArg (pumpFor 4) (serve_mechFailClear_local _ (clearFrame tag) rfl)).trans (pumpFor_without_frames 4 _ ?_))
  simp [mechFailCleared_line, State.taking]

theorem exec_mechFailClear_remote (tag : Byte) (s : State) (h : s.serving) (hk : s.hlc.key = .remote) :
    exec (.mechFailClear tag) s = .next (s.replied 0x12#8 tag .authority []) := by
  change Host.Outcome.next (receive (clearFrame tag) s) = _
  have hserve : serve .link (clearFrame tag).req (s.taking (clearFrame tag)) = hostReply .authority [] (s.taking (clearFrame tag)) := rfl
  rw [receive_serving _ s h, hk]
  refine congrArg _ ((congrArg (pumpFor 4) (hserve.trans (hostReply_taking (clearFrame tag) .authority [] s h))).trans ?_)
  exact pumpFor_without_frames 4 _ h.1.2.2

/-- Settles O22, by the key switch, ACT's state and SEQ's: the flag cleared, and one of two entries, or none. The model's operation has
the obligation's name. -/
theorem mechFailClearedByState : Obligations.MechFailCleared := by
  intro tag s h
  let x := s.taking (clearFrame tag)
  have hrun : x.stage = .running := h.1.1
  refine ⟨exec_mechFailClear_remote tag s h, fun hk hbusy => ?_, fun hk hidle => ?_⟩
  · rw [exec_mechFailClear_local tag s h hk, mechFailCleared_busy x hbusy]
    exact congrArg _ (hostReply_taking (clearFrame tag) .busy [] s h)
  · have hcleared := mechFailCleared_idle x hidle
    let u := (mechFailCleared x).1
    have hanswer : (hostReply .ok [] u).answered 0x12#8 tag .ok [] :=
      hostReply_answered .ok [] u (clearFrame tag) ((mechFailCleared_line x).1.trans rfl)
    have hexec : exec (.mechFailClear tag) s = .next (hostReply .ok [] u) := by
      rw [exec_mechFailClear_local tag s h hk, show (mechFailCleared x).2 = .ok by rw [hcleared]]
    have hset (hm : s.act.mech = true) : writeQueued (.mech false) (setMech false x) :=
      setMech_queued false x (by simp [x, State.taking, hm])
    by_cases hs : s.seq.state = .mechFail
    · by_cases hp : s.act.position = .closed
      · have hu : u = enterClosed (clearElements (setMech false x)) := by
          simp only [u, hcleared]
          rw [if_pos (show x.seq.state = .mechFail from hs), if_pos (show x.act.position = .closed from hp)]
        obtain ⟨helems, hgroup⟩ := enterClosed_cleared (setMech false x)
        rw [hu] at hexec hanswer
        refine ⟨_, hexec, by simp [setMech_act], hanswer, fun hm => ?_, fun _ hn => absurd hp hn, fun _ _ =>
          ⟨by simp [enterClosed_seq], by simp [enterClosed_seq], by simp [enterClosed_seq], fun e => ?_, fun g hg => ?_⟩, fun hn => absurd hs hn⟩
        · have hclear : writeQueued (.mech false) (clearElements (setMech false x)) := writeQueued_congr _ _ _ (by simp) (hset hm)
          exact enterClosed_keeps_queued _ _ hclear (by simp [RetItem.item]) (by simp [RetItem.item])
        · have hpeu : (setMech false x).peu = s.peu := by simp [x, State.taking]
          exact hpeu ▸ helems e
        · simpa using hgroup g (by simpa [x, State.taking] using hg)
      · have hu : u = enterLockout .mechCleared (setMech false x) := by
          simp only [u, hcleared]
          rw [if_pos (show x.seq.state = .mechFail from hs), if_neg (show ¬ x.act.position = .closed from hp)]
        have hlock := enterLockout_entered .mechCleared (setMech false x) (by simpa using hrun)
        rw [hu] at hexec hanswer
        refine ⟨_, hexec, by simp [setMech_act], hanswer, fun hm => ?_, fun _ _ => ?_, fun _ hc => absurd hc hp, fun hn => absurd hs hn⟩
        · exact enterLockout_keeps_queued _ .mechCleared _ (hset hm) (by simp [RetItem.item]) (by simp [RetItem.item])
            (by simp [RetItem.item])
        · exact lockoutEntered_congr hlock (by simp [x, State.taking]) (by simp [x, State.taking]) (by simp [x, State.taking])
            (by simp [x, State.taking]) rfl rfl rfl rfl
    · have hu : u = setMech false x := by
        simp only [u, hcleared]
        rw [if_neg (show ¬ x.seq.state = .mechFail from hs)]
      rw [hu] at hexec hanswer
      refine ⟨_, hexec, by simp [setMech_act], hanswer, fun hm => writeQueued_congr _ _ _ (by simp) (hset hm), fun hm => absurd hm hs,
        fun hm => absurd hm hs, fun _ => by simp [x, State.taking]⟩

end Sys2Proof.Machine
end

section
/-! SUPPORT and PROOFS. A close pulse that ends DONE (spec/03 R56, R58; spec/04 R78, R80; spec/07 R144): the CLOSE record, the operation
counted, and SEQ's entry to RECLAIM, in either order; O15. -/

namespace Sys2Proof.Machine

/-! ### The CLOSE record (R80, R144) -/

@[simp] theorem countOperation_log (s : State) : (countOperation s).orl.log = s.orl.log := by
  unfold countOperation
  split <;> simp [Orl.log]

theorem countOperation_counts (s : State) (h : s.orl.opCount < 4294967295) : (countOperation s).orl.opCount = s.orl.opCount + 1 := by
  simp [countOperation, h.ne]

@[simp] theorem countOperation_keeps_more (s : State) :
    (countOperation s).hlc = s.hlc ∧ (countOperation s).sst.group = s.sst.group ∧ (countOperation s).sst.active = s.sst.active := by
  unfold countOperation
  split <;> simp

@[simp] theorem handCloseRecord_keeps_more (b : RecBody) (o : PulseOutcome) (s : State) :
    (handCloseRecord b o s).hlc.queue = s.hlc.queue ∧ (handCloseRecord b o s).hlc.current = s.hlc.current ∧
    (handCloseRecord b o s).sst.group = s.sst.group ∧ (handCloseRecord b o s).sst.active = s.sst.active := by
  unfold handCloseRecord
  dsimp only
  split <;> simp

theorem handCloseRecord_logs (b : RecBody) (o : PulseOutcome) (s : State) (hs : s.stage = .running) :
    logs [b] s (handCloseRecord b o s) := by
  have hlog := logs_complete b s hs
  unfold handCloseRecord
  dsimp only
  split
  · simpa [logs] using hlog
  · exact hlog

theorem handCloseRecord_counts (b : RecBody) (s : State) (hs : s.stage = .running) (h : s.orl.opCount < 4294967295) :
    (handCloseRecord b .done s).orl.opCount = s.orl.opCount + 1 := by
  have horl := complete_orl_running b s hs
  simp only [handCloseRecord, if_true]
  rw [countOperation_counts _ (by rw [horl]; exact h), horl]
  rfl

theorem handCloseRecord_answered (b : RecBody) (o : PulseOutcome) (s : State) (kind tag : Byte) (res : Res) (body : Bytes)
    (h : s.answered kind tag res body) : (handCloseRecord b o s).answered kind tag res body := by
  have hrec := complete_answered b s kind tag res body h
  unfold handCloseRecord
  dsimp only
  split
  · simpa [State.answered] using hrec
  · exact hrec

/-! ### SEQ's share (R56, R58) -/

theorem seqCloseCompletion_done_reclosing (s : State) (h : s.seq.state = .reclosing) :
    seqCloseCompletion .done s = enterReclaim { s with seq := { s.seq with manual := false } } := by simp [seqCloseCompletion, h]

theorem seqCloseCompletion_done_closing (s : State) (h : s.seq.state = .closing) :
    seqCloseCompletion .done s = answerHeldClose .ok (enterReclaimByHand s) := by simp [seqCloseCompletion, h]

/-- SEQ after a DONE close: RECLAIM, by the automatic close or by the commanded one. -/
theorem seqCloseCompletion_done_seq (s : State) (h : s.seq.state ∈ [SeqState.reclosing, .closing]) :
    (seqCloseCompletion .done s).seq = { s.seq.stopTimers with
      state := .reclaim, shots := if s.seq.state = .closing then 0 else s.seq.shots
      manual := decide (s.seq.state = .closing), heldClose := if s.seq.state = .closing then none else s.seq.heldClose
      reclaimLeft := some s.sst.group.reclaimMs } := by
  by_cases hs : s.seq.state = .closing
  · simp [seqCloseCompletion_done_closing s hs, enterReclaimByHand_seq, hs]
  · have hs' : s.seq.state = .reclosing := by simpa [hs] using h
    simp [seqCloseCompletion_done_reclosing s hs', enterReclaim_seq, hs', Seq.stopTimers]

theorem seqCloseCompletion_done_keeps (s : State) (h : s.seq.state ∈ [SeqState.reclosing, .closing]) :
    (seqCloseCompletion .done s).orl = s.orl ∧ (seqCloseCompletion .done s).hlc.queue = s.hlc.queue := by
  by_cases hs : s.seq.state = .closing
  · simp [seqCloseCompletion_done_closing s hs]
  · have hs' : s.seq.state = .reclosing := by simpa [hs] using h
    simp [seqCloseCompletion_done_reclosing s hs']

theorem seqCloseCompletion_done_answers (s : State) (f : RxFrame) (h : s.seq.state = .closing) (hh : s.seq.heldClose = some .host)
    (hf : s.hlc.current = some f) : (seqCloseCompletion .done s).answered f.kind f.tag .ok [] := by
  rw [seqCloseCompletion_done_closing s h]
  exact answerHeldClose_answers_host .ok _ f (by simpa [enterReclaimByHand_seq, Seq.stopTimers]) (by simpa)

/-! ### Both together, in either order (R78) -/

/-- The CLOSE record of a DONE pulse. -/
def State.closedRecord (fin : PulseEnd) (s : State) : RecBody :=
  .close (s.act.origin.getD .auto) .done (s.act.pulseMs.getD 0) (s.act.before.getD 0) (min 350 fin.capAfter)

section
variable (fin : PulseEnd) (s : State)

/-- The state with the pulse ended. -/
def State.pulseEnded (s : State) : State := { s with act := s.act.toIdle }

theorem endClose_done_eq : endClose .done (s.act.pulseMs.getD 0) fin s =
    if fin.partFirst then seqCloseCompletion .done (handCloseRecord (s.closedRecord fin) .done s.pulseEnded)
    else handCloseRecord (s.closedRecord fin) .done (seqCloseCompletion .done s.pulseEnded) := rfl

variable (hs : s.stage = .running) (h : s.seq.state ∈ [SeqState.reclosing, .closing])
include hs h

theorem endClose_done_leaves (u : State) (hu : u = endClose .done (s.act.pulseMs.getD 0) fin s) :
    u.stage = .running ∧ u.act = s.act.toIdle ∧ u.tag = s.tag ∧ u.hlc.queue = s.hlc.queue ∧
    u.seq = (seqCloseCompletion .done s).seq ∧ logs [s.closedRecord fin] s u ∧
    (s.orl.opCount < 4294967295 → u.orl.opCount = s.orl.opCount + 1) ∧
    ∀ f, s.seq.state = .closing → s.seq.heldClose = some .host → s.hlc.current = some f → u.answered f.kind f.tag .ok [] := by
  subst hu
  rw [endClose_done_eq, seqCloseCompletion_done_seq s h]
  split
  · let x := handCloseRecord (s.closedRecord fin) .done s.pulseEnded
    have hx : x.seq = s.seq := by simp [x, State.pulseEnded]
    obtain ⟨horl, hqueue⟩ := seqCloseCompletion_done_keeps x (hx ▸ h)
    have hlogs := handCloseRecord_logs (s.closedRecord fin) .done s.pulseEnded hs
    refine ⟨by simpa [State.pulseEnded], by simp [State.pulseEnded], by simp [State.pulseEnded], ?_, ?_, ?_, fun hcount => ?_,
      fun f hclosing hheld hf => ?_⟩
    · simp [x, State.pulseEnded] at hqueue ⊢
      exact hqueue
    · rw [seqCloseCompletion_done_seq x (hx ▸ h), hx]
      simp [x, State.pulseEnded]
    · rw [logs, horl]
      exact hlogs
    · rw [horl]
      exact handCloseRecord_counts _ s.pulseEnded hs hcount
    · exact seqCloseCompletion_done_answers x f (hx ▸ hclosing) (hx ▸ hheld) (by simpa [x, State.pulseEnded])
  · let x := seqCloseCompletion .done s.pulseEnded
    obtain ⟨horl, hqueue⟩ := seqCloseCompletion_done_keeps s.pulseEnded h
    have hlogs := handCloseRecord_logs (s.closedRecord fin) .done x (by simpa [x, State.pulseEnded])
    refine ⟨by simpa [State.pulseEnded], by simp [State.pulseEnded], by simp [State.pulseEnded], ?_, ?_, ?_, fun hcount => ?_,
      fun f hclosing hheld hf => ?_⟩
    · simp only [handCloseRecord_keeps_more]
      exact hqueue
    · simp only [handCloseRecord_keeps]
      exact seqCloseCompletion_done_seq s.pulseEnded h
    · have hsame : x.orl.log = s.orl.log := congrArg Orl.log horl
      rwa [logs, hsame] at hlogs
    · have hsame : x.orl.opCount = s.orl.opCount := congrArg Orl.opCount horl
      rw [← hsame] at hcount ⊢
      exact handCloseRecord_counts _ x (by simpa [x, State.pulseEnded]) hcount
    · exact handCloseRecord_answered _ _ x _ _ _ _ (seqCloseCompletion_done_answers s.pulseEnded f hclosing hheld hf)

end

/-- With a tag present one trip leads to LOCKOUT (R42; spec/05 R91). -/
theorem tripsToLockout_of_tagged (s : State) (h : s.tag.table.tags ≠ []) : tripsToLockout s = 1 := by
  have hmode : s.tag.table.mode ≠ .none := by
    unfold TagTable.mode
    split_ifs with hno hempty <;> simp_all
  exact if_pos (Or.inl hmode)

/-- In RECLAIM a position that becomes CLOSED is SEQ's own close (R62). -/
theorem seqPosition_reclaim_closed (s : State) (h : s.seq.state = .reclaim) : seqPosition .closed s = s := by simp [seqPosition, h]

/-- Settles O15: the pulse ends DONE, and the change of position that ended it finds SEQ in RECLAIM. -/
theorem closeCompletes : Obligations.CloseCompletes := by
  intro s fin ⟨hrun, _, hqueue⟩ hd hpulse hclose hs
  let x := s.moved .closedContact .made .closed
  obtain ⟨hstage, hact, htag, hq, hseq, hlogs, hcount, hans⟩ := endClose_done_leaves fin x hrun hs _ rfl
  let u := endClose .done (x.act.pulseMs.getD 0) fin x
  have hend : endByPosition .closed fin x = u := by simp [endByPosition, x, State.moved, hpulse, u]
  rw [seqCloseCompletion_done_seq x hs] at hseq
  have hstate : u.seq.state = .reclaim := by rw [hseq]
  have hdec : u.seq.decided = true := by rw [hseq]; exact hd
  have hexec : exec (.contactDebounced .closedContact .made 4 fin) s = .next u := by
    rw [exec_closes s fin hrun hclose, hend, seqEvent_decided _ u hdec, takeEvent, seqPosition_reclaim_closed u hstate,
      pump_without_frames u (hq.trans hqueue)]
  refine ⟨u, hexec, hstate, by rw [hseq]; rfl, by rw [hact]; rfl, ?_, hcount, fun hre => ?_, fun htags => ⟨congrArg TagBlock.table htag, ?_⟩, fun hcl => ?_⟩
  · have hbody : x.closedRecord fin = .close (s.act.origin.getD .auto) .done (s.act.pulseMs.getD 0) (s.act.before.getD 0)
        (min 350 fin.capAfter) := by simp [State.closedRecord, x, State.moved]
    exact hbody ▸ hlogs.recorded
  · rw [hseq]
    simp [hre, x, State.moved]
  · exact tripsToLockout_of_tagged u (by rw [htag]; exact htags)
  · have hcl' : x.seq.state = .closing := hcl
    rw [hseq]
    exact ⟨by simp [hcl'], by simp [hcl'], by simp [hcl'], fun f hheld hf => hans f hcl hheld hf⟩

end Sys2Proof.Machine
end

section
/-! SUPPORT. A trip completion as one operation (spec/03 R48; spec/07 R137, R141): the order of the two parts of the TRIP record decides
about the wear limit that SEQ reads, and about nothing else (log 7, log 14). -/

namespace Sys2Proof.Machine

/-! ### The TRIP record of two parts -/

/-- The state with the TRIP record complete, its capture taken and the pulse's wear counted. -/
def tripRecorded (r : TripReq) (pp : PulsePart) (s : State) : State :=
  completeTrip ⟨r, s.seq.shots⟩ pp (takeInterruption pp s)

/-- The TRIP record's completion overwrites the part that had come first. -/
theorem completeTrip_of_part (sp : SeqPart) (pp : PulsePart) (s : State) (p : Option TripPart) :
    completeTrip sp pp { s with orl := { s.orl with part := p } } = completeTrip sp pp s := rfl

theorem handPart_first (p : TripPart) (s : State) (h : s.orl.part = none) :
    handPart p s = { s with orl := { s.orl with part := some p } } := by
  simp [handPart, h]

@[simp] theorem countOperation_part (s : State) : (countOperation s).orl.part = s.orl.part := by
  unfold countOperation
  split <;> simp

/-- The state with other elements, another SEQ and another part of the record in the making. -/
def State.besides (p : Peu) (q : Seq) (x : Option TripPart) (s : State) : State :=
  { s with peu := p, seq := q, orl := { s.orl with part := x } }

theorem countOperation_besides (p : Peu) (q : Seq) (x : Option TripPart) (s : State) :
    countOperation (s.besides p q x) = (countOperation s).besides p q x := by
  by_cases h : s.orl.opCount = 4294967295
  · rw [countOperation, countOperation, if_pos h, if_pos (show (s.besides p q x).orl.opCount = _ from h)]
  · rw [countOperation, countOperation, if_neg h, if_neg (show ¬ (s.besides p q x).orl.opCount = _ from h)]
    rfl

@[simp] theorem takeInterruption_part (pp : PulsePart) (s : State) : (takeInterruption pp s).orl.part = s.orl.part := by
  unfold takeInterruption Orl.addWear Orl.form
  (repeat' split) <;> simp

/-- Wear and operation count neither read nor move elements, SEQ and the record in the making. -/
theorem takeInterruption_besides (pp : PulsePart) (p : Peu) (q : Seq) (x : Option TripPart) (s : State) :
    takeInterruption pp (s.besides p q x) = (takeInterruption pp s).besides p q x := by
  by_cases h : pp.outcome = .done
  · have hwear : ((s.besides p q x).orl.addWear pp).form (s.besides p q x).sst.globalPage.wearBudget =
        { (s.orl.addWear pp).form s.sst.globalPage.wearBudget with part := x } := by
      simp [Orl.addWear, h, State.besides, Orl.form, Orl.anyWorn]
    unfold takeInterruption
    rw [if_pos h, if_pos h, hwear]
    dsimp only
    split
    · exact countOperation_besides p q x (queueWrite _ { s with orl := (s.orl.addWear pp).form s.sst.globalPage.wearBudget })
    · rfl
  · simp [takeInterruption, h]

/-! ### The count of a trip (R48 steps 1 and 2) -/

/-- The trip is counted: DONE in TRIPPING, by element requests alone (R48). -/
def tripCounts (o : PulseOutcome) (q : Seq) : Prop := o = .done ∧ q.state = .tripping ∧ q.requests.all TripReq.isElement = true

theorem countTrip_seq_counted (o : PulseOutcome) (s : State) (h : tripCounts o s.seq) :
    (countTrip o s).seq = { s.seq with shots := min 4 (s.seq.shots + 1) } := by
  obtain ⟨rfl, hs, hall⟩ := h
  simp [countTrip, hs, hall]

theorem countTrip_seq_uncounted (o : PulseOutcome) (s : State) (h : ¬ tripCounts o s.seq) : (countTrip o s).seq = s.seq := by
  unfold countTrip
  split
  · dsimp only
    rw [if_neg fun hc => h ⟨rfl, hc⟩]
    simp
  · rfl

theorem countTrip_peu_done (s : State) : (countTrip .done s).peu = (clearElements s).peu := by
  simp only [countTrip]
  split <;> rfl

theorem countTrip_undone (o : PulseOutcome) (s : State) (h : o ≠ .done) : countTrip o s = s := by
  cases o with
  | done => exact absurd rfl h
  | noMove => rfl
  | cut => rfl

theorem countTrip_besides (o : PulseOutcome) (s : State) :
    countTrip o s = s.besides (countTrip o s).peu (countTrip o s).seq s.orl.part := by
  unfold countTrip
  (repeat' split) <;> rfl

/-- The elements and the counter of a trip, and its wear, are apart. -/
theorem countTrip_takeInterruption (o : PulseOutcome) (pp : PulsePart) (s : State) :
    countTrip o (takeInterruption pp s) = takeInterruption pp (countTrip o s) := by
  have hpeu : (countTrip o (takeInterruption pp s)).peu = (countTrip o s).peu := by
    cases o with
    | done => simp [countTrip_peu_done, clearElements]
    | noMove => simp [countTrip]
    | cut => simp [countTrip]
  have hseq : (countTrip o (takeInterruption pp s)).seq = (countTrip o s).seq := by
    by_cases hc : tripCounts o s.seq
    · rw [countTrip_seq_counted o s hc, countTrip_seq_counted o _ (by simpa using hc)]
      simp
    · rw [countTrip_seq_uncounted o s hc, countTrip_seq_uncounted o _ (by simpa using hc)]
      simp
  rw [countTrip_besides o (takeInterruption pp s), hpeu, hseq, takeInterruption_part, countTrip_besides o s, takeInterruption_besides]
  rfl

theorem countTrip_with_part (o : PulseOutcome) (s : State) (x : Option TripPart) :
    countTrip o { s with orl := { s.orl with part := x } } = { countTrip o s with orl := { (countTrip o s).orl with part := x } } := by
  unfold countTrip
  (repeat' split) <;> simp_all <;> rfl

/-! ### The completion (R48 to R50) -/

/-- The decision reads SEQ, the tags, the wear limit and the group (R42, R48). -/
theorem afterTrip_congr (o : PulseOutcome) {s t : State} (hseq : t.seq = s.seq) (htag : t.tag = s.tag) (hlimit : t.orl.limit = s.orl.limit)
    (hgroup : t.sst.group = s.sst.group) : afterTrip o t = afterTrip o s := by
  have hlim : tripsToLockout t = tripsToLockout s := by simp [tripsToLockout, hseq, htag, hlimit, hgroup]
  unfold afterTrip
  rw [hseq, hlim]

@[simp] theorem countTrip_trip (o : PulseOutcome) (s : State) : (countTrip o s).seq.trip = s.seq.trip := by
  by_cases hc : tripCounts o s.seq
  · rw [countTrip_seq_counted o s hc]
  · rw [countTrip_seq_uncounted o s hc]

theorem handSeqPart_eq (s : State) (r : TripReq) (rest : List TripReq) (h : s.seq.trip = some (r :: rest)) :
    handSeqPart s = handPart (.sequence ⟨r, s.seq.shots⟩) s := by
  simp [handSeqPart, Seq.requests, h]

section
variable (o : PulseOutcome) (pp : PulsePart) (s : State) (r : TripReq) (rest : List TripReq)

/-- ACT's part first: SEQ counts with the wear already formed, and its part completes the record. -/
theorem pulsePart_first (hpart : s.orl.part = none) :
    countTrip o (handPart (.pulse pp) (takeInterruption pp s)) =
      { takeInterruption pp (countTrip o s) with
        orl := { (takeInterruption pp (countTrip o s)).orl with part := some (.pulse pp) } } := by
  rw [handPart_first _ _ (by simpa using hpart), countTrip_with_part, countTrip_takeInterruption]

theorem seqPart_second (x : State) (htrip : x.seq.trip = some (r :: rest)) :
    handSeqPart { takeInterruption pp x with orl := { (takeInterruption pp x).orl with part := some (.pulse pp) } } =
      tripRecorded r pp x := by
  rw [handSeqPart_eq _ r rest (by simpa using htrip)]
  simp [handPart, tripRecorded, completeTrip]

/-- SEQ's part first: ACT's completes the record. -/
theorem pulsePart_second (x : State) (hpart : x.orl.part = none) (htrip : x.seq.trip = some (r :: rest)) :
    handPart (.pulse pp) (takeInterruption pp (handSeqPart x)) = tripRecorded r pp x := by
  have hwear := takeInterruption_besides pp x.peu x.seq (some (.sequence ⟨r, x.seq.shots⟩)) x
  rw [handSeqPart_eq x r rest htrip, handPart_first _ _ hpart]
  change handPart (.pulse pp) (takeInterruption pp (x.besides _ _ _)) = _
  rw [hwear]
  simp [handPart, tripRecorded, completeTrip, State.besides]

/-- The trip is over, and the decision is carried out (R48). -/
def tripOver (d : AfterTrip) (s : State) : State := carryOut d { s with seq := { s.seq with trip := none } }

/-- A completion with a trip in flight and no part of its record handed yet: the count, the wear and the TRIP record in one state, whichever
part came first, and the decision with the wear limit as that order left it. -/
theorem tripCompletion_eq (partFirst : Bool) (hpart : s.orl.part = none) (htrip : s.seq.trip = some (r :: rest)) :
    tripCompletion o pp partFirst s =
      let y := countTrip o s
      let d := afterTrip o (if partFirst then takeInterruption pp y else y)
      let u := tripOver d (completeAll (interruptionRecords pp s) (tripRecorded r pp y))
      if (r :: rest).any (· == .exhaustion) then exhaustionTripEnded u else u := by
  have hy : (countTrip o s).seq.trip = some (r :: rest) := by simpa using htrip
  have hrequests : s.seq.requests = r :: rest := by simp [Seq.requests, htrip]
  cases partFirst with
  | true =>
    have hd (x : State) (p : Option TripPart) : afterTrip o { x with orl := { x.orl with part := p } } = afterTrip o x := rfl
    simp only [tripCompletion, if_true, pulsePart_first o pp s hpart, seqPart_second pp r rest _ hy, hd, hrequests, tripOver]
  | false =>
    have hlast := pulsePart_second pp r rest (countTrip o s) (by simpa using hpart) hy
    simp only [tripCompletion, Bool.false_eq_true, if_false, hlast, hrequests, tripOver]

end

end Sys2Proof.Machine
end

section
/-! SUPPORT and PROOFS. Pulses that end without movement (spec/03 R49, R50, R56, R58; spec/04 R74, R78, R80, R81): the flag, the records,
and SEQ's entries to MECH_FAIL and LOCKOUT; O14. -/

namespace Sys2Proof.Machine

/-! ### The waiting frames and the records of a trip completion -/

@[simp] theorem takeInterruption_hlc (pp : PulsePart) (s : State) : (takeInterruption pp s).hlc = s.hlc := by simp

@[simp] theorem completeTrip_queue (sp : SeqPart) (pp : PulsePart) (s : State) : (completeTrip sp pp s).hlc.queue = s.hlc.queue := by
  simp [completeTrip]

@[simp] theorem carryOut_queue (d : AfterTrip) (s : State) : (carryOut d s).hlc.queue = s.hlc.queue := by
  unfold carryOut enterMechFail enterDeadTime
  (repeat' split) <;> simp

@[simp] theorem takeInterruption_keeps_record (pp : PulsePart) (s : State) :
    (takeInterruption pp s).orl.log = s.orl.log ∧ (takeInterruption pp s).orl.capture = s.orl.capture := by
  have hform (b : Nat) : ((s.orl.addWear pp).form b).log = s.orl.log ∧ ((s.orl.addWear pp).form b).capture = s.orl.capture := by
    unfold Orl.addWear Orl.form
    split <;> exact ⟨rfl, rfl⟩
  have hcount (x : State) : (countOperation x).orl.capture = x.orl.capture := by
    unfold countOperation
    split <;> simp
  unfold takeInterruption
  dsimp only
  split
  · split
    · rw [countOperation_log, hcount]
      exact hform _
    · exact hform _
  · exact ⟨rfl, rfl⟩

/-- The TRIP record of a trip's first request (R48; spec/07 R137). -/
def tripBody (r : TripReq) (pp : PulsePart) (s : State) : RecBody :=
  .trip ⟨r, s.seq.shots⟩ (if r.isElement then s.orl.capture else none) pp

/-- With its TRIP record complete a trip leaves everything but ORL, the write queue and what they report alone. -/
theorem tripRecorded_leaves (r : TripReq) (pp : PulsePart) (s : State) (hs : s.stage = .running) :
    (tripRecorded r pp s).stage = .running ∧ (tripRecorded r pp s).peu = s.peu ∧ (tripRecorded r pp s).seq = s.seq ∧
    (tripRecorded r pp s).act = s.act ∧ (tripRecorded r pp s).tag = s.tag ∧ (tripRecorded r pp s).bcu = s.bcu ∧
    (tripRecorded r pp s).hlc.queue = s.hlc.queue ∧ logs [tripBody r pp s] s (tripRecorded r pp s) ∧
    (tripRecorded r pp s).orl.capture = none := by
  refine ⟨by simpa [tripRecorded, completeTrip], by simp [tripRecorded, completeTrip], by simp [tripRecorded, completeTrip],
    by simp [tripRecorded, completeTrip], by simp [tripRecorded, completeTrip], by simp [tripRecorded, completeTrip],
    by simp [tripRecorded], ?_, ?_⟩
  · have hlog : ({ (takeInterruption pp s).orl with capture := none, part := none } : Orl).log = s.orl.log :=
      (takeInterruption_keeps_record pp s).1
    rw [logs, tripRecorded, completeTrip, complete_orl_running _ _ (by simpa), Orl.enter_log]
    simp only [takeInterruption_keeps_record]
    rw [hlog]
    rfl
  · simp [tripRecorded, completeTrip]

@[simp] theorem tripOver_keeps (d : AfterTrip) (s : State) :
    (tripOver d s).stage = s.stage ∧ (tripOver d s).lsu = s.lsu ∧ (tripOver d s).act = s.act ∧ (tripOver d s).tag = s.tag ∧
    (tripOver d s).hlc.queue = s.hlc.queue := by
  simp [tripOver]

/-! ### The entry to MECH_FAIL with nothing pending (R49, R50) -/

theorem applyPending_without (s : State) (hg : s.seq.pendingGroup = none) (hh : s.sst.held = none) : applyPending s = s := by
  simp [applyPending, hg, takeHeld, hh]

section
variable (s : State) (hg : s.seq.pendingGroup = none) (hh : s.sst.held = none)
include hg hh

theorem enterMechFail_without : (enterMechFail s).peu = s.peu ∧ (enterMechFail s).orl = s.orl := by
  simp only [enterMechFail]
  split <;> rw [applyPending_without] <;> simp [Seq.stopTimers, hg, hh]

theorem enterMechFail_keeps_queued (i : RetItem) (h : writeQueued i s) (hlock : i.item ≠ 1) : writeQueued i (enterMechFail s) := by
  have hseq : writeQueued i (seqTo .mechFail { s with seq := { s.seq.stopTimers with cause := none } }) :=
    writeQueued_congr i s _ (by simp) h
  simp only [enterMechFail]
  split
  · rw [applyPending_without _ (by simp [Seq.stopTimers, hg]) (by simp [hh])]
    exact queueWrite_keeps_queued i _ _ hseq hlock
  · rw [applyPending_without _ (by simp [Seq.stopTimers, hg]) (by simp [hh])]
    exact hseq

/-- NO_MOVE in TRIPPING, LOCKOUT or MECH_FAIL: a MECH_FAIL record, and SEQ in MECH_FAIL. -/
theorem noMove_carried (d : AfterTrip) (hs : s.stage = .running) (hd : d = .mechFail ∨ (d = .failedAgain ∧ s.seq.state = .mechFail)) :
    (tripOver d s).seq.state = .mechFail ∧ (tripOver d s).seq.trip = none ∧ (tripOver d s).seq.shots = s.seq.shots ∧
    (tripOver d s).peu = s.peu ∧ (tripOver d s).orl = s.orl.enter (.mechFail .trip) ∧
    ∀ i, writeQueued i s → i.item ≠ 1 → i.item ≠ 5 → writeQueued i (tripOver d s) := by
  let x := complete (.mechFail .trip) { s with seq := { s.seq with trip := none } }
  have horl : x.orl = s.orl.enter (.mechFail .trip) := complete_orl_running _ _ hs
  have hqueued (i : RetItem) (hi : writeQueued i s) (hring : i.item ≠ 5) : writeQueued i x := complete_keeps_queued i _ _ hi hring
  rcases hd with rfl | ⟨rfl, hstate⟩
  · change (enterMechFail x).seq.state = _ ∧ (enterMechFail x).seq.trip = _ ∧ (enterMechFail x).seq.shots = _ ∧ (enterMechFail x).peu = _ ∧
      (enterMechFail x).orl = _ ∧ ∀ i, _ → _ → _ → writeQueued i (enterMechFail x)
    have hxg : x.seq.pendingGroup = none := by simpa [x]
    have hxh : x.sst.held = none := by simpa [x]
    obtain ⟨hpeu, horl'⟩ := enterMechFail_without x hxg hxh
    refine ⟨by simp [enterMechFail_seq], by simp [enterMechFail_seq, Seq.stopTimers, x], by simp [enterMechFail_seq, Seq.stopTimers, x],
      by rw [hpeu]; simp [x], horl'.trans horl, fun i hi hlock hring => enterMechFail_keeps_queued x hxg hxh i (hqueued i hi hring) hlock⟩
  · exact ⟨by simpa [tripOver, carryOut], by simp [tripOver, carryOut], by simp [tripOver, carryOut], by simp [tripOver, carryOut], horl,
      fun i hi _ hring => hqueued i hi hring⟩

end

/-! ### A trip pulse without movement (R49, R50; spec/04 R74) -/

/-- An event's bearings for a trip in flight whose end is at hand: the first request, and nothing of its record handed yet. -/
structure tripAtEnd (r : TripReq) (rest : List TripReq) (s : State) : Prop where
  running : s.stage = .running
  state : s.seq.state ∈ [SeqState.tripping, .lockout, .mechFail]
  trip : s.seq.trip = some (r :: rest)
  part : s.orl.part = none

theorem takeInterruption_undone (pp : PulsePart) (s : State) (h : pp.outcome ≠ .done) : takeInterruption pp s = s := if_neg h

/-- A completion without movement counts nothing and wears nothing. -/
theorem tripCompletion_noMove (pp : PulsePart) (partFirst : Bool) (s : State) (r : TripReq) (rest : List TripReq)
    (h : tripAtEnd r rest s) (hpp : pp.outcome = .noMove) :
    tripCompletion .noMove pp partFirst s =
      if (r :: rest).any (· == .exhaustion) then exhaustionTripEnded (tripOver (afterTrip .noMove s) (tripRecorded r pp s))
      else tripOver (afterTrip .noMove s) (tripRecorded r pp s) := by
  have hwear (x : State) : takeInterruption pp x = x := takeInterruption_undone pp x (by simp [hpp])
  have hrecords : interruptionRecords pp s = [] := by simp [interruptionRecords, hpp]
  rw [tripCompletion_eq .noMove pp s r rest partFirst h.part h.trip]
  simp only [countTrip_undone .noMove s (by decide), hwear, hrecords, ite_self]
  rfl

theorem afterTrip_noMove (s : State) (h : s.seq.state ∈ [SeqState.tripping, .lockout, .mechFail]) :
    afterTrip .noMove s = .mechFail ∨ (afterTrip .noMove s = .failedAgain ∧ s.seq.state = .mechFail) := by
  unfold afterTrip
  cases hs : s.seq.state <;> simp [hs] at h ⊢

/-- What TRIP_PULSE_TIMEOUT and the measurement after 120 ms both leave (R49, R50, R74, R81). -/
structure tripUnmoved (r : TripReq) (after : Nat) (s t : State) : Prop where
  state : t.seq.state = .mechFail
  trip : t.seq.trip = none
  shots : t.seq.shots = s.seq.shots
  idle : t.act.state = .idle
  mech : t.act.mech = true
  queued : s.act.mech = false → writeQueued (.mech true) t
  peu : t.peu = s.peu
  logs : logs [tripBody r ⟨.noMove, 120, s.act.heldMs, s.act.before.getD 0, after, s.lsu.meas.a, s.lsu.meas.b, s.lsu.meas.c⟩ s,
    .mechFail .trip] s t
  capture : t.orl.capture = none

theorem endTrip_noMove (fin : PulseEnd) (s : State) (r : TripReq) (rest : List TripReq) (h : tripAtEnd r rest s)
    (hg : s.seq.pendingGroup = none) (hh : s.sst.held = none) :
    tripUnmoved r (min 350 fin.capAfter) s (endTrip .noMove 120 fin s) ∧ (endTrip .noMove 120 fin s).hlc.queue = s.hlc.queue := by
  let pp := pulsePart s .noMove 120 (s.act.before.getD 0) (min 350 fin.capAfter)
  let x := setMech true s.pulseEnded
  have hx : tripAtEnd r rest x := ⟨by simpa [x, State.pulseEnded] using h.running, by simpa [x, State.pulseEnded] using h.state,
    by simpa [x, State.pulseEnded] using h.trip, by simpa [x, State.pulseEnded] using h.part⟩
  obtain ⟨hstage, hpeu, hseq, hact, -, -, hqueue, hlogs, hcapture⟩ := tripRecorded_leaves r pp x hx.running
  let z := tripRecorded r pp x
  have hd : afterTrip .noMove x = .mechFail ∨ (afterTrip .noMove x = .failedAgain ∧ z.seq.state = .mechFail) :=
    hseq ▸ afterTrip_noMove x hx.state
  obtain ⟨hstate, htrip, hshots, hpeu', horl, hqueued⟩ := noMove_carried z (by rw [hseq]; simpa [x, State.pulseEnded])
    (by simpa [z, tripRecorded, completeTrip, takeInterruption_undone, pp, pulsePart, x, State.pulseEnded]) _ hstage hd
  let u := tripOver (afterTrip .noMove x) z
  have hidle : u.act = { s.act.toIdle with mech := true } := by
    simp only [u, z, tripOver_keeps, hact]
    simp [x, setMech_act, State.pulseEnded]
  have hu : tripUnmoved r (min 350 fin.capAfter) s u := by
    refine ⟨hstate, htrip, ?_, by rw [hidle]; rfl, by rw [hidle], fun hm => ?_, ?_, ?_, ?_⟩
    · rw [hshots, hseq]
      simp [x, State.pulseEnded]
    · have hset : writeQueued (.mech true) x := setMech_queued true s.pulseEnded (by simp [State.pulseEnded, Act.toIdle, hm])
      have hz : writeQueued (.mech true) z := by
        refine complete_keeps_queued _ _ _ ?_ (by simp [RetItem.item])
        rw [takeInterruption_undone pp x (by simp [pp, pulsePart])]
        exact hset
      exact hqueued _ hz (by simp [RetItem.item]) (by simp [RetItem.item])
    · rw [hpeu', hpeu]
      simp [x, State.pulseEnded]
    · have hbody : tripBody r pp x = tripBody r ⟨.noMove, 120, s.act.heldMs, s.act.before.getD 0, min 350 fin.capAfter, s.lsu.meas.a,
          s.lsu.meas.b, s.lsu.meas.c⟩ s := by
        simp [tripBody, pp, pulsePart, x, State.pulseEnded]
      have hs : x.orl = s.orl := by simp [x, State.pulseEnded]
      have hall : Machine.logs [tripBody r pp x, .mechFail .trip] x u := by
        rw [Machine.logs, horl, Orl.enter_log, hlogs]
        rfl
      rw [hbody, Machine.logs, hs] at hall
      exact hall
    · rw [horl]
      exact hcapture
  have hline : u.hlc.queue = s.hlc.queue := by
    simp only [u, z, tripOver_keeps, hqueue]
    simp [x, State.pulseEnded]
  have hend : endTrip .noMove 120 fin s = tripCompletion .noMove pp fin.partFirst x := rfl
  rw [hend, tripCompletion_noMove pp fin.partFirst x r rest hx rfl]
  split
  · exact ⟨⟨hu.state, hu.trip, hu.shots, hu.idle, hu.mech, hu.queued, hu.peu, hu.logs, hu.capture⟩, hline⟩
  · exact ⟨hu, hline⟩

/-! ### The measurement that ends a spent pulse (spec/04 R74, log 49) -/

/-- Outside RECLOSE_HOLD the energy-ready event is at most held for a SEQ that has not decided. -/
theorem energyReady_unheld (s : State) (h : s.seq.state ≠ .recloseHold) :
    ∃ events, seqEvent .energyReady s = { s with seq := { s.seq with events := events } } := by
  unfold seqEvent takeEvent seqEnergyReady
  split
  · exact ⟨s.seq.events, by simp [h]⟩
  · exact ⟨_, rfl⟩

theorem rechargeReview_eq (before : Bool) (s : State) : ∃ b, rechargeReview before s = { s with bcu := b } := by
  unfold rechargeReview resumeTest
  (repeat' split) <;> exact ⟨_, rfl⟩

/-- What ends the pulse is followed by nothing that a trip without movement could see. -/
theorem measureCap_spent (volts : Nat) (s : State) (hpulse : s.act.state = .tripPulse) (hms : s.act.pulseMs = some 120)
    (u : State) (hu : u = endTrip .noMove 120 ⟨clampVolts volts, true⟩ (s.measured volts)) (hidle : u.act.state = .idle)
    (hstate : u.seq.state = .mechFail) :
    ∃ b events, measureCap volts s = { u with bcu := b, seq := { u.seq with events := events } } := by
  have hspent : endSpent (clampVolts volts) (s.measured volts) = u := by
    rw [hu]
    exact endSpent_of_spent _ _ ((Act.spent_iff _).2 ⟨hpulse, hms⟩)
  have hheld : releaseHeld u = u := by simp [releaseHeld, hidle]
  obtain ⟨b, hb⟩ := rechargeReview_eq s.act.rechargeDemand u
  obtain ⟨events, he⟩ := energyReady_unheld { u with bcu := b } (by simp [hstate])
  have hall : measureCap volts s = if s.act.rechargeDemand = true ∧ (s.measured volts).act.rechargeDemand = false
      then seqEvent .energyReady (rechargeReview s.act.rechargeDemand (releaseHeld (endSpent (clampVolts volts) (s.measured volts))))
      else rechargeReview s.act.rechargeDemand (releaseHeld (endSpent (clampVolts volts) (s.measured volts))) := rfl
  rw [hall, hspent, hheld, hb, he]
  split
  · exact ⟨b, events, rfl⟩
  · exact ⟨b, u.seq.events, rfl⟩

theorem exec_tripPulseTimeout (fin : PulseEnd) (s : State) (h : s.act.state = .tripPulse) :
    exec (.tripPulseTimeout fin) s = .next (pump (endTrip .noMove 120 fin s)) := by
  change execTripPulseTimeout fin s = _
  simp [execTripPulseTimeout, happens, h, tripPulseMs]

theorem exec_closePulseTimeout (fin : PulseEnd) (s : State) (h : s.act.state = .closePulse) :
    exec (.closePulseTimeout fin) s = .next (pump (endClose .noMove 200 fin s)) := by
  change execClosePulseTimeout fin s = _
  simp [execClosePulseTimeout, happens, h, closePulseMs]

end Sys2Proof.Machine
end

section
/-! SUPPORT and PROOFS. A close pulse that ends NO_MOVE (spec/03 R56, R58; spec/04 R78, R80), and pulses without movement put together;
O14. -/

namespace Sys2Proof.Machine

/-- SEQ's share of a close without movement: the MECH_FAIL record, then LOCKOUT (R56, R58). -/
def closeFailed (s : State) : State := enterLockout .mechCleared (complete (.mechFail .close) s)

theorem seqCloseCompletion_noMove (s : State) (h : s.seq.state ∈ [SeqState.reclosing, .closing]) :
    seqCloseCompletion .noMove s = if s.seq.state = .closing then answerHeldClose .mechFail (closeFailed s) else closeFailed s := by
  unfold seqCloseCompletion closeFailed
  cases hs : s.seq.state <;> simp [hs] at h ⊢

/-- SEQ in LOCKOUT for MECH_CLEARED, ACT IDLE with its flag set, and the records of a close without movement. -/
structure closeUnmoved (body : RecBody) (s t : State) : Prop where
  state : t.seq.state = .lockout
  cause : t.seq.cause = some .mechCleared
  shots : t.seq.shots = s.seq.shots
  idle : t.act.state = .idle
  mech : t.act.mech = true
  count : t.orl.opCount = s.orl.opCount
  failed : ∃ x ∈ t.orl.ring, x.body = .mechFail .close
  closed : ∃ x ∈ t.orl.ring, x.body = body
  queue : t.hlc.queue = s.hlc.queue

theorem closeFailed_seq (s : State) : (closeFailed s).seq.state = .lockout ∧ (closeFailed s).seq.cause = some .mechCleared ∧
    (closeFailed s).seq.shots = s.seq.shots ∧ (closeFailed s).seq.heldClose = s.seq.heldClose := by
  simp [closeFailed, enterLockout_seq, Seq.stopTimers]

theorem closeFailed_orl (s : State) (hs : s.stage = .running) :
    (closeFailed s).orl = (.mechFail .close :: .lockout .mechCleared s.seq.shots :: groupRecords s).foldl Orl.enter s.orl := by
  rw [closeFailed, enterLockout_orl _ _ (by simpa), complete_orl_running _ _ hs]
  simp [groupRecords]

section
variable (s : State) (h : s.seq.state ∈ [SeqState.reclosing, .closing])
include h

theorem seqCloseCompletion_noMove_leaves :
    (seqCloseCompletion .noMove s).seq.state = .lockout ∧ (seqCloseCompletion .noMove s).seq.cause = some .mechCleared ∧
    (seqCloseCompletion .noMove s).seq.shots = s.seq.shots ∧ (seqCloseCompletion .noMove s).orl = (closeFailed s).orl ∧
    (seqCloseCompletion .noMove s).hlc.queue = s.hlc.queue := by
  obtain ⟨hstate, hcause, hshots, -⟩ := closeFailed_seq s
  have hqueue : (closeFailed s).hlc.queue = s.hlc.queue := by simp [closeFailed]
  rw [seqCloseCompletion_noMove s h]
  split <;> simp [hstate, hcause, hshots, hqueue]

theorem seqCloseCompletion_noMove_answers (f : RxFrame) (hs : s.seq.state = .closing) (hh : s.seq.heldClose = some .host)
    (hf : s.hlc.current = some f) : (seqCloseCompletion .noMove s).answered f.kind f.tag .mechFail [] := by
  obtain ⟨-, -, -, hheld⟩ := closeFailed_seq s
  rw [seqCloseCompletion_noMove s h, if_pos hs]
  exact answerHeldClose_answers_host .mechFail _ f (hheld.trans hh) (by simpa [closeFailed])

end

/-- The CLOSE record of a pulse without movement. -/
def State.unmovedRecord (fin : PulseEnd) (s : State) : RecBody :=
  .close (s.act.origin.getD .auto) .noMove 200 (s.act.before.getD 0) (min 350 fin.capAfter)

/-- The state with the pulse ended and the flag set (R78, R81). -/
def State.pulseFailed (s : State) : State := setMech true s.pulseEnded

theorem pulseFailed_keeps (s : State) : s.pulseFailed.stage = s.stage ∧ s.pulseFailed.seq = s.seq ∧ s.pulseFailed.orl = s.orl ∧
    s.pulseFailed.hlc = s.hlc ∧ s.pulseFailed.act = { s.act.toIdle with mech := true } := by
  simp [State.pulseFailed, State.pulseEnded, setMech_act]

theorem endClose_noMove_eq (fin : PulseEnd) (s : State) : endClose .noMove 200 fin s =
    if fin.partFirst then seqCloseCompletion .noMove (complete (s.unmovedRecord fin) s.pulseFailed)
    else complete (s.unmovedRecord fin) (seqCloseCompletion .noMove s.pulseFailed) := rfl

theorem endClose_noMove (fin : PulseEnd) (s : State) (hs : s.stage = .running) (h : s.seq.state ∈ [SeqState.reclosing, .closing]) :
    closeUnmoved (s.unmovedRecord fin) s (endClose .noMove 200 fin s) ∧
    ∀ f, s.seq.state = .closing → s.seq.heldClose = some .host → s.hlc.current = some f →
      (endClose .noMove 200 fin s).answered f.kind f.tag .mechFail [] := by
  obtain ⟨hstage, hseq, horl, hhlc, hact⟩ := pulseFailed_keeps s
  have hrun : s.pulseFailed.stage = .running := hstage.trans hs
  rw [endClose_noMove_eq]
  split
  · let x := complete (s.unmovedRecord fin) s.pulseFailed
    have hx : x.seq = s.seq := by simp [x, hseq]
    obtain ⟨hstate, hcause, hshots, horl', hqueue⟩ := seqCloseCompletion_noMove_leaves x (hx ▸ h)
    have hlen := groupRecords_length x
    have hlogs : (seqCloseCompletion .noMove x).orl =
        (s.unmovedRecord fin :: .mechFail .close :: .lockout .mechCleared x.seq.shots :: groupRecords x).foldl Orl.enter s.orl := by
      rw [horl', closeFailed_orl x (by simpa [x]), ← horl]
      simp [x, complete_orl_running _ _ hrun]
    have hall := logs_of_orl hlogs
    refine ⟨⟨hstate, hcause, by rw [hshots, hx], by simp [hact, Act.toIdle], by simp [hact], ?_, ?_, ?_, ?_⟩,
      fun f hcl hh hf => seqCloseCompletion_noMove_answers x (hx ▸ h) f (hx ▸ hcl) (hx ▸ hh) (by simpa [x, hhlc])⟩
    · rw [hlogs]
      exact (foldl_enter_keeps_more _ _).1
    · exact hall.exists_mem (by simp only [List.length_cons]; omega) (by simp)
    · exact hall.exists_mem (by simp only [List.length_cons]; omega) (by simp)
    · rw [hqueue]
      simp [x, hhlc]
  · let x := s.pulseFailed
    obtain ⟨hstate, hcause, hshots, horl', hqueue⟩ := seqCloseCompletion_noMove_leaves x (hseq ▸ h)
    have hlen := groupRecords_length x
    have hlogs : (complete (s.unmovedRecord fin) (seqCloseCompletion .noMove x)).orl =
        ((.mechFail .close :: .lockout .mechCleared x.seq.shots :: groupRecords x) ++ [s.unmovedRecord fin]).foldl Orl.enter s.orl := by
      rw [complete_orl_running _ _ (by simpa [x] using hrun), horl', closeFailed_orl x hrun, List.foldl_append, horl]
      rfl
    have hall := logs_of_orl hlogs
    refine ⟨⟨by simpa using hstate, by simpa using hcause, by simp [hshots, x, hseq], by simp [hact, Act.toIdle], by simp [hact],
      ?_, ?_, ?_, ?_⟩, fun f hcl hh hf => complete_answered _ _ _ _ _ _
        (seqCloseCompletion_noMove_answers x (hseq ▸ h) f (hseq ▸ hcl) (hseq ▸ hh) (hhlc ▸ hf))⟩
    · rw [hlogs]
      exact (foldl_enter_keeps_more _ _).1
    · exact hall.exists_mem (by simp only [List.length_append, List.length_cons, List.length_nil]; omega) (by simp)
    · exact hall.exists_mem (by simp only [List.length_append, List.length_cons, List.length_nil]; omega) (by simp)
    · rw [complete_queue, hqueue]
      exact congrArg Hlc.queue hhlc

/-- Settles O14: a spent coil is off, a trip without movement ends in MECH_FAIL by either event, a close without movement in LOCKOUT. -/
theorem pulsesWithoutMovement : Obligations.PulsesWithoutMovement := by
  intro s fin volts ⟨hrun, _, hqueue⟩
  refine ⟨fun hpulse hms => ?_, fun c after r rest hc hpulse htrip hpart hs hg hh => ?_, fun hpulse hs => ?_⟩
  · simp [State.tripDrive, Act.spent, hpulse, hms, tripPulseMs]
  · rcases hc with ⟨rfl, rfl⟩ | ⟨hms, rfl, rfl⟩
    · obtain ⟨hu, hline⟩ := endTrip_noMove fin s r rest ⟨hrun, hs, htrip, hpart⟩ hg hh
      refine ⟨_, (exec_tripPulseTimeout fin s hpulse).trans (congrArg _ (pump_without_frames _ (hline.trans hqueue))), hu.state, hu.trip,
        hu.shots, hu.idle, hu.mech, hu.queued, hu.peu, hu.logs.first (by simp), hu.logs.exists_mem (by simp) (by simp), hu.capture⟩
    · let fin' : PulseEnd := ⟨clampVolts volts, true⟩
      obtain ⟨hu, -⟩ := endTrip_noMove fin' (s.measured volts) r rest ⟨hrun, hs, htrip, hpart⟩ hg hh
      obtain ⟨b, events, heq⟩ := measureCap_spent volts s hpulse hms _ rfl hu.idle hu.state
      have hafter : min 350 fin'.capAfter = min 350 volts := by simp [fin', clampVolts]
      have hlogs := hafter ▸ hu.logs
      refine ⟨_, exec_capacitorMeasurement volts s hrun, ?_⟩
      rw [heq]
      exact ⟨hu.state, hu.trip, hu.shots, hu.idle, hu.mech, hu.queued, hu.peu, hlogs.first (by simp),
        hlogs.exists_mem (by simp) (by simp), hu.capture⟩
  · obtain ⟨hu, hans⟩ := endClose_noMove fin s hrun hs
    exact ⟨_, (exec_closePulseTimeout fin s hpulse).trans (congrArg _ (pump_without_frames _ (hu.queue.trans hqueue))), hu.state, hu.cause,
      hu.shots, hu.idle, hu.mech, hu.count, hu.failed, hu.closed, hans⟩

end Sys2Proof.Machine
end

section
/-! SUPPORT and PROOFS. What a start reading leaves (spec/03 R66; spec/04 R70; spec/07 R140; spec/10 R188); O21. -/

namespace Sys2Proof.Machine

@[simp] theorem decideStart_keeps (p : Position) (s : State) :
    (decideStart p s).stage = s.stage ∧ (decideStart p s).peu = s.peu ∧ (decideStart p s).act = s.act ∧
    (decideStart p s).orl = s.orl ∧ (decideStart p s).hlc = s.hlc := by
  simp [decideStart]

/-- READY's frame (spec/10 R188). -/
def readyFrame (k : StartKind) : Frame := ⟨0xF1#8, 0#8, [if k = .cold then 0#8 else 1#8], true⟩

theorem readyNotice_eq (k : StartKind) : readyNotice k = readyFrame k := by
  cases k <;> rfl

/-- A notice is placed behind what waits. -/
theorem placeNotice_head (f g : Frame) (s : State) (h : s.hlc.tx.head? = some g) : (placeNotice f s).hlc.tx.head? = some g := by
  simp only [placeNotice]
  split
  · simp [h]
  · exact h

theorem enterRecord_head (r : Record) (g : Frame) (s : State) (h : s.hlc.tx.head? = some g) :
    (enterRecord r s).hlc.tx.head? = some g := by
  have hnotice := placeNotice_head (recordNotice r) g (queueWrite (.ring (addToRing r s).orl.ring (addToRing r s).orl.next) (addToRing r s))
    (by simpa [addToRing])
  unfold enterRecord reportRecord
  dsimp only
  split
  · simpa [report] using hnotice
  · exact hnotice

/-- The RESTART record of a start (spec/07 R140). -/
def restartBody (k : StartKind) (s : State) : RecBody :=
  .restart k (s.orl.ring.head?.map (·.number)) (s.orl.ring.getLast?.map (·.number))

/-- With nothing waiting: READY is the first frame, and the RESTART record the newest. -/
theorem announceStart_announces (k : StartKind) (s : State) (hwaiting : s.orl.waiting = []) (htx : s.hlc.tx = []) :
    recorded (restartBody k s) s (announceStart k s) ∧ (announceStart k s).hlc.tx.head? = some (readyFrame k) ∧
    (announceStart k s).hlc.queue = s.hlc.queue := by
  let x : State := { placeNotice (readyNotice k) s with stage := .running }
  let y : State := { x with orl := { x.orl with waiting := [] } }
  have hann : announceStart k s = completeNow (restartBody k s) y := by
    unfold announceStart
    simp only [hwaiting, List.foldl_nil]
    rfl
  rw [hann]
  refine ⟨?_, ?_, by simp [completeNow, y, x, placeNotice]⟩
  · simpa [recorded, y, x, placeNotice] using completeNow_recorded (restartBody k s) y
  · refine enterRecord_head _ _ y ?_
    simp [y, x, placeNotice, htx, noticeTop, readyNotice_eq]

theorem takeHeldEvents_without (s : State) (h : s.seq.events = []) :
    takeHeldEvents s = { s with seq := { s.seq with decided := true, events := [] } } := by
  simp [takeHeldEvents, h]

theorem startDecision_eq (p : Position) (mech : Bool) (c : Option Cause) :
    startDecision p mech c =
      (if mech then .mechFail else if p = .closed then .closed else .lockout,
       if mech ∨ p = .closed then none else if p = .isOpen then some (c.getD .restart) else some .restart) := by
  unfold startDecision
  cases mech <;> cases p <;> rfl

/-- What the obligation says of a start that found position p. -/
def startDecided (k : StartKind) (p : Position) (s t : State) : Prop :=
  t.stage = .running ∧ t.seq.decided = true ∧ t.act.position = p ∧ t.act.startRead = true ∧ t.peu = s.peu ∧
  t.seq = { s.seq with
    state := if s.act.mech then .mechFail else if p = .closed then .closed else .lockout
    cause := if s.act.mech ∨ p = .closed then none
      else if p = .isOpen then some (s.sst.store.lockout.getD .restart) else some .restart
    decided := true, events := [] } ∧
  recorded (restartBody k s) s t ∧ t.hlc.tx.head? = some (readyFrame k)

theorem startReading_decides (k : StartKind) (p : Position) (s : State) (hevents : s.seq.events = []) (hwaiting : s.orl.waiting = [])
    (hqueue : s.hlc.queue = []) (htx : s.hlc.tx = []) : startDecided k p s (startReading k p s) := by
  let x : State := { s with act := { s.act with position := p, startRead := true } }
  let y := decideStart p x
  let z := announceStart k y
  obtain ⟨hrec, hready, hq⟩ := announceStart_announces k y (by simpa [y, x]) (by simpa [y, x])
  have hz : z.seq.events = [] := by simpa [z, y, x]
  have hstart : startReading k p s = { z with seq := { z.seq with decided := true, events := [] } } := by
    change pump (takeHeldEvents z) = _
    rw [takeHeldEvents_without z hz]
    exact pump_without_frames _ (hq.trans (by simpa [y, x]))
  rw [hstart]
  refine ⟨by simp [z], rfl, by simp [z, y, x], by simp [z, y, x], by simp [z, y, x], ?_, ?_, hready⟩
  · simp [z, y, x, startDecision_eq]
  · simpa [restartBody, recorded, y, x, z] using hrec

/-- A start reading from two debounced contacts (R70). -/
theorem exec_contact_starts (c : Contact) (x : ContactState) (p : Position) (fin : PulseEnd) (s : State) (k : StartKind)
    (hs : s.stage = .starting k) (hdec : (readContact c x 4 s.act).decoded = some p) :
    exec (.contactDebounced c x 4 fin) s = .next (startReading k p { s with act := readContact c x 4 s.act }) := by
  change execContactDebounced c x 4 fin s = _
  simp [execContactDebounced, whenStarted, happens, hs, Stage.started, contactRead, hdec, takePosition]

theorem exec_startReadingTimeout (s : State) (k : StartKind) (hs : s.stage = .starting k) :
    exec .startReadingTimeout s = .next (startReading k .unknown s) := by
  change execStartReadingTimeout s = _
  simp [execStartReadingTimeout, hs]

/-- Settles O21: at the timeout or from the contacts, one decision. -/
theorem startDecidesTheState : Obligations.StartDecidesTheState := by
  intro s k fin hs hevents hwaiting hqueue htx
  have decides (p : Position) (a : Act) (hmech : a.mech = s.act.mech) : startDecided k p s (startReading k p { s with act := a }) := by
    obtain ⟨hstage, hdec, hposition, hread, hpeu, hseq, hrestart, hready⟩ :=
      startReading_decides k p { s with act := a } hevents hwaiting hqueue htx
    exact ⟨hstage, hdec, hposition, hread, hpeu, hmech ▸ hseq, hrestart, hready⟩
  refine ⟨⟨_, exec_startReadingTimeout s k hs, decides .unknown s.act rfl⟩, fun hc => ?_, fun ho => ?_⟩
  · exact ⟨_, exec_contact_starts _ _ _ fin s k hs (readOpen_decoded .made .notMade s.act hc), decides .isOpen _ (by simp)⟩
  · exact ⟨_, exec_contact_starts _ _ _ fin s k hs (readClosed_decoded .made .notMade s.act ho), decides .closed _ (by simp)⟩

end Sys2Proof.Machine
end

section
/-! SUPPORT and PROOFS. A tag placed (spec/03 R61; spec/05 R89 to R94): the number found, the slot filled, and what SEQ, the record and the
store make of it; O26. -/

namespace Sys2Proof.Machine

/-! ### The search for a free number (R90) -/

theorem tagAfter_iterate (n k : Nat) (h1 : 1 ≤ n) (h2 : n ≤ 65535) : tagAfter^[k] n = (n - 1 + k) % 65535 + 1 := by
  induction k with
  | zero => simp only [Function.iterate_zero_apply]; omega
  | succ k ih =>
    rw [Function.iterate_succ_apply', ih]
    unfold tagAfter
    split <;> omega

/-- Fewer tags than numbers tried: one of them is free. -/
theorem TagTable.free_among (t : TagTable) (h : t.sound) (m : Nat) (hm : t.tags.length < m) (htop : m ≤ 65535) :
    ∃ k < m, t.holds (tagAfter^[k] t.next) = false := by
  obtain ⟨-, -, h1, h2, -⟩ := h
  by_contra hall
  push Not at hall
  let tried := (List.range m).map fun k => tagAfter^[k] t.next
  have hnodup : tried.Nodup := List.nodup_range.map_on fun i hi j hj heq => by
    rw [List.mem_range] at hi hj
    rw [tagAfter_iterate _ i h1 h2, tagAfter_iterate _ j h1 h2] at heq
    omega
  have hheld : tried ⊆ t.tags.map (·.number) := fun n hn => by
    obtain ⟨k, hk, rfl⟩ := List.mem_map.1 hn
    simpa [TagTable.holds] using hall k (List.mem_range.1 hk)
  have hlen := (List.subperm_of_subset hnodup hheld).length_le
  simp only [tried, List.length_map, List.length_range] at hlen
  omega

/-- Where one of the numbers tried is free, the first such is found. -/
theorem freeNumber_finds (t : TagTable) (m n : Nat) (h : ∃ k < m, t.holds (tagAfter^[k] n) = false) :
    ∃ k < m, freeNumber t m n = tagAfter^[k] n ∧ t.holds (tagAfter^[k] n) = false ∧ ∀ j < k, t.holds (tagAfter^[j] n) = true := by
  induction m generalizing n with
  | zero => obtain ⟨k, hk, -⟩ := h; omega
  | succ m ih =>
    by_cases hn : t.holds n = true
    · obtain ⟨k, hk, hfree⟩ := h
      cases k with
      | zero => exact absurd hn (by simpa using hfree)
      | succ k =>
        obtain ⟨i, hi, hfind, hfree', hheld⟩ := ih (tagAfter n) ⟨k, by omega, hfree⟩
        refine ⟨i + 1, by omega, by rw [freeNumber, if_pos hn, hfind]; rfl, hfree', fun j hj => ?_⟩
        cases j with
        | zero => exact hn
        | succ j => exact hheld j (by omega)
    · exact ⟨0, by omega, by rw [freeNumber, if_neg hn]; rfl, by simpa using hn, fun j hj => absurd hj (Nat.not_lt_zero j)⟩

/-! ### The slot filled (R89) -/

theorem fillSlot_fills (x : Tag) (l : List (Option Tag)) (h : (l.filterMap id).length < l.length) :
    ∃ i < l.length, l.getD i none = none ∧ (∀ j < i, (l.getD j none).isSome = true) ∧ fillSlot x l = l.set i (some x) := by
  induction l with
  | nil => simp at h
  | cons o rest ih =>
    cases o with
    | none => exact ⟨0, by simp, rfl, fun j hj => absurd hj (Nat.not_lt_zero j), rfl⟩
    | some y =>
      obtain ⟨i, hi, hnone, hsome, hfill⟩ := ih (by simpa using h)
      refine ⟨i + 1, by simpa using hi, by simpa using hnone, fun j hj => ?_, by simp [fillSlot, hfill]⟩
      cases j with
      | zero => rfl
      | succ j => simpa using hsome j (by omega)

/-- A table with a tag is not in mode NONE, and with a NO_CLOSE tag it is in that mode (R91). -/
theorem TagTable.mode_of_mem (t : TagTable) (x : Tag) (hx : x ∈ t.tags) :
    t.mode ≠ .none ∧ (x.mode = .noClose → t.mode = .noClose) := by
  have hne : t.tags ≠ [] := List.ne_nil_of_mem hx
  refine ⟨?_, fun hm => if_pos (List.any_eq_true.2 ⟨x, hx, by simp [hm]⟩)⟩
  unfold TagTable.mode
  split_ifs <;> simp_all

/-- A new tag in a sound table that is not full (R89, R90). -/
theorem TagTable.store_stores (t : TagTable) (x : Tag) (h : t.sound) (hlen : t.tags.length < 8) :
    ∃ n k i, freeNumber t 8 t.next = n ∧ k < 8 ∧ reachedFrom t k n ∧ t.holds n = false ∧
      (t.store x).next = (if n = 65535 then 1 else n + 1) ∧ i < 8 ∧ t.slots.getD i none = none ∧
      (∀ j < i, (t.slots.getD j none).isSome = true) ∧ (t.store x).slots = t.slots.set i (some { x with number := n }) := by
  obtain ⟨k, hk, hfind, hfree, hheld⟩ := freeNumber_finds t 8 t.next (t.free_among h 8 hlen (by decide))
  have hslots : t.slots.length = 8 := h.1
  obtain ⟨i, hi, hnone, hsome, hfill⟩ := fillSlot_fills { x with number := freeNumber t 8 t.next } t.slots (by rw [hslots]; exact hlen)
  exact ⟨_, k, i, rfl, hk, ⟨hfind, hheld⟩, hfind ▸ hfree, rfl, by omega, hnone, hsome, hfill⟩

/-! ### A tag accepted (R61, R94) -/

/-- SEQ's cause is TAG and its state LOCKOUT where a tag ends a dead time or a hold (R61). -/
theorem seqTagAccepted_leaves (s : State) :
    (s.seq.state ∈ [SeqState.deadTime, .recloseHold] → (seqTagAccepted s).seq.state = .lockout ∧ (seqTagAccepted s).seq.cause = some .tag) ∧
    (s.seq.state ∉ [SeqState.deadTime, .recloseHold] → (seqTagAccepted s).seq = s.seq) := by
  refine ⟨fun h => ?_, fun h => ?_⟩
  · have h' : s.seq.state = .deadTime ∨ s.seq.state = .recloseHold := by simpa using h
    simp [seqTagAccepted, h', enterLockout_seq]
  · have h' : ¬ (s.seq.state = .deadTime ∨ s.seq.state = .recloseHold) := by simpa using h
    simp [seqTagAccepted, h']

@[simp] theorem seqTagAccepted_hlc_line (s : State) :
    (seqTagAccepted s).hlc.current = s.hlc.current ∧ (seqTagAccepted s).hlc.queue = s.hlc.queue := by
  unfold seqTagAccepted
  split <;> simp

/-- A tag accepted by a SEQ that has decided, in a running part. -/
theorem acceptTag_leaves (t : TagTable) (x : Tag) (s : State) (hs : s.stage = .running) (hd : s.seq.decided = true) :
    (acceptTag t x s).tag.table = t ∧ writeQueued (.tags t) (acceptTag t x s) ∧
    (∃ r ∈ (acceptTag t x s).orl.ring, r.body = .tagPlaced x) ∧
    (s.seq.state ∈ [SeqState.deadTime, .recloseHold] → (acceptTag t x s).seq.state = .lockout ∧ (acceptTag t x s).seq.cause = some .tag) ∧
    (s.seq.state ∉ [SeqState.deadTime, .recloseHold] → (acceptTag t x s).seq.state = s.seq.state) ∧
    (acceptTag t x s).hlc.current = s.hlc.current ∧ (acceptTag t x s).hlc.queue = s.hlc.queue := by
  let y : State := { s with tag := { s.tag with table := t } }
  have hacc : acceptTag t x s = queueWrite (.tags t) (complete (.tagPlaced x) (seqTagAccepted y)) := by
    rw [acceptTag, seqEvent_decided _ y hd]
    rfl
  obtain ⟨hlocked, hkept⟩ := seqTagAccepted_leaves y
  rw [hacc]
  refine ⟨by simp [y], queueWrite_queued _ _, ?_, fun h => by simpa using hlocked h, fun h => ?_, by simp [y], by simp [y]⟩
  · have hlogs := logs_complete (.tagPlaced x) (seqTagAccepted y) (by simpa [y])
    simpa using hlogs.exists_mem (by simp) (List.mem_singleton_self _)
  · simpa [y] using congrArg Seq.state (hkept h)

/-! ### The placement (R92, R93) -/

/-- The frame of a TAG_PLACE (spec/10 R185). -/
def tagPlaceFrame (tag mode : Byte) (crew expiry : BitVec 16) : RxFrame := ⟨0x20#8, tag, .tagPlace crew.toNat mode.toNat expiry.toNat⟩

theorem badPlacement_iff (mode : Byte) (crew expiry : BitVec 16) :
    badPlacement crew.toNat mode.toNat expiry.toNat = true ↔
      crew.toNat = 0 ∨ 9999 < crew.toNat ∨ 1 < mode.toNat ∨ (expiry ≠ 0 ∧ (expiry.toNat < 15 ∨ 1440 < expiry.toNat)) ∨
        (mode = 1 ∧ expiry ≠ 0) := by
  simp [badPlacement, badCrew, BitVec.toNat_eq]
  tauto

theorem toNat_eq_one_iff (b : Byte) : b.toNat = 1 ↔ b = 1 := by simp [BitVec.toNat_eq]

theorem tagModeOf_toNat (b : Byte) : tagModeOf b.toNat = if b = 1 then .noClose else .noReclose := by
  simp [tagModeOf, toNat_eq_one_iff]

section
variable (tag mode : Byte) (crew expiry : BitVec 16) (s : State) (h : s.serving)
include h

/-- A placement that its owner refuses is answered, and nothing else. -/
theorem exec_tagPlace_refused (res : Res)
    (href : ∀ a, placeTag a crew.toNat mode.toNat expiry.toNat (s.taking (tagPlaceFrame tag mode crew expiry)) =
      (s.taking (tagPlaceFrame tag mode crew expiry), res, none)) :
    exec (.tagPlace tag crew mode expiry) s = .next (s.replied 0x20#8 tag res []) := by
  refine congrArg Host.Outcome.next (receive_answered (tagPlaceFrame tag mode crew expiry) res [] s h fun a => ?_)
  change serveTagPlace a crew.toNat mode.toNat expiry.toNat _ = _
  simp only [serveTagPlace, href]
  rfl

/-- A placement that its owner takes is carried out before the reply. -/
theorem exec_tagPlace_taken (u : State) (res : Res) (y : Option Tag)
    (htake : placeTag (keyAuthority s.hlc.key) crew.toNat mode.toNat expiry.toNat (s.taking (tagPlaceFrame tag mode crew expiry)) = (u, res, y))
    (hqueue : u.hlc.queue = []) : exec (.tagPlace tag crew mode expiry) s = .next (hostReply res (placedReply y) u) := by
  change Host.Outcome.next (receive (tagPlaceFrame tag mode crew expiry) s) = _
  have hserve : serve (keyAuthority s.hlc.key) (tagPlaceFrame tag mode crew expiry).req (s.taking (tagPlaceFrame tag mode crew expiry)) =
      hostReply res (placedReply y) u := by
    change serveTagPlace (keyAuthority s.hlc.key) crew.toNat mode.toNat expiry.toNat _ = _
    simp only [serveTagPlace, htake]
  rw [receive_serving _ s h, hserve, pumpFor_without_frames 4 _ (by simpa)]

end

theorem ofCrew_none (t : TagTable) (crew : Nat) (m : TagMode) (h : ∀ x ∈ t.tags, ¬ (x.crew = crew ∧ x.mode = m)) : t.ofCrew crew m = none :=
  List.find?_eq_none.2 fun x hx => by simpa using h x hx

/-- A sound placement of a crew without a tag of that mode: refused with the table full, or a new tag (R92, R93). -/
theorem placeTag_new (a : Authority) (mode : Byte) (crew expiry : BitVec 16) (s : State)
    (hbad : ¬ badPlacement crew.toNat mode.toNat expiry.toNat = true) (hopen : mode = 1 → s.act.position = .isOpen)
    (hnew : ∀ x ∈ s.tag.table.tags, ¬ (x.crew = crew.toNat ∧ x.mode = tagModeOf mode.toNat)) :
    placeTag a crew.toNat mode.toNat expiry.toNat s =
      if 8 ≤ s.tag.table.tags.length then (s, .tableFull, none)
      else (acceptTag (s.tag.table.store (newTag a crew.toNat mode.toNat expiry.toNat s)) (newTag a crew.toNat mode.toNat expiry.toNat s) s,
        if s.act.state = .closePulse then .deferredInFlight else .ok, some (newTag a crew.toNat mode.toNat expiry.toNat s)) := by
  have hopen' : ¬ (mode.toNat = 1 ∧ s.act.position ≠ .isOpen) := fun ⟨hm, hp⟩ => hp (hopen ((toNat_eq_one_iff mode).1 hm))
  simp [placeTag, hbad, hopen', ofCrew_none _ _ _ hnew]

/-- Settles O26: the refusals in R92's order, and the tag stored. -/
theorem tagIsPlaced : Obligations.TagIsPlaced := by
  intro tag mode crew expiry s h bad kind isNew
  obtain ⟨⟨hrun, -, hqueue⟩, -⟩ := id h
  have hbad : badPlacement crew.toNat mode.toNat expiry.toNat = true ↔ bad := badPlacement_iff mode crew expiry
  have hkind : tagModeOf mode.toNat = kind := tagModeOf_toNat mode
  refine ⟨fun hb => ?_, fun hb hm hp => ?_, fun hb hp hnew => ⟨fun hfull => ?_, fun hd hsound hroom => ?_⟩⟩
  · exact exec_tagPlace_refused tag mode crew expiry s h .badField fun a => by simp [placeTag, hbad.2 hb]
  · refine exec_tagPlace_refused tag mode crew expiry s h .notOpen fun a => ?_
    have hp' : (s.taking (tagPlaceFrame tag mode crew expiry)).act.position ≠ .isOpen := hp
    rw [placeTag, if_neg (mt hbad.1 hb), if_pos ⟨(toNat_eq_one_iff mode).2 hm, hp'⟩]
  · refine exec_tagPlace_refused tag mode crew expiry s h .tableFull fun a => ?_
    exact (placeTag_new a mode crew expiry (s.taking (tagPlaceFrame tag mode crew expiry)) (mt hbad.1 hb) hp (hkind ▸ hnew)).trans
      (if_pos hfull)
  · let w := s.taking (tagPlaceFrame tag mode crew expiry)
    let x := newTag (keyAuthority s.hlc.key) crew.toNat mode.toNat expiry.toNat w
    obtain ⟨n, k, i, hnum, hk, hreach, hfree, hnext, hi, hnone, hsome, hslots⟩ := s.tag.table.store_stores x hsound hroom
    have hx : ({ x with number := n } : Tag) = x := by simp [x, newTag, w, State.taking, ← hnum]
    rw [hx] at hslots
    have hlen : i < s.tag.table.slots.length := by rw [hsound.1]; exact hi
    have hslot : (s.tag.table.store x).slots.getD i none = some x := by simp [hslots, hlen]
    obtain ⟨hmode, hnoClose⟩ := (s.tag.table.store x).mode_of_mem x (TagTable.mem_tags_of_slot _ x i hslot)
    let u := acceptTag (s.tag.table.store x) x w
    obtain ⟨htable, hwrite, hrecord, hlocked, hkept, hcurrent, hq⟩ := acceptTag_leaves (s.tag.table.store x) x w hrun hd
    have htake : placeTag (keyAuthority s.hlc.key) crew.toNat mode.toNat expiry.toNat w =
        (u, if s.act.state = .closePulse then .deferredInFlight else .ok, some x) :=
      (placeTag_new _ mode crew expiry w (mt hbad.1 hb) hp (hkind ▸ hnew)).trans (if_neg (Nat.not_le.2 hroom))
    have htag : x =
        { number := n, crew := crew.toNat, mode := kind, auth := if s.hlc.key = .loc then .loc else .link
          placedAt := if s.orl.valid then some s.orl.time else none
          left := if expiry = 0 then none else some expiry.toNat } := by
      simp [x, newTag, w, State.taking, hnum, hkind, keyAuthority_eq, expiryOf, BitVec.toNat_eq]
    have hreply := hostReply_answered (if s.act.state = .closePulse then .deferredInFlight else .ok) (placedReply (some x)) u
      (tagPlaceFrame tag mode crew expiry) hcurrent
    obtain ⟨r, hr, hbody⟩ := hrecord
    refine ⟨_, n, k, i, exec_tagPlace_taken tag mode crew expiry s h u _ _ htake hq, hk, hreach, hfree, ?_, hi, hnone, hsome, ?_, ?_, ?_,
      ?_, ⟨r, hr, x, hbody, ?_⟩, hlocked, hkept, _, hreply⟩
    · exact htable ▸ hnext
    · rw [← htag]
      exact htable ▸ hslots
    · exact htable ▸ hmode
    · exact fun hm => htable ▸ hnoClose (by simp [htag, kind, hm])
    · exact htable ▸ hwrite
    · exact htable ▸ hslot.symm

end Sys2Proof.Machine
end

section
/-! SUPPORT and PROOFS. The reserve level graded by a measurement (spec/06 R116, R119, R120, R122): the count, the runs and the level apart
from the charger and the load test, and what follows a change; O33. -/

namespace Sys2Proof.Machine

/-! ### The battery's reserve, apart from the charger and the load test -/

/-- The BCU without its charger and its load test. -/
def Bcu.reserve (b : Bcu) : Bcu :=
  { b with charger := .noSupply, absorbTime := 0, floatLow := 0, faultClear := 0, resync := 0, test := .idle, loadMs := 0, settleMs := 0,
           suspMs := 0, baseline := none, origin := none, history := [], countdown := none }

@[simp] theorem Bcu.suspend_reserve (b : Bcu) : b.suspend.reserve = b.reserve := by
  unfold Bcu.suspend
  split <;> rfl

@[simp] theorem Bcu.settle_reserve (b : Bcu) : b.settle.reserve = b.reserve := by
  unfold Bcu.settle Bcu.chargerToTest
  split <;> rfl

@[simp] theorem Bcu.leaveFault_reserve (b : Bcu) : b.leaveFault.reserve = b.reserve := by
  unfold Bcu.leaveFault
  (repeat' split) <;> rfl

theorem Bcu.chargerMove_reserve (capacity : Nat) (b : Bcu) : (b.chargerMove capacity).reserve = b.reserve := by
  unfold Bcu.chargerMove
  split
  case h_6 =>
    split
    · exact Bcu.leaveFault_reserve _
    · rfl
  all_goals (repeat' split) <;> rfl

@[simp] theorem Bcu.chargerStep_reserve (capacity : Nat) (b : Bcu) : (b.chargerStep capacity).reserve = b.reserve := by
  unfold Bcu.chargerStep
  split
  · rfl
  · exact b.chargerMove_reserve capacity

@[simp] theorem resumeTest_reserve (s : State) : (resumeTest s).bcu.reserve = s.bcu.reserve := by
  unfold resumeTest
  dsimp only
  split <;> simp

@[simp] theorem seqTo_reserve (x : SeqState) (s : State) : (seqTo x s).bcu.reserve = s.bcu.reserve := by
  unfold seqTo
  dsimp only
  split <;> simp

theorem Bcu.reserve_congr {b c : Bcu} (h : b.reserve = c.reserve) :
    b.meas = c.meas ∧ b.level = c.level ∧ b.charge = c.charge ∧ b.soc = c.soc ∧ b.lowRun = c.lowRun ∧ b.recRun = c.recRun ∧
    b.exhRun = c.exhRun ∧ b.shutdown = c.shutdown ∧ b.tripWaitMs = c.tripWaitMs :=
  ⟨(congrArg Bcu.meas h :), (congrArg Bcu.level h :), (congrArg Bcu.charge h :), (congrArg Bcu.soc h :), (congrArg Bcu.lowRun h :),
    (congrArg Bcu.recRun h :), (congrArg Bcu.exhRun h :), (congrArg Bcu.shutdown h :), (congrArg Bcu.tripWaitMs h :)⟩

/-! ### What an operation leaves of a graded reserve -/

@[simp] theorem complete_chan (body : RecBody) (s : State) : (complete body s).rcc.chan = s.rcc.chan := by
  unfold complete completeNow enterRecord reportRecord
  (repeat' split) <;> simp [report]

@[simp] theorem complete_globalPage (body : RecBody) (s : State) : (complete body s).sst.globalPage = s.sst.globalPage := by
  unfold complete completeNow enterRecord
  split <;> simp

/-- From s to t the reserve and the channel are as they were, at most n records are made, and no write but ORL's and the history's is
displaced. -/
structure reserveKept (n : Nat) (s t : State) : Prop where
  stage : t.stage = s.stage
  reserve : t.bcu.reserve = s.bcu.reserve
  chan : t.rcc.chan = s.rcc.chan
  queue : t.hlc.queue = s.hlc.queue
  logs : ∃ bodies, bodies.length ≤ n ∧ logs bodies s t
  queued : ∀ i, writeQueued i s → i.item ≠ 5 → i.item ≠ 9 → writeQueued i t

theorem reserveKept.trans {m n : Nat} {s t u : State} (h : reserveKept m s t) (h' : reserveKept n t u) : reserveKept (m + n) s u := by
  obtain ⟨bs, hlen, hlogs⟩ := h.logs
  obtain ⟨bs', hlen', hlogs'⟩ := h'.logs
  exact ⟨h'.stage.trans h.stage, h'.reserve.trans h.reserve, h'.chan.trans h.chan, h'.queue.trans h.queue,
    ⟨bs ++ bs', by simp only [List.length_append]; omega, hlogs.trans hlogs'⟩,
    fun i hi hring hhist => h'.queued i (h.queued i hi hring hhist) hring hhist⟩

theorem reserveKept.mono {m n : Nat} {s t : State} (h : reserveKept m s t) (hle : m ≤ n) : reserveKept n s t := by
  obtain ⟨bs, hlen, hlogs⟩ := h.logs
  exact ⟨h.stage, h.reserve, h.chan, h.queue, ⟨bs, hlen.trans hle, hlogs⟩, h.queued⟩

/-- What touches neither the reserve nor channel, waiting frames, records and writes. -/
theorem reserveKept_of_eq {s t : State} (hstage : t.stage = s.stage) (hreserve : t.bcu.reserve = s.bcu.reserve)
    (hchan : t.rcc.chan = s.rcc.chan) (hqueue : t.hlc.queue = s.hlc.queue) (horl : t.orl = s.orl) (hsst : t.sst = s.sst) :
    reserveKept 0 s t :=
  ⟨hstage, hreserve, hchan, hqueue, ⟨[], Nat.le_refl 0, congrArg Orl.log horl⟩, fun i hi _ _ => writeQueued_congr i s t hsst hi⟩

theorem reserveKept_seq (q : Seq) (s : State) : reserveKept 0 s { s with seq := q } := reserveKept_of_eq rfl rfl rfl rfl rfl rfl

theorem reserveKept_refl (s : State) : reserveKept 0 s s := reserveKept_of_eq rfl rfl rfl rfl rfl rfl

theorem complete_reserveKept (body : RecBody) (s : State) (hs : s.stage = .running) : reserveKept 1 s (complete body s) :=
  ⟨by simp, by simp, by simp, by simp, ⟨[body], by simp, logs_complete body s hs⟩, fun i hi hring _ => complete_keeps_queued i body s hi hring⟩

theorem resumeTest_reserveKept (s : State) : reserveKept 0 s (resumeTest s) :=
  reserveKept_of_eq (by simp) (by simp) (by simp) (by simp) (by simp) (by simp)

theorem seqTo_reserveKept (x : SeqState) (s : State) : reserveKept 0 s (seqTo x s) :=
  reserveKept_of_eq (by simp) (by simp) (by simp) (by simp) (by simp) (by simp)

theorem startTrip_reserveKept (s : State) : reserveKept 0 s (startTrip s) :=
  reserveKept_of_eq (by simp) (by simp) (by simp) (by simp) (by simp) (by simp)

theorem answerHeldClose_reserveKept (res : Res) (s : State) : reserveKept 0 s (answerHeldClose res s) := by
  refine reserveKept_of_eq (by simp) (by simp) ?_ (by simp) (by simp) (by simp)
  unfold answerHeldClose answer
  (repeat' split) <;> simp [radioResult]

theorem cutClose_reserveKept (s : State) (hs : s.stage = .running) : reserveKept 1 s (cutClose s) := by
  let x : State := { s with act := { s.act.toIdle with converter := .paused } }
  have hrec : reserveKept 1 x (complete (closeRecord s.act .cut (s.act.pulseMs.getD 0) s.act.cap) x) := complete_reserveKept _ x hs
  have hcut (y : State) : reserveKept 0 y (seqCloseCompletion .cut y) := by
    rw [seqCloseCompletion_cut]
    split
    · exact answerHeldClose_reserveKept .ok y
    · exact reserveKept_refl y
  have hx : reserveKept 0 s x := reserveKept_of_eq rfl rfl rfl rfl rfl rfl
  exact ((hx.trans hrec).trans (hcut _)).mono (by omega)

theorem actTrip_reserveKept (s : State) (hs : s.stage = .running) : reserveKept 1 s (actTrip s) := by
  have same : reserveKept 1 s s := (reserveKept_refl s).mono (Nat.zero_le 1)
  unfold actTrip
  split
  · exact (startTrip_reserveKept s).mono (Nat.zero_le 1)
  · exact (cutClose_reserveKept s hs).trans (startTrip_reserveKept _)
  · exact same
  · exact same

/-- A trip request may cut a close, and leaves the reserve alone. -/
theorem seqTrip_reserveKept (r : TripReq) (s : State) (hs : s.stage = .running) : reserveKept 1 s (seqTrip r s) := by
  have join : reserveKept 1 s (joinTrip r s) := (reserveKept_seq _ s).mono (Nat.zero_le 1)
  have now : reserveKept 1 s (tripNow r s) := by
    let x : State := { s with seq := { s.seq.stopTimers with trip := some [r] } }
    have hseq : reserveKept 0 s (seqTo .tripping x) := (reserveKept_seq _ s).trans (seqTo_reserveKept .tripping x)
    exact (hseq.trans (actTrip_reserveKept (seqTo .tripping x) (by simpa [x])) :).mono (by omega)
  have attempt : reserveKept 1 s (tripAttempt r s) := by
    unfold tripAttempt
    split
    · let x : State := { s with seq := { s.seq with trip := some [r] }, bcu := s.bcu.suspend }
      have hx : reserveKept 0 s x := reserveKept_of_eq rfl (by simp [x]) rfl rfl rfl rfl
      exact (hx.trans (actTrip_reserveKept x hs) :).mono (by omega)
    · exact join
  unfold seqTrip
  split
  case h_7 => exact join
  case h_8 | h_9 => exact attempt
  all_goals exact now

theorem seqEvent_trip_reserveKept (r : TripReq) (s : State) (hs : s.stage = .running) : reserveKept 1 s (seqEvent (.trip r) s) := by
  unfold seqEvent
  split
  · exact seqTrip_reserveKept r s hs
  · exact (reserveKept_seq _ s).mono (Nat.zero_le 1)

/-! ### A level change (R120, R122, R131) -/

theorem endTest_reserveKept (o : TestOutcome) (x mv : Option Nat) (s : State) (hs : s.stage = .running) :
    reserveKept 1 s (endTest o x mv s) := by
  let y : State := { s with bcu := s.bcu.testIdle }
  refine ⟨by simp, ?_, ?_, by simp [endTest], ⟨[.test o x mv], by simp, ?_⟩, fun i hi hring hhist => ?_⟩
  · simp [endTest, Bcu.reserve, Bcu.testIdle]
  · simp [endTest]
  · simpa [logs, endTest] using logs_complete (.test o x mv) y hs
  · refine queueWrite_keeps_queued i _ _ ?_ hhist
    exact complete_keeps_queued i (.test o x mv) y hi hring

theorem endTestByLevel_reserveKept (r : TestReading) (s : State) (hs : s.stage = .running) : reserveKept 1 s (endTestByLevel r s) := by
  unfold endTestByLevel
  split
  · exact endTest_reserveKept _ _ _ s hs
  · exact endTest_reserveKept _ _ _ s hs
  · exact endTest_reserveKept _ _ _ s hs
  · exact (reserveKept_refl s).mono (Nat.zero_le 1)

/-- The state with the shutdown and its wait as given. -/
def State.inShutdown (x : Option Shutdown) (ms : Nat) (s : State) : State := { s with bcu := { s.bcu with shutdown := x, tripWaitMs := ms } }

theorem reserveKept.inShutdown {n : Nat} {s t : State} (h : reserveKept n s t) (x : Option Shutdown) (ms : Nat) :
    reserveKept n (s.inShutdown x ms) (t.inShutdown x ms) :=
  ⟨h.stage, congrArg (fun b : Bcu => { b with shutdown := x, tripWaitMs := ms }) h.reserve, h.chan, h.queue, h.logs, h.queued⟩

/-- The shutdown trips the breaker (R122). -/
def tripsOnExhaustion (s : State) : Prop := s.sst.globalPage.field 10 = 1 ∧ s.act.position ≠ .isOpen

theorem beginShutdown_trips (s : State) (h : tripsOnExhaustion s) :
    beginShutdown s = seqEvent (.trip .exhaustion) (s.inShutdown (some .tripWait) 0) :=
  if_pos ⟨beq_iff_eq.2 h.1, h.2⟩

theorem beginShutdown_writes (s : State) (h : ¬ tripsOnExhaustion s) : beginShutdown s = s.inShutdown (some .writeWait) s.bcu.tripWaitMs :=
  if_neg fun hc => h ⟨beq_iff_eq.1 hc.1, hc.2⟩

theorem beginShutdown_reserveKept (s : State) (hs : s.stage = .running) :
    ∃ x ms, reserveKept 1 (s.inShutdown x ms) (beginShutdown s) := by
  by_cases h : tripsOnExhaustion s
  · rw [beginShutdown_trips s h]
    exact ⟨_, _, seqEvent_trip_reserveKept .exhaustion (s.inShutdown _ 0) hs⟩
  · rw [beginShutdown_writes s h]
    exact ⟨_, _, (reserveKept_refl _).mono (Nat.zero_le 1)⟩

/-- The new level with its record and the count's write, the channel SILENT at EXHAUSTED (R120; spec/08 R149). -/
def levelTaken (l : Level) (s : State) : State :=
  let s1 := { s with bcu := { s.bcu with level := l, charge := if l = .exhausted then 0 else s.bcu.charge } }
  let s2 := queueWrite (.charge s1.bcu.charge) (complete (.battery l s.bcu.soc s.bcu.meas.mv) s1)
  if l = .exhausted then goSilent s2 else s2

@[simp] theorem levelTaken_keeps (l : Level) (s : State) :
    (levelTaken l s).stage = s.stage ∧ (levelTaken l s).seq = s.seq ∧ (levelTaken l s).act = s.act ∧
    (levelTaken l s).bcu = { s.bcu with level := l, charge := if l = .exhausted then 0 else s.bcu.charge } ∧
    (levelTaken l s).hlc.queue = s.hlc.queue ∧ (levelTaken l s).sst.globalPage = s.sst.globalPage := by
  simp only [levelTaken]
  split <;> simp

theorem levelTaken_records (l : Level) (s : State) (hs : s.stage = .running) :
    logs [.battery l s.bcu.soc s.bcu.meas.mv] s (levelTaken l s) ∧
    writeQueued (.charge (if l = .exhausted then 0 else s.bcu.charge)) (levelTaken l s) ∧
    (l = .exhausted → (levelTaken l s).rcc.chan = .silent) := by
  let s1 : State := { s with bcu := { s.bcu with level := l, charge := if l = .exhausted then 0 else s.bcu.charge } }
  let x := queueWrite (.charge s1.bcu.charge) (complete (.battery l s.bcu.soc s.bcu.meas.mv) s1)
  have hx : levelTaken l s = if l = .exhausted then goSilent x else x := rfl
  have hsame : (levelTaken l s).orl = x.orl ∧ (levelTaken l s).sst = x.sst := by
    rw [hx]
    split <;> simp
  refine ⟨?_, writeQueued_congr _ x _ hsame.2 (queueWrite_queued _ _), fun h => by rw [hx, if_pos h]; rfl⟩
  have hlogs : logs [.battery l s.bcu.soc s.bcu.meas.mv] s x := by
    simpa [logs, x] using logs_complete (.battery l s.bcu.soc s.bcu.meas.mv) s1 hs
  exact (congrArg Orl.log hsame.1).trans hlogs

theorem changeLevel_eq (l : Level) (r : TestReading) (s : State) :
    changeLevel l r s =
      let x := if s.bcu.level = .normal then endTestByLevel r (levelTaken l s) else levelTaken l s
      if l = .exhausted then beginShutdown x else x := rfl

/-- Behind the level's own record at most a test's and a cut CLOSE's follow, and the reserve moves no further. -/
theorem changeLevel_reserveKept (l : Level) (r : TestReading) (s : State) (hs : s.stage = .running) :
    ∃ a ms, reserveKept 2 ((levelTaken l s).inShutdown a ms) (changeLevel l r s) := by
  let x := if s.bcu.level = .normal then endTestByLevel r (levelTaken l s) else levelTaken l s
  have hx : reserveKept 1 (levelTaken l s) x := by
    simp only [x]
    split
    · exact endTestByLevel_reserveKept r _ (by simpa)
    · exact (reserveKept_refl _).mono (Nat.zero_le 1)
  have hall : changeLevel l r s = if l = .exhausted then beginShutdown x else x := rfl
  rw [hall]
  split
  · obtain ⟨a, ms, hbegin⟩ := beginShutdown_reserveKept x (hx.stage.trans (by simpa))
    exact ⟨a, ms, (hx.inShutdown a ms).trans hbegin⟩
  · exact ⟨(levelTaken l s).bcu.shutdown, (levelTaken l s).bcu.tripWaitMs, hx.mono (by omega)⟩

/-! ### One measurement (R110, R116, R119) -/

/-- The state with the measurement counted and the three runs moved, before the level is formed. -/
def State.charged (m : BattMeas) (s : State) : State :=
  let g := countMeasurement (measureCharge m s)
  { g with bcu := g.bcu.runs }

@[simp] theorem countMeasurement_bcu (s : State) : (countMeasurement s).bcu = { s.bcu with measCount := (s.bcu.measCount + 1) % 600 } := by
  simp only [countMeasurement]
  split <;> simp

@[simp] theorem countMeasurement_globalPage (s : State) : (countMeasurement s).sst.globalPage = s.sst.globalPage := by
  simp only [countMeasurement]
  split <;> simp

@[simp] theorem charged_keeps (m : BattMeas) (s : State) :
    (s.charged m).stage = s.stage ∧ (s.charged m).seq = s.seq ∧ (s.charged m).act = s.act ∧ (s.charged m).orl = s.orl ∧
    (s.charged m).rcc = s.rcc ∧ (s.charged m).hlc = s.hlc ∧ (s.charged m).sst.globalPage = s.sst.globalPage := by
  simp [State.charged]

theorem measureCharge_reserve (m : BattMeas) (s : State) :
    (measureCharge m s).bcu.reserve = (s.bcu.chargeStep s.sst.globalPage.capacity (clampMeas m)).formSetpoints.reserve := by
  simp only [measureCharge]
  split <;> simp

/-- The count after a measurement is that of R116 and R117. -/
theorem chargeAfter_eq (m : BattMeas) (s : State) : chargeAfter s.sst.globalPage.capacity m s.bcu = (countAfter s m.ma).1 := by
  have hmove : moveCharge (fullCount s.sst.globalPage.capacity) s.bcu.charge m.ma =
      if 0 ≤ m.ma then min (s.sst.globalPage.field 6 * 3600000) (s.bcu.charge + m.ma.toNat * 95 / 100)
      else min (s.sst.globalPage.field 6 * 3600000) (s.bcu.charge - m.ma.natAbs) := by
    unfold moveCharge
    split
    · rfl
    · rw [show (-m.ma).toNat = m.ma.natAbs by omega]
      rfl
  rw [chargeAfter, hmove]
  rfl

/-- The reserve once the measurement is counted: the count and SoC (R116), the runs (R119). -/
theorem charged_reserve (m : BattMeas) (s : State) :
    (s.charged m).bcu.meas = clampMeas m ∧ (s.charged m).bcu.level = s.bcu.level ∧ (s.charged m).bcu.shutdown = s.bcu.shutdown ∧
    (s.charged m).bcu.charge = (countAfter s (clampMeas m).ma).1 ∧
    (s.charged m).bcu.soc = (countAfter s (clampMeas m).ma).1 * 100 / (s.sst.globalPage.field 6 * 3600000) ∧
    (s.charged m).bcu.lowRun = (if (clampMeas m).mv < 23000 then min 10 (s.bcu.lowRun + 1) else 0) ∧
    (s.charged m).bcu.recRun = (if (clampMeas m).mv < 23000 then 0 else min 60 (s.bcu.recRun + 1)) ∧
    (s.charged m).bcu.exhRun = (if (clampMeas m).mv < 21000 ∧ (clampMeas m).supply = false then min 10 (s.bcu.exhRun + 1) else 0) := by
  obtain ⟨hmeas, hlevel, hcharge, hsoc, hlow, hrec, hexh, hshutdown, -⟩ := Bcu.reserve_congr (measureCharge_reserve m s)
  simp only [State.charged, Bcu.runs, countMeasurement_bcu, hmeas, hlevel, hcharge, hsoc, hlow, hrec, hexh, hshutdown,
    Bcu.formSetpoints, Bcu.chargeStep, chargeAfter_eq, true_and, and_true]
  rfl

theorem battMeasure_eq (m : BattMeas) (r : TestReading) (s : State) :
    battMeasure m r s = resumeTest (if (s.charged m).bcu.levelNow = (s.charged m).bcu.level then s.charged m
      else changeLevel (s.charged m).bcu.levelNow r (s.charged m)) := rfl

theorem exec_batteryMeasurement (m : BattMeas) (r : TestReading) (s : State) (hs : s.stage = .running) :
    exec (.batteryMeasurement m r) s = .next (pump (battMeasure m r s)) := by
  change execBatteryMeasurement m r s = _
  simp [execBatteryMeasurement, measureWhen, whenStarted, happens, hs, Stage.started]

theorem battMeasure_unchanged (m : BattMeas) (r : TestReading) (s : State) (h : (s.charged m).bcu.levelNow = (s.charged m).bcu.level) :
    reserveKept 0 (s.charged m) (battMeasure m r s) ∧ (battMeasure m r s).orl = s.orl := by
  rw [battMeasure_eq, if_pos h]
  exact ⟨resumeTest_reserveKept _, by simp⟩

/-- A measurement that changes the level (R120). -/
theorem battMeasure_changed (m : BattMeas) (r : TestReading) (s : State) (l : Level) (hs : s.stage = .running)
    (hl : (s.charged m).bcu.levelNow = l) (h : l ≠ (s.charged m).bcu.level) :
    ∃ a ms, reserveKept 2 ((levelTaken l (s.charged m)).inShutdown a ms) (battMeasure m r s) := by
  rw [battMeasure_eq, hl, if_neg h]
  obtain ⟨a, ms, hkept⟩ := changeLevel_reserveKept l r (s.charged m) (by simpa)
  exact ⟨a, ms, hkept.trans (resumeTest_reserveKept _)⟩

/-- What a measurement leaves that forms level l from the state y (R119, R120). -/
structure graded (l : Level) (y t : State) : Prop where
  level : t.bcu.level = l
  charge : t.bcu.charge = if l ≠ y.bcu.level ∧ l = .exhausted then 0 else y.bcu.charge
  soc : t.bcu.soc = y.bcu.soc
  lowRun : t.bcu.lowRun = y.bcu.lowRun
  recRun : t.bcu.recRun = y.bcu.recRun
  exhRun : t.bcu.exhRun = y.bcu.exhRun
  queue : t.hlc.queue = y.hlc.queue
  unchanged : l = y.bcu.level → t.orl = y.orl
  changed : l ≠ y.bcu.level → recordedFirst (.battery l y.bcu.soc y.bcu.meas.mv) y t ∧ writeQueued (.charge t.bcu.charge) t ∧
    (l = .exhausted → t.rcc.chan = .silent)

theorem battMeasure_graded (m : BattMeas) (r : TestReading) (s : State) (hs : s.stage = .running) :
    graded (s.charged m).bcu.levelNow (s.charged m) (battMeasure m r s) := by
  let y := s.charged m
  let l := y.bcu.levelNow
  by_cases hl : l = y.bcu.level
  · obtain ⟨hkept, horl⟩ := battMeasure_unchanged m r s hl
    obtain ⟨-, hlevel, hcharge, hsoc, hlow, hrec, hexh, -, -⟩ := Bcu.reserve_congr hkept.reserve
    exact ⟨hlevel.trans hl.symm, hcharge.trans (if_neg fun h => h.1 hl).symm, hsoc, hlow, hrec, hexh, hkept.queue,
      fun _ => horl.trans (by simp), fun hne => absurd hl hne⟩
  · obtain ⟨a, ms, hkept⟩ : ∃ a ms, reserveKept 2 ((levelTaken l y).inShutdown a ms) (battMeasure m r s) :=
      battMeasure_changed m r s l hs rfl hl
    have hbcu : (levelTaken l y).bcu = { y.bcu with level := l, charge := if l = .exhausted then 0 else y.bcu.charge } := by simp
    obtain ⟨-, hlevel, hcharge, hsoc, hlow, hrec, hexh, -, -⟩ := Bcu.reserve_congr hkept.reserve
    simp only [State.inShutdown, hbcu] at hlevel hcharge hsoc hlow hrec hexh
    obtain ⟨hrecord, hqueued, hsilent⟩ := levelTaken_records l y (by simpa [y])
    obtain ⟨bs, hlen, hlogs⟩ := hkept.logs
    have hfirst : recordedFirst (.battery l y.bcu.soc y.bcu.meas.mv) y (battMeasure m r s) :=
      (hrecord.trans hlogs).first (lt_of_le_of_lt hlen (by decide))
    refine ⟨hlevel, ?_, hsoc, hlow, hrec, hexh, hkept.queue.trans (by simp [State.inShutdown, y]),
      fun h => absurd h hl, fun _ => ⟨hfirst, ?_, fun h => hkept.chan.trans (hsilent h)⟩⟩
    · rw [hcharge]
      exact if_congr (iff_and_self.2 fun _ => hl) rfl rfl
    · rw [hcharge]
      exact hkept.queued _ hqueued (by simp [RetItem.item]) (by simp [RetItem.item])

/-- The level after the runs: the floor where that is lower, or one step up past the margin (R119). -/
theorem nextLevel_eq (level : Level) (soc low recovery exhaustion : Nat) :
    nextLevel level soc low recovery exhaustion =
      if level.rank < (floorLevel soc low exhaustion).rank then floorLevel soc low exhaustion
      else if level = .conserve ∧ 25 ≤ soc ∧ recovery = 60 then .lean
      else if level = .lean ∧ 45 ≤ soc then .normal else level := by
  unfold nextLevel climbLevel
  cases level <;> simp

theorem exec_batteryMeasurement_graded (m : BattMeas) (r : TestReading) (s : State) (h : s.runs) :
    exec (.batteryMeasurement m r) s = .next (battMeasure m r s) ∧ graded (s.charged m).bcu.levelNow (s.charged m) (battMeasure m r s) := by
  obtain ⟨hrun, -, hqueue⟩ := h
  have hgraded := battMeasure_graded m r s hrun
  refine ⟨?_, hgraded⟩
  rw [exec_batteryMeasurement m r s hrun, pump_without_frames _ (hgraded.queue.trans (by simpa))]

theorem clampMeas_eq (m : BattMeas) (hmv : m.mv ≤ 40000) (hlow : -30000 ≤ m.ma) (hhigh : m.ma ≤ 30000) (hcold : -55 ≤ m.temp)
    (hwarm : m.temp ≤ 125) : clampMeas m = m := by
  have hma : clampInt (-30000) 30000 m.ma = m.ma := by simp [clampInt]; omega
  have htemp : clampInt (-55) 125 m.temp = m.temp := by simp [clampInt]; omega
  simp [clampMeas, hma, htemp, hmv]

/-- From CONSERVE with no test the tenth low measurement without supply takes the level to EXHAUSTED and begins the shutdown (R119, R122). -/
theorem battMeasure_exhausts (m : BattMeas) (r : TestReading) (s : State) (hshutdown : s.bcu.shutdown = none)
    (hlevel : s.bcu.level = .conserve) (hexh : s.bcu.exhRun = 9) (hmv : m.mv < 21000) (hsupply : m.supply = false) :
    (s.charged m).bcu.levelNow = .exhausted ∧
    battMeasure m r s = resumeTest (beginShutdown (levelTaken .exhausted (s.charged m))) := by
  obtain ⟨-, hy, hysh, -, -, -, -, hyexh⟩ := charged_reserve m s
  have hten : (s.charged m).bcu.exhRun = 10 := by
    rw [hyexh, hexh]
    simp [clampMeas, hsupply]
    omega
  have hnow : (s.charged m).bcu.levelNow = .exhausted := by
    simp [Bcu.levelNow, hysh, hshutdown, nextLevel, floorLevel, hten, hy, hlevel, Level.rank]
  refine ⟨hnow, ?_⟩
  rw [battMeasure_eq, hnow, hy, hlevel, if_neg (by decide), changeLevel_eq, hy, hlevel]
  rfl

/-- Settles O33: the level formed from the moved runs and SoC, and the shutdown at EXHAUSTED. -/
theorem reserveLevelIsGraded : Obligations.ReserveLevelIsGraded := by
  intro m r s hruns
  let y := s.charged m
  let t := battMeasure m r s
  obtain ⟨hexec, hgraded⟩ := exec_batteryMeasurement_graded m r s hruns
  obtain ⟨hmeas, hlevel, hshutdown, hcharge, hsoc, hlow, hrec, hexh⟩ := charged_reserve m s
  refine ⟨fun hnone hne h1 h2 h3 h4 h5 => ?_, fun _ hnone hcons hnine hmv hsup => ?_⟩
  · intro low recovery exhaustion soc floor
    rw [clampMeas_eq m h1 h2 h3 h4 h5] at hmeas hcharge hsoc hlow hrec hexh
    have hnow : y.bcu.levelNow = if s.bcu.level.rank < floor.rank then floor
        else if s.bcu.level = .conserve ∧ 25 ≤ soc ∧ recovery = 60 then .lean
        else if s.bcu.level = .lean ∧ 45 ≤ soc then .normal else s.bcu.level := by
      simp only [y, Bcu.levelNow, hshutdown, hnone, hlevel, hsoc, hlow, hrec, hexh, nextLevel_eq]
      rfl
    have hsame : t.bcu.level = s.bcu.level ↔ y.bcu.levelNow = y.bcu.level := by rw [hgraded.level, hlevel]
    refine ⟨t, hexec, hgraded.lowRun.trans hlow, hgraded.recRun.trans hrec, hgraded.exhRun.trans hexh, hgraded.level.trans hnow,
      fun h => (hgraded.unchanged (hsame.1 h)).trans (by simp), fun h => ?_, ?_, fun h => ?_⟩
    · obtain ⟨hrecord, hqueued, -⟩ := hgraded.changed (mt hsame.2 h)
      rw [hmeas, hsoc, ← hgraded.level] at hrecord
      exact ⟨by simpa [recordedFirst] using hrecord, hqueued⟩
    · rw [hgraded.charge, hgraded.level, hcharge, hlevel]
      split_ifs <;> simp_all
    · have hchanged : ¬ y.bcu.levelNow = y.bcu.level := fun hc => hne ((hsame.2 hc).symm.trans h)
      obtain ⟨-, -, hsilent⟩ := hgraded.changed hchanged
      exact hsilent (hgraded.level.symm.trans h)
  · intro trips
    obtain ⟨hnow, hbatt⟩ := battMeasure_exhausts m r s hnone hcons hnine hmv hsup
    have hchanged : y.bcu.levelNow ≠ y.bcu.level := by simp [y, hnow, hlevel, hcons]
    obtain ⟨hrecord, hqueued, hsilent⟩ := hgraded.changed hchanged
    have hzero : t.bcu.charge = 0 := hgraded.charge.trans (if_pos ⟨hchanged, hnow⟩)
    have hvolts : y.bcu.meas.mv = m.mv := by simp [y, hmeas, clampMeas]; omega
    rw [hnow, ← hgraded.soc, hvolts] at hrecord
    let x := levelTaken .exhausted y
    have htrips : tripsOnExhaustion x ↔ trips := by simp [tripsOnExhaustion, x, y, trips]
    refine ⟨t, hexec, hgraded.level.trans hnow, hzero, hzero ▸ hqueued, hsilent hnow, by simpa [recordedFirst, y] using hrecord,
      fun h => ?_, fun h hd hs hidle hready htrip => ?_, fun h => ?_⟩
    · have hkept := (seqEvent_trip_reserveKept .exhaustion (x.inShutdown (some .tripWait) 0) (by simpa [State.inShutdown, x, y] using hruns.1)).trans
        (resumeTest_reserveKept _)
      rw [← beginShutdown_trips x (htrips.2 h), ← hbatt] at hkept
      obtain ⟨-, -, -, -, -, -, -, hwait, hms⟩ := Bcu.reserve_congr hkept.reserve
      exact ⟨hwait, hms⟩
    · let z := x.inShutdown (some .tripWait) 0
      have hz : z.seq = s.seq ∧ z.act = s.act := by simp [z, x, y, State.inShutdown]
      have ht : t = resumeTest (tripNow .exhaustion z) := by
        rw [← seqTrip_now .exhaustion z (by simp [hz, hs])]
        exact hbatt.trans (congrArg resumeTest ((beginShutdown_trips x (htrips.2 h)).trans (seqEvent_decided _ z (by simp [hz, hd]))))
      obtain ⟨hstate, hreq, -⟩ := tripNow_seq .exhaustion z
      obtain ⟨hpulse, -⟩ := (tripNow_begun .exhaustion z (Or.inl (by simp [hz, hidle]))).1 (by simpa [hz])
      rw [ht]
      exact ⟨by simpa, by simpa, by simpa⟩
    · have ht : t = resumeTest (x.inShutdown (some .writeWait) x.bcu.tripWaitMs) :=
        hbatt.trans (congrArg resumeTest (beginShutdown_writes x (mt htrips.1 h)))
      have hkept := resumeTest_reserveKept (x.inShutdown (some .writeWait) x.bcu.tripWaitMs)
      obtain ⟨-, -, -, -, -, -, -, hwait, -⟩ := Bcu.reserve_congr hkept.reserve
      rw [ht]
      exact ⟨hwait, by simp [State.inShutdown, x, y], by simp [State.inShutdown, x, y]⟩

end Sys2Proof.Machine
end

section
/-! SUPPORT and PROOFS. A trip that ends DONE (spec/03 R46, R48, R50, R51; spec/04 R73 to R75; spec/07 R137): the records, the counter, and
where SEQ goes; O13. -/

namespace Sys2Proof.Machine

/-! ### What the parts of a completion leave -/

@[simp] theorem takeInterruption_group (pp : PulsePart) (s : State) : (takeInterruption pp s).sst.group = s.sst.group := by
  unfold takeInterruption
  (repeat' split) <;> simp

@[simp] theorem completeAll_group (bodies : List RecBody) (s : State) : (completeAll bodies s).sst.group = s.sst.group := by
  unfold completeAll
  induction bodies generalizing s with
  | nil => rfl
  | cons b rest ih => simpa using ih (complete b s)

@[simp] theorem countTrip_seq_keeps (o : PulseOutcome) (s : State) :
    (countTrip o s).seq.state = s.seq.state ∧ (countTrip o s).seq.manual = s.seq.manual ∧ (countTrip o s).seq.decided = s.seq.decided := by
  by_cases hc : tripCounts o s.seq
  · simp [countTrip_seq_counted o s hc]
  · simp [countTrip_seq_uncounted o s hc]

theorem cleared.trans {s t u : State} (h : cleared s t) (h' : cleared t u) : cleared s u := fun e => by
  rw [h' e, h e]
  by_cases hd : (s.peu.elems.get e).st = .disabled <;> simp [hd]

theorem interruptionRecords_length (pp : PulsePart) (s : State) : (interruptionRecords pp s).length ≤ 6 := by
  unfold interruptionRecords
  split
  · exact Orl.formRecords_length_le _ _
  · simp

/-- No WEAR record is a LOCKOUT record. -/
theorem interruptionRecords_ne_lockout (pp : PulsePart) (s : State) (b : RecBody) (hb : b ∈ interruptionRecords pp s) (c : Cause) (n : Nat) :
    b ≠ .lockout c n := by
  rintro rfl
  unfold interruptionRecords at hb
  split at hb
  · exact absurd (Orl.formRecords_unreported _ _ _ hb) (by simp [RecBody.reportClass])
  · simp at hb

/-- The state with a trip's records complete: TRIP first, then the WEAR records (spec/07 R137, R142). -/
def tripAllRecorded (r : TripReq) (pp : PulsePart) (s : State) : State :=
  completeAll (interruptionRecords pp s) (tripRecorded r pp (countTrip .done s))

/-- What the count and the records of a DONE trip leave. -/
structure tripNoted (r : TripReq) (pp : PulsePart) (s t : State) : Prop where
  stage : t.stage = .running
  act : t.act = s.act
  tag : t.tag = s.tag
  bcu : t.bcu = s.bcu
  queue : t.hlc.queue = s.hlc.queue
  group : t.sst.group = s.sst.group
  seq : t.seq = (countTrip .done s).seq
  cleared : cleared s t
  logs : logs (.trip ⟨r, t.seq.shots⟩ (if r.isElement then s.orl.capture else none) pp :: interruptionRecords pp s) s t
  capture : t.orl.capture = none
  limit : t.orl.limit = (takeInterruption pp s).orl.limit

theorem tripAllRecorded_noted (r : TripReq) (pp : PulsePart) (s : State) (hs : s.stage = .running) :
    tripNoted r pp s (tripAllRecorded r pp s) := by
  let y := countTrip .done s
  obtain ⟨hstage, hpeu, hseq, hact, htag, hbcu, hqueue, hlogs, hcapture⟩ := tripRecorded_leaves r pp y (by simpa [y])
  have horl : (tripAllRecorded r pp s).orl = (interruptionRecords pp s).foldl Orl.enter (tripRecorded r pp y).orl :=
    completeAll_orl_running (interruptionRecords pp s) (tripRecorded r pp y) hstage
  have hy : y.orl = s.orl := by simp [y]
  have hlimit : (tripRecorded r pp y).orl.limit = (takeInterruption pp s).orl.limit := by
    have hworn : (takeInterruption pp y).orl.limit = (takeInterruption pp s).orl.limit := by
      rw [← countTrip_takeInterruption]
      simp
    simpa [tripRecorded, completeTrip] using hworn
  refine ⟨by simpa [tripAllRecorded], by simpa [tripAllRecorded, y] using hact, by simpa [tripAllRecorded, y] using htag,
    by simpa [tripAllRecorded, y] using hbcu, by simpa [tripAllRecorded, y] using hqueue, ?_, by simpa [tripAllRecorded] using hseq,
    fun e => ?_, ?_, ?_, ?_⟩
  · simp [tripAllRecorded, tripRecorded, completeTrip]
  · have hc := clearElements_cleared s e
    rw [← countTrip_peu_done] at hc
    simpa [tripAllRecorded, y, hpeu] using hc
  · have hall := hlogs.trans (logs_completeAll (interruptionRecords pp s) _ hstage)
    have hshots : (tripAllRecorded r pp s).seq.shots = y.seq.shots := by simp [tripAllRecorded, y, hseq]
    rw [logs, hy] at hall
    rw [hshots, logs, ← hy]
    simpa [tripBody, hy, tripAllRecorded, y] using hall
  · simpa only [horl, foldl_enter_keeps_more] using hcapture
  · simpa only [horl, foldl_enter_keeps] using hlimit

/-! ### The decision (R48, R50, R51) -/

/-- What the decision of a DONE trip leaves, whichever it is. -/
structure tripDecided (s t : State) : Prop where
  trip : t.seq.trip = none
  decided : t.seq.decided = s.seq.decided
  shots : t.seq.shots = s.seq.shots
  cleared : ∀ x, cleared x s → cleared x t
  capture : t.orl.capture = s.orl.capture
  limit : t.orl.limit = s.orl.limit
  shutdown : t.bcu.shutdown = s.bcu.shutdown
  logs : ∃ bodies, bodies.length ≤ 2 ∧ logs bodies s t

theorem enterLockout_decided (c : Cause) (s : State) (hs : s.stage = .running) (ht : s.seq.trip = none) : tripDecided s (enterLockout c s) := by
  have horl := enterLockout_orl c s hs
  have hlen := groupRecords_length s
  have hreserve : (enterLockout c s).bcu.reserve = s.bcu.reserve := by simp [enterLockout]
  obtain ⟨-, -, -, -, -, -, -, hshutdown, -⟩ := Bcu.reserve_congr hreserve
  refine ⟨by simp [enterLockout_seq, Seq.stopTimers, ht], by simp [enterLockout_seq, Seq.stopTimers], by simp [enterLockout_seq, Seq.stopTimers],
    fun x hx => hx.trans (enterLockout_cleared c s hs), ?_, ?_, hshutdown, ⟨_, ?_, logs_of_orl horl⟩⟩
  · simp only [horl, foldl_enter_keeps_more]
  · simp only [horl, foldl_enter_keeps]
  · simp only [List.length_cons]
    omega

theorem enterDeadTime_decided (s : State) (ht : s.seq.trip = none) : tripDecided s (enterDeadTime s) := by
  have hreserve : (enterDeadTime s).bcu.reserve = s.bcu.reserve := seqTo_reserve .deadTime (stopTimers s)
  obtain ⟨-, -, -, -, -, -, -, hshutdown, -⟩ := Bcu.reserve_congr hreserve
  exact ⟨by simp [enterDeadTime_seq, Seq.stopTimers, ht], by simp [enterDeadTime_seq, Seq.stopTimers],
    by simp [enterDeadTime_seq, Seq.stopTimers], fun x hx e => by simpa using hx e, by simp, by simp,
    hshutdown, ⟨[], by simp, logs_of_orl (by simp)⟩⟩

/-- What a DONE trip leads to (R48, R50). -/
def AfterTrip.ofDone (d : AfterTrip) : Prop := d = .dead ∨ d = .stay ∨ ∃ c, d = .lockout c

theorem tripOver_decided (d : AfterTrip) (s : State) (hs : s.stage = .running) (hd : d.ofDone) : tripDecided s (tripOver d s) := by
  let x : State := { s with seq := { s.seq with trip := none } }
  have same {t : State} (h : tripDecided x t) : tripDecided s t :=
    ⟨h.trip, h.decided, h.shots, h.cleared, h.capture, h.limit, h.shutdown, h.logs⟩
  rcases hd with rfl | rfl | ⟨c, rfl⟩
  · exact same (enterDeadTime_decided x rfl)
  · exact same ⟨rfl, rfl, rfl, fun _ h => h, rfl, rfl, rfl, ⟨[], by simp, logs_of_orl rfl⟩⟩
  · exact same (enterLockout_decided c x hs rfl)

theorem tripOver_state (d : AfterTrip) (s : State) (hd : d.ofDone) :
    (tripOver d s).seq.state ∈ [SeqState.lockout, .deadTime] ∨ d = .stay ∧ (tripOver d s).seq.state = s.seq.state := by
  rcases hd with rfl | rfl | ⟨c, rfl⟩
  · simp [tripOver, carryOut, enterDeadTime_seq]
  · exact Or.inr ⟨rfl, rfl⟩
  · simp [tripOver, carryOut, enterLockout_seq]

/-- In TRIPPING the requests joined decide, and with element requests alone the flag and the effective trips-to-lockout (R48). -/
theorem afterTrip_tripping (s : State) (h : s.seq.state = .tripping) :
    afterTrip .done s =
      if TripReq.exhaustion ∈ s.seq.requests then .lockout .exhaustion
      else if s.seq.requests.any (!TripReq.isElement ·) then .lockout .commandOpen
      else if s.seq.manual = true ∨ tripsToLockout s ≤ s.seq.shots then .lockout .shots
      else .dead := by
  simp [afterTrip, h]

theorem afterTrip_elsewhere (s : State) (h : s.seq.state ≠ .tripping) : afterTrip .done s = .stay := by
  unfold afterTrip
  cases hs : s.seq.state <;> simp [hs] at h ⊢

theorem afterTrip_ne_stay (s : State) (h : s.seq.state = .tripping) : afterTrip .done s ≠ .stay := by
  rw [afterTrip_tripping s h]
  split_ifs <;> simp

theorem afterTrip_ofDone (s : State) : (afterTrip .done s).ofDone := by
  by_cases h : s.seq.state = .tripping
  · rw [afterTrip_tripping s h]
    split_ifs <;> simp [AfterTrip.ofDone]
  · rw [afterTrip_elsewhere s h]
    exact Or.inr (Or.inl rfl)

/-- What the obligation says of an entry to LOCKOUT. -/
def lockedBy (c : Cause) (t : State) : Prop :=
  t.seq.state = .lockout ∧ t.seq.cause = some c ∧ t.seq.manual = false ∧ writeQueued (.lockout (some c)) t ∧
  ∃ x ∈ t.orl.ring, x.body = .lockout c t.seq.shots

theorem tripOver_locks (c : Cause) (s : State) (hs : s.stage = .running) : lockedBy c (tripOver (.lockout c) s) := by
  obtain ⟨hstate, -, -, -, -, hmanual, hcause, hshots, hrecord, hqueued, -⟩ :=
    enterLockout_entered c { s with seq := { s.seq with trip := none } } hs
  exact ⟨hstate, hcause, hmanual, hqueued, _, hrecord, by rw [tripOver, carryOut, hshots]⟩

/-! ### The requests -/

theorem all_isElement_iff (l : List TripReq) : l.all TripReq.isElement = true ↔ ∀ x ∈ l, ∃ e, x = .element e := by
  rw [List.all_eq_true]
  refine forall₂_congr fun x _ => ?_
  cases x <;> simp [TripReq.isElement]

/-! ### The completion as one operation -/

/-- The end of the exhaustion trip told to the BCU, where one was joined (R46; spec/06 R122). -/
def tripReported (l : List TripReq) (s : State) : State := if l.any (· == .exhaustion) then exhaustionTripEnded s else s

@[simp] theorem tripReported_keeps (l : List TripReq) (s : State) :
    (tripReported l s).stage = s.stage ∧ (tripReported l s).peu = s.peu ∧ (tripReported l s).seq = s.seq ∧ (tripReported l s).act = s.act ∧
    (tripReported l s).orl = s.orl ∧ (tripReported l s).sst = s.sst ∧ (tripReported l s).hlc = s.hlc := by
  unfold tripReported exhaustionTripEnded
  split <;> simp

theorem tripReported_shutdown (l : List TripReq) (s : State) :
    (tripReported l s).bcu.shutdown =
      if TripReq.exhaustion ∈ l ∧ s.bcu.shutdown = some .tripWait then some .writeWait else s.bcu.shutdown := by
  by_cases h : TripReq.exhaustion ∈ l <;> simp [tripReported, exhaustionTripEnded, h]

/-- The state in which SEQ decides: with this trip's wear formed where ACT's part came first (log 7). -/
def decidingState (pp : PulsePart) (partFirst : Bool) (s : State) : State :=
  if partFirst then takeInterruption pp (countTrip .done s) else countTrip .done s

@[simp] theorem decidingState_keeps (pp : PulsePart) (partFirst : Bool) (s : State) :
    (decidingState pp partFirst s).seq = (countTrip .done s).seq ∧ (decidingState pp partFirst s).tag = s.tag ∧
    (decidingState pp partFirst s).sst.group = s.sst.group := by
  unfold decidingState
  split <;> simp

theorem decidingState_limit (pp : PulsePart) (partFirst : Bool) (s : State) :
    (decidingState pp partFirst s).orl.limit = if partFirst then (takeInterruption pp s).orl.limit else s.orl.limit := by
  unfold decidingState
  split
  · rw [← countTrip_takeInterruption]
    simp
  · simp

/-- The effective trips-to-lockout of this trip (R42, log 7). -/
def limitAtTrip (pp : PulsePart) (partFirst : Bool) (s : State) : Nat :=
  if s.tag.table.mode ≠ .none ∨ (if partFirst then (takeInterruption pp s).orl.limit else s.orl.limit) = true ∨ s.seq.manual = true
  then 1 else s.sst.group.field 46

section
variable (pp : PulsePart) (partFirst : Bool) (s : State) (r : TripReq) (rest : List TripReq)

/-- The state after a DONE trip. -/
def tripDone : State :=
  tripReported (r :: rest) (tripOver (afterTrip .done (decidingState pp partFirst s)) (tripAllRecorded r pp s))

variable (h : tripAtEnd r rest s)
include h

theorem tripCompletion_done : tripCompletion .done pp partFirst s = tripDone pp partFirst s r rest := by
  rw [tripCompletion_eq .done pp s r rest partFirst h.part h.trip]
  rfl

theorem tripCounts_iff : tripCounts .done s.seq ↔ s.seq.state = .tripping ∧ ∀ x ∈ r :: rest, ∃ e, x = .element e := by
  rw [tripCounts, Seq.requests, h.trip, Option.getD_some, all_isElement_iff]
  exact ⟨fun hc => hc.2, fun hc => ⟨rfl, hc⟩⟩

/-- What a DONE trip leaves apart from SEQ's decision (R48; spec/07 R137). -/
theorem tripDone_leaves :
    let t := tripDone pp partFirst s r rest
    t.act = s.act ∧ t.hlc.queue = s.hlc.queue ∧ t.seq.trip = none ∧ t.seq.decided = s.seq.decided ∧ cleared s t ∧
    t.seq.shots = (countTrip .done s).seq.shots ∧
    (t.seq.state ∈ [SeqState.lockout, .deadTime] ∨ t.seq.state = s.seq.state ∧ s.seq.state ≠ .tripping) ∧
    recordedFirst (.trip ⟨r, t.seq.shots⟩ (if r.isElement then s.orl.capture else none) pp) s t ∧ t.orl.capture = none ∧
    t.orl.limit = (takeInterruption pp s).orl.limit ∧
    t.bcu.shutdown = (if TripReq.exhaustion ∈ r :: rest ∧ s.bcu.shutdown = some .tripWait then some .writeWait else s.bcu.shutdown) := by
  have hz := tripAllRecorded_noted r pp s h.running
  have hu := tripOver_decided (afterTrip .done (decidingState pp partFirst s)) _ hz.stage (afterTrip_ofDone _)
  obtain ⟨bs, hlen, hlogs⟩ := hu.logs
  have hwear := interruptionRecords_length pp s
  have hfirst := logs.first (rest := interruptionRecords pp s ++ bs) (hz.logs.trans hlogs) (by simp only [List.length_append]; omega)
  have hshutdown := hu.shutdown.trans (congrArg Bcu.shutdown hz.bcu)
  refine ⟨?_, ?_, ?_, ?_, fun e => ?_, ?_, ?_, ?_, ?_, ?_, ?_⟩
  · simp [tripDone, hz.act]
  · simp [tripDone, hz.queue]
  · simp [tripDone, hu.trip]
  · simp [tripDone, hu.decided, hz.seq]
  · simpa [tripDone] using hu.cleared s hz.cleared e
  · simp [tripDone, hu.shots, hz.seq]
  · simp only [tripDone, tripReported_keeps]
    refine (tripOver_state _ (tripAllRecorded r pp s) (afterTrip_ofDone _)).imp_right fun ⟨hstay, hsame⟩ => ⟨?_, fun htripping => ?_⟩
    · simp [hsame, hz.seq]
    · exact afterTrip_ne_stay _ (by simpa using htripping) hstay
  · simpa [recordedFirst, tripDone, hu.shots] using hfirst
  · simp [tripDone, hu.capture, hz.capture]
  · simp [tripDone, hu.limit, hz.limit]
  · rw [tripDone, tripReported_shutdown, hshutdown]

/-- Outside TRIPPING nothing of SEQ but the trip moves, and no LOCKOUT record is made (R50). -/
theorem tripDone_elsewhere (hs : s.seq.state ≠ .tripping) :
    let t := tripDone pp partFirst s r rest
    t.seq = { s.seq with trip := none } ∧ ∀ x ∈ t.orl.ring, x ∈ s.orl.ring ∨ ∀ c n, x.body ≠ .lockout c n := by
  have hz := tripAllRecorded_noted r pp s h.running
  have hun : ¬ tripCounts .done s.seq := fun hc => hs hc.2.1
  have hseq : (countTrip .done s).seq = s.seq := countTrip_seq_uncounted _ s hun
  have hstay : afterTrip .done (decidingState pp partFirst s) = .stay := afterTrip_elsewhere _ (by simpa [hseq])
  have ht : (tripDone pp partFirst s r rest).orl = (tripAllRecorded r pp s).orl := by simp [tripDone, hstay, tripOver, carryOut]
  refine ⟨by simp [tripDone, hstay, tripOver, carryOut, hz.seq, hseq], fun x hx => ?_⟩
  rw [ht] at hx
  refine (hz.logs.mem_of_ring hx).imp_right fun hbody c n => ?_
  rcases List.mem_cons.1 hbody with heq | hwear
  · simp [heq]
  · exact interruptionRecords_ne_lockout pp s _ hwear c n

/-- In TRIPPING: LOCKOUT by the requests joined, by the flag or the counter, or DEAD_TIME (R48, R51). -/
theorem tripDone_tripping (hs : s.seq.state = .tripping) :
    let t := tripDone pp partFirst s r rest
    let elements := ∀ x ∈ r :: rest, ∃ e, x = .element e
    (TripReq.exhaustion ∈ r :: rest → lockedBy .exhaustion t) ∧
    (TripReq.exhaustion ∉ r :: rest → (∃ a, TripReq.command a ∈ r :: rest) → lockedBy .commandOpen t) ∧
    (elements → s.seq.manual = true ∨ limitAtTrip pp partFirst s ≤ t.seq.shots → lockedBy .shots t) ∧
    (elements → s.seq.manual = false → t.seq.shots < limitAtTrip pp partFirst s → t.seq.state = .deadTime ∧ t.seq.deadNo = some t.seq.shots ∧
      t.seq.deadLeft = some (s.sst.group.field (46 + t.seq.shots))) := by
  intro t elements
  let w := decidingState pp partFirst s
  have hz := tripAllRecorded_noted r pp s h.running
  obtain ⟨-, -, -, -, -, hshots, -⟩ := tripDone_leaves pp partFirst s r rest h
  have hlimit : tripsToLockout w = limitAtTrip pp partFirst s := by
    simp [tripsToLockout, limitAtTrip, w, decidingState_limit, Page.tripsToLockout]
  have hd := afterTrip_tripping w (by simp [w, hs])
  have hrequests : w.seq.requests = r :: rest := by simp [Seq.requests, w, h.trip]
  have hmanual : w.seq.manual = s.seq.manual := by simp [w]
  have hcounter : w.seq.shots = t.seq.shots := by simp [w, t, hshots]
  rw [hrequests, hmanual, hlimit, hcounter] at hd
  have locks (c : Cause) (hc : afterTrip .done w = .lockout c) : lockedBy c t := by
    have hlock := tripOver_locks c _ hz.stage
    simpa [lockedBy, writeQueued, t, tripDone, show afterTrip .done (decidingState pp partFirst s) = _ from hc] using hlock
  have hnot (he : elements) : TripReq.exhaustion ∉ r :: rest ∧ ¬ (r :: rest).any (!TripReq.isElement ·) = true := by
    refine ⟨fun hx => ?_, fun hx => ?_⟩
    · obtain ⟨e, heq⟩ := he _ hx
      cases heq
    · obtain ⟨x, hmem, hne⟩ := List.any_eq_true.1 hx
      obtain ⟨e, rfl⟩ := he x hmem
      exact absurd hne (by simp [TripReq.isElement])
  refine ⟨fun hex => locks _ (by rw [hd, if_pos hex]), fun hex ⟨a, ha⟩ => locks _ ?_, fun he hl => locks _ ?_, fun he hm hl => ?_⟩
  · rw [hd, if_neg hex, if_pos (List.any_eq_true.2 ⟨_, ha, rfl⟩)]
  · rw [hd, if_neg (hnot he).1, if_neg (hnot he).2, if_pos hl]
  · have hdead : afterTrip .done (decidingState pp partFirst s) = .dead := by
      change afterTrip .done w = _
      rw [hd, if_neg (hnot he).1, if_neg (hnot he).2, if_neg (by simp [hm]; omega)]
    simp [t, tripDone, hdead, tripOver, carryOut, enterDeadTime_seq, Seq.stopTimers, Page.deadTime, hz.group]

end

/-! ### The position that ends the trip (spec/04 R73 to R75) -/

/-- ACT's part of the TRIP record of a trip that the breaker's opening ends. -/
def openPulse (fin : PulseEnd) (s : State) : PulsePart :=
  if s.act.state = .tripPulse then pulsePart s .done (s.act.pulseMs.getD 0) (s.act.before.getD 0) (clampVolts fin.capAfter)
  else pulsePart s .done 0 s.act.cap s.act.cap

theorem endByPosition_opens (fin : PulseEnd) (s : State) (h : s.act.state = .tripPulse ∨ s.act.state = .tripHeld) :
    endByPosition .isOpen fin s = tripCompletion .done (openPulse fin s) fin.partFirst s.pulseEnded := by
  rcases h with h | h
  · simp [endByPosition, h, endTrip, openPulse, State.pulseEnded]
  · simp [endByPosition, h, endHeldTrip, openPulse, State.pulseEnded]

/-- The opening that ended the trip is no news to SEQ (R62). -/
theorem seqPosition_opened (s : State) (h : s.seq.state ∈ [SeqState.lockout, .deadTime, .mechFail]) : seqPosition .isOpen s = s := by
  unfold seqPosition
  cases hs : s.seq.state <;> simp [hs] at h ⊢

/-- Settles O13: the completion, its decision by SEQ's state and the requests, and the position that SEQ then takes. -/
theorem tripCompletesOpen : Obligations.TripCompletesOpen := by
  intro s fin r rest ⟨hrun, _, hqueue⟩ hd hs hact hopens hpart htrip
  let x := s.moved .openContact .made .isOpen
  let pp := openPulse fin x
  let v := x.pulseEnded
  have hv : tripAtEnd r rest v := ⟨hrun, hs, htrip, hpart⟩
  let t := tripDone pp fin.partFirst v r rest
  obtain ⟨hidle, hq, hnone, hdec, hcleared, hshots, hstate, hrecord, hcapture, hlimit, hshutdown⟩ :=
    tripDone_leaves pp fin.partFirst v r rest hv
  have hend : endByPosition .isOpen fin x = t :=
    (endByPosition_opens fin x (by simpa [x, State.moved])).trans (tripCompletion_done pp fin.partFirst v r rest hv)
  have hlast : t.seq.state ∈ [SeqState.lockout, .deadTime, .mechFail] := by
    rcases hstate with h | ⟨hsame, hne⟩
    · exact List.mem_append_left [SeqState.mechFail] h
    · rw [hsame]
      simp [v, x, State.pulseEnded, State.moved] at hs hne ⊢
      tauto
  have hexec : exec (.contactDebounced .openContact .made 4 fin) s = .next t := by
    rw [exec_opens s fin hrun hopens, hend, seqEvent_decided _ t (hdec.trans hd), takeEvent, seqPosition_opened t hlast,
      pump_without_frames t (hq.trans hqueue)]
  refine ⟨t, hexec, ?_⟩
  intro elements exhausted commanded limited limit pulse lockedBy
  have hpulse : pp = pulse := by
    simp only [pp, pulse, openPulse, pulsePart, x, State.moved, readContact_keeps, clampVolts]
  have hlim : limitAtTrip pp fin.partFirst v = limit := by
    simp only [limit, limited, limitAtTrip, ← hlimit]
    rfl
  refine ⟨hnone, by rw [hidle]; rfl, by rw [hidle]; rfl, hcleared, fun hst he => ?_, fun hst => ?_, hpulse ▸ hrecord, hcapture,
    fun hst => ?_, fun hst => tripDone_elsewhere pp fin.partFirst v r rest hv hst, hshutdown⟩
  · rw [hshots, countTrip_seq_counted _ v ((tripCounts_iff v r rest hv).2 ⟨hst, he⟩)]
    rfl
  · rw [hshots, countTrip_seq_uncounted _ v fun hc => hst.elim (fun h => h hc.2.1) fun h => h ((tripCounts_iff v r rest hv).1 hc).2]
    rfl
  · have hall := tripDone_tripping pp fin.partFirst v r rest hv hst
    rw [hlim] at hall
    exact hall

end Sys2Proof.Machine
end

section
/-! SUPPORT. What the commands do to ACT (spec/04 R71 to R79): it is taken to rest, a trip begins or is held, or a close begins with
permission. An invariant of ACT that these moves keep is kept by every command. -/

namespace Sys2Proof.Machine

/-! ### ACT's items -/

/-- ACT in IDLE with no pulse, no held trip and a converter that is not PAUSED (R71, R83). -/
def Act.atRest (a : Act) : Prop :=
  a.state = .idle ∧ a.pulseMs = none ∧ a.before = none ∧ a.origin = none ∧ a.heldMs = none ∧ a.converter ≠ .paused

/-- The two agree on the state, the pulse, the held count and whether the converter is PAUSED. -/
def Act.alike (a b : Act) : Prop :=
  b.state = a.state ∧ b.pulseMs = a.pulseMs ∧ b.before = a.before ∧ b.origin = a.origin ∧ b.heldMs = a.heldMs ∧
  (b.converter = .paused ↔ a.converter = .paused)

theorem converterFrom_ne_paused (v : Nat) : converterFrom v ≠ .paused := by
  unfold converterFrom
  split_ifs <;> decide

/-- A measurement neither pauses the converter nor ends its pause (R83). -/
theorem converterStep_paused_iff (c : Converter) (v : Nat) : converterStep c v = .paused ↔ c = .paused := by
  cases c <;> simp only [converterStep] <;> split_ifs <;> simp

theorem Act.toIdle_atRest (a : Act) : a.toIdle.atRest := ⟨rfl, rfl, rfl, rfl, rfl, converterFrom_ne_paused _⟩

theorem Act.idle_atRest (cap pulses : Nat) : (Act.idle cap pulses).atRest := by simp [Act.atRest, Act.idle]

theorem startAct_atRest (st : Store) (volts pulses : Nat) : (startAct st volts pulses).atRest :=
  ⟨rfl, rfl, rfl, rfl, rfl, converterFrom_ne_paused _⟩

theorem Act.atRest.with_mech {a : Act} (h : a.atRest) (f : Bool) : ({ a with mech := f } : Act).atRest := h

theorem Act.alike_mech (a : Act) (f : Bool) : a.alike { a with mech := f } := ⟨rfl, rfl, rfl, rfl, rfl, Iff.rfl⟩

theorem Act.alike_contact (a : Act) (c : Contact) (x : ContactState) (ms : Nat) : a.alike (readContact c x ms a) := by
  cases c <;> exact ⟨rfl, rfl, rfl, rfl, rfl, Iff.rfl⟩

theorem Act.alike_position (a : Act) (p : Position) (read : Bool) : a.alike { a with position := p, startRead := read } :=
  ⟨rfl, rfl, rfl, rfl, rfl, Iff.rfl⟩

theorem measured_alike (volts : Nat) (s : State) : s.act.alike (s.measured volts).act :=
  ⟨rfl, rfl, rfl, rfl, rfl, converterStep_paused_iff _ _⟩

/-! ### The reserve level across SEQ's operations (spec/06 R120) -/

@[simp] theorem Bcu.suspend_level (b : Bcu) : b.suspend.level = b.level := by
  obtain ⟨-, hlevel, -⟩ := Bcu.reserve_congr b.suspend_reserve
  exact hlevel

@[simp] theorem seqTo_level (x : SeqState) (s : State) : (seqTo x s).bcu.level = s.bcu.level := by
  obtain ⟨-, hlevel, -⟩ := Bcu.reserve_congr (seqTo_reserve x s)
  exact hlevel

@[simp] theorem enterLockout_level (c : Cause) (s : State) : (enterLockout c s).bcu.level = s.bcu.level := by simp [enterLockout]

@[simp] theorem enterReclaim_level (s : State) : (enterReclaim s).bcu.level = s.bcu.level := by simp [enterReclaim]

@[simp] theorem enterReclaimByHand_level (s : State) : (enterReclaimByHand s).bcu.level = s.bcu.level := by simp [enterReclaimByHand]

@[simp] theorem enterHold_level (r : HoldReason) (ms : Nat) (s : State) : (enterHold r ms s).bcu.level = s.bcu.level := by
  simp [enterHold]

@[simp] theorem autoRefused_level (r : Res) (s : State) : (autoRefused r s).bcu.level = s.bcu.level := by
  unfold autoRefused
  (repeat' split) <;> simp

@[simp] theorem seqDeparture_level (s : State) : (seqDeparture s).bcu.level = s.bcu.level := by
  unfold seqDeparture
  split <;> simp

@[simp] theorem seqTagAccepted_level (s : State) : (seqTagAccepted s).bcu.level = s.bcu.level := by
  unfold seqTagAccepted
  split <;> simp

@[simp] theorem seqPosition_level (p : Position) (s : State) : (seqPosition p s).bcu.level = s.bcu.level := by
  unfold seqPosition
  (repeat' split) <;> simp

/-! ### Pulses that end, and trips (R72 to R75, R78) -/

/-- A pulse that has ended leaves ACT at rest, with the flag set or as it was (R81). -/
theorem pulseEnded_atRest (o : PulseOutcome) (s : State) :
    (if o = .noMove then setMech true s.pulseEnded else s.pulseEnded).act.atRest := by
  split_ifs
  · rw [setMech_act]
    exact s.act.toIdle_atRest.with_mech true
  · exact s.act.toIdle_atRest

theorem endClose_atRest (o : PulseOutcome) (pulse : Nat) (fin : PulseEnd) (s : State) : (endClose o pulse fin s).act.atRest := by
  have hact : (endClose o pulse fin s).act = (if o = .noMove then setMech true s.pulseEnded else s.pulseEnded).act := by
    cases hp : fin.partFirst <;> simp [endClose, hp, State.pulseEnded]
  exact hact ▸ pulseEnded_atRest o s

theorem endTrip_atRest (o : PulseOutcome) (pulse : Nat) (fin : PulseEnd) (s : State) : (endTrip o pulse fin s).act.atRest := by
  have hact : (endTrip o pulse fin s).act = (if o = .noMove then setMech true s.pulseEnded else s.pulseEnded).act := by
    simp [endTrip, State.pulseEnded]
  exact hact ▸ pulseEnded_atRest o s

theorem endHeldTrip_atRest (fin : PulseEnd) (s : State) : (endHeldTrip fin s).act.atRest := by
  simpa [endHeldTrip] using s.act.toIdle_atRest

/-- A trip at ACT begins its pulse or is held, unless one is under way already (R72). -/
theorem actTrip_cases (s : State) :
    (actTrip s = s ∧ s.act.state ∈ [ActState.tripPulse, .tripHeld]) ∨ ∃ x, actTrip s = beginTrip x ∨ actTrip s = holdTrip x := by
  have hstart (x : State) : ∃ y, startTrip x = beginTrip y ∨ startTrip x = holdTrip y := by
    unfold startTrip
    split
    · exact ⟨_, Or.inl rfl⟩
    · exact ⟨x, Or.inr rfl⟩
  cases h : s.act.state with
  | idle => exact Or.inr (actTrip_from_idle s h ▸ hstart s)
  | closePulse => exact Or.inr (actTrip_from_closePulse s h ▸ hstart (cutClose s))
  | tripPulse => exact Or.inl (by simp [actTrip, h])
  | tripHeld => exact Or.inl (by simp [actTrip, h])

/-- A trip request joins the trip in flight, or is a trip at ACT with the tags and the reserve level as they were (R44, R47). -/
theorem seqTrip_cases (r : TripReq) (s : State) :
    seqTrip r s = joinTrip r s ∨
    ∃ x, seqTrip r s = actTrip x ∧ x.act = s.act ∧ x.tag = s.tag ∧ x.bcu.level = s.bcu.level := by
  have hnow : ∃ x, tripNow r s = actTrip x ∧ x.act = s.act ∧ x.tag = s.tag ∧ x.bcu.level = s.bcu.level :=
    ⟨_, rfl, by simp, by simp, by simp⟩
  have hattempt : tripAttempt r s = joinTrip r s ∨
      ∃ x, tripAttempt r s = actTrip x ∧ x.act = s.act ∧ x.tag = s.tag ∧ x.bcu.level = s.bcu.level := by
    unfold tripAttempt
    split
    · exact Or.inr ⟨_, rfl, rfl, rfl, s.bcu.suspend_level⟩
    · exact Or.inl rfl
  unfold seqTrip
  cases s.seq.state with
  | tripping => exact Or.inl rfl
  | lockout => exact hattempt
  | mechFail => exact hattempt
  | _ => exact Or.inr hnow

/-- A CLOSE command is answered, or its pulse begins with permission (R57, R76). -/
theorem seqClose_cases (a : Authority) (src : Src) (s : State) :
    (∃ res, seqClose a src s = answer src res 0 [] s) ∨
    (closeRefusal a.origin s = none ∧ seqClose a src s = commandedClose a src s) := by
  unfold seqClose
  cases s.seq.state with
  | lockout =>
    cases hr : closeRefusal a.origin s with
    | none => exact Or.inr ⟨rfl, rfl⟩
    | some res => exact Or.inl ⟨res, rfl⟩
  | _ => exact Or.inl ⟨_, rfl⟩

/-- MECH_FAIL_CLEAR touches ACT's flag alone (spec/03 R64). -/
theorem mechFailCleared_alike (s : State) : s.act.alike (mechFailCleared s).1.act := by
  have hflag : s.act.alike (setMech false s).act := setMech_act false s ▸ s.act.alike_mech false
  unfold mechFailCleared
  split
  · exact s.act.alike_mech s.act.mech
  · (repeat' split) <;> simpa

/-- A capacitor measurement in the model's order (log 59). -/
theorem measureCap_eq (volts : Nat) (s : State) :
    measureCap volts s =
      let x := rechargeReview s.act.rechargeDemand (releaseHeld (endSpent (clampVolts volts) (s.measured volts)))
      if s.act.rechargeDemand = true ∧ (s.measured volts).act.rechargeDemand = false then seqEvent .energyReady x else x := rfl

/-! ### SEQ's events and the waiting frames (spec/10 R183) -/

@[simp] theorem answer_queue (src : Src) (res : Res) (detail : Nat) (body : Bytes) (s : State) :
    (answer src res detail body s).hlc.queue = s.hlc.queue := by
  cases src <;> simp [answer]

@[simp] theorem takeEvent_queue (e : SeqEvent) (s : State) : (takeEvent e s).hlc.queue = s.hlc.queue := by
  cases e with
  | openCmd => simp only [takeEvent, seqOpen]; (repeat' split) <;> simp
  | closeCmd => simp only [takeEvent, seqClose]; (repeat' split) <;> simp
  | position => simp only [takeEvent, seqPosition]; (repeat' split) <;> simp
  | select => simp only [takeEvent, seqSelect]; (repeat' split) <;> simp [applyGroup]
  | energyReady => simp only [takeEvent, seqEnergyReady]; split <;> simp
  | _ => simp [takeEvent]

@[simp] theorem release_queue (x : Held) (s : State) : (release x s).hlc.queue = s.hlc.queue := by
  cases x <;> simp [release]

@[simp] theorem announceStart_queue (k : StartKind) (s : State) : (announceStart k s).hlc.queue = s.hlc.queue := by
  have hreleased (l : List Held) (x : State) : (l.foldl (fun t y => release y t) x).hlc.queue = x.hlc.queue := by
    induction l generalizing x with
    | nil => rfl
    | cons y rest ih => simpa using ih (release y x)
  simp [announceStart, hreleased, completeNow]

@[simp] theorem magnitudeUpdate_queue (block : List SampleSet) (s : State) :
    (magnitudeUpdate block s).hlc.queue = s.hlc.queue := by simp [magnitudeUpdate]

@[simp] theorem queueFrame_current (f : RxFrame) (s : State) : (queueFrame f s).hlc.current = s.hlc.current := by
  unfold queueFrame placeFrame
  (repeat' split) <;> rfl

@[simp] theorem seqEvent_queue (e : SeqEvent) (s : State) : (seqEvent e s).hlc.queue = s.hlc.queue := by
  unfold seqEvent
  split <;> simp

end Sys2Proof.Machine
end

section
/-! SUPPORT. An invariant of ACT through every command (spec/04 R71 to R79): SEQ's events, the update, tags, battery, radio, host requests,
contacts and starts, each once for whatever ACT's moves keep. -/

namespace Sys2Proof.Machine

/-! ### What ACT's moves keep -/

/-- Two readings of ACT that its moves keep. `F` reads ACT alone; `I`, which `F` implies, may read the tags and the reserve level beside
it, and is what is left where a close may have begun. -/
structure ActKeeps (F : Act → Prop) (I : State → Prop) : Prop where
  /-- `F` implies `I` whatever stands beside ACT. -/
  of_act : ∀ {s : State}, F s.act → I s
  /-- `I` reads ACT, the tags and the reserve level alone. -/
  congr : ∀ {s t : State}, I s → t.act = s.act ∧ t.tag = s.tag ∧ t.bcu.level = s.bcu.level → I t
  /-- `F` reads the state, the pulse, the held count and a converter that is PAUSED or not. -/
  alike : ∀ {a b : Act}, a.alike b → F a → F b
  rest : ∀ {a : Act}, a.atRest → F a
  beginTrip : ∀ s : State, F (beginTrip s).act
  actTrip : ∀ s : State, I s → F (actTrip s).act
  beginClose : ∀ (o : Origin) (s : State), closeRefusal o s = none → I (beginClose o s)

/-- The events at which SEQ may ask ACT for a close (R53, R55, R57). -/
def SeqEvent.asksClose : SeqEvent → Bool
  | .energyReady | .closeCmd _ _ => true
  | .trip _ | .departure | .tagAccepted | .position _ | .openCmd _ _ | .select _ _ => false

/-- No request can follow a close that has begun: `F` holds, or `I` does and a request is current, so that none is taken (spec/10 R183). -/
def unserved (F : Act → Prop) (I : State → Prop) (s : State) : Prop := F s.act ∨ (I s ∧ s.hlc.current.isSome = true)

/-- An event that happens or not (log 4). -/
theorem happens_keeps {I : State → Prop} {can : Bool} {after s t : State} (h : I s) (ht : happens can after s = .next t)
    (ha : can = true → I after) : I t := by
  cases can <;> cases ht
  · exact h
  · exact ha rfl

namespace ActKeeps

section
variable {F : Act → Prop} {I : State → Prop} (K : ActKeeps F I)
include K

/-! ### Trips and closes at SEQ (spec/03 R44 to R57) -/

theorem seqTrip_act (r : TripReq) (s : State) (h : F s.act) : F (seqTrip r s).act := by
  rcases seqTrip_cases r s with hjoin | ⟨x, htrip, hact, -, -⟩
  · simpa [hjoin] using h
  · exact htrip ▸ K.actTrip x (K.of_act (hact ▸ h))

theorem seqTrip_kept (r : TripReq) (s : State) (h : I s) : I (seqTrip r s) := by
  rcases seqTrip_cases r s with hjoin | ⟨x, htrip, hsame⟩
  · exact hjoin ▸ K.congr h ⟨rfl, rfl, rfl⟩
  · exact K.of_act (htrip ▸ K.actTrip x (K.congr h hsame))

theorem seqOpen_act (a : Authority) (src : Src) (s : State) (h : F s.act) : F (seqOpen a src s).act := by
  have htrip := K.seqTrip_act (.command a) s h
  unfold seqOpen
  (repeat' split) <;> simpa

theorem seqOpen_kept (a : Authority) (src : Src) (s : State) (h : I s) : I (seqOpen a src s) := by
  have answered (x : State) (hx : I x) (res : Res) : I (answer src res 0 [] x) := K.congr hx (by simp)
  have htrip := K.seqTrip_kept (.command a) s h
  have hlock : I (enterLockout .commandOpen s) := K.congr h (by simp)
  unfold seqOpen
  cases s.seq.state with
  | lockout =>
    dsimp only
    split
    · exact answered _ h _
    · exact answered _ htrip _
  | deadTime => exact answered _ hlock _
  | recloseHold => exact answered _ hlock _
  | _ => exact answered _ htrip _

theorem seqClose_kept (a : Authority) (src : Src) (s : State) (h : I s) : I (seqClose a src s) := by
  rcases seqClose_cases a src s with ⟨res, hrefused⟩ | ⟨hpermitted, hclose⟩
  · exact hrefused ▸ K.congr h (by simp)
  · exact hclose ▸ K.congr (K.beginClose a.origin s hpermitted) (by simp [commandedClose])

/-- An automatic close begins with permission or not at all (R53, R76). -/
theorem autoClose_kept (s : State) (h : I s) : I (autoClose s) := by
  unfold autoClose
  cases hr : closeRefusal .auto s with
  | none => exact K.congr (K.beginClose .auto s hr) (by simp)
  | some res => exact K.congr h (by simp)

theorem deadEnd_kept (d : DeadEnd) (s : State) (h : I s) : I (deadEnd d s) := by
  cases d with
  | close => exact K.autoClose_kept s h
  | lockout c => exact K.congr h (by simp [deadEnd])
  | holdSource => exact K.congr h (by simp [deadEnd])

theorem deadTimeEnd_kept (s : State) (h : I s) : I (deadTimeEnd s) :=
  K.deadEnd_kept _ _ (K.congr h ⟨rfl, rfl, rfl⟩)

theorem seqSourceLive_kept (s : State) (h : I s) : I (seqSourceLive s) := by
  unfold seqSourceLive
  split
  · exact K.deadEnd_kept _ s h
  · exact h

theorem seqEnergyReady_kept (s : State) (h : I s) : I (seqEnergyReady s) := by
  unfold seqEnergyReady
  split
  · exact K.deadEnd_kept _ s h
  · exact h

/-! ### Events at SEQ (spec/03 R66) -/

theorem takeEvent_kept (e : SeqEvent) (s : State) (h : I s) : I (takeEvent e s) := by
  cases e with
  | trip r => exact K.seqTrip_kept r s h
  | departure => exact K.congr h (by simp [takeEvent])
  | tagAccepted => exact K.congr h (by simp [takeEvent])
  | energyReady => exact K.seqEnergyReady_kept s h
  | position p => exact K.congr h (by simp [takeEvent])
  | openCmd a src => exact K.seqOpen_kept a src s h
  | closeCmd a src => exact K.seqClose_kept a src s h
  | select g src => exact K.congr h (by simp [takeEvent])

theorem seqEvent_kept (e : SeqEvent) (s : State) (h : I s) : I (seqEvent e s) := by
  unfold seqEvent
  split
  · exact K.takeEvent_kept e s h
  · exact K.congr h ⟨rfl, rfl, rfl⟩

/-- An event that asks for no close leaves ACT's own reading. -/
theorem seqEvent_act (e : SeqEvent) (he : e.asksClose = false) (s : State) (h : F s.act) : F (seqEvent e s).act := by
  unfold seqEvent
  split
  · cases e with
    | trip r => exact K.seqTrip_act r s h
    | openCmd a src => exact K.seqOpen_act a src s h
    | energyReady => simp [SeqEvent.asksClose] at he
    | closeCmd a src => simp [SeqEvent.asksClose] at he
    | _ => simpa [takeEvent] using h
  · exact h

/-! ### The update (spec/02 R31, R36; spec/03 R54, R65) -/

theorem magnitudeUpdate_kept (block : List SampleSet) (s : State) (h : I s) : I (magnitudeUpdate block s) := by
  have hrequest (cause : Option Element) (x : State) (hx : I x) : I (requestTrip cause x) := by
    unfold requestTrip
    split
    · exact K.seqEvent_kept _ _ (K.congr hx (by simp))
    · exact hx
  have hpeu (x : State) (hx : I x) : I (peuUpdate x) := by
    have hreq := hrequest ((peuInputs x).cause x.peu) { x with peu := (peuInputs x).update x.peu } (K.congr hx ⟨rfl, rfl, rfl⟩)
    unfold peuUpdate
    dsimp only
    split
    · exact K.seqEvent_kept _ _ hreq
    · exact hreq
  have hline (x : State) (hx : I x) : I (lineUpdate x) := by
    have hrecord : I (sourceRecord x.lsu.source.line x.lsu.qualifySides.source.line { x with lsu := x.lsu.qualifySides }) :=
      K.congr hx (by simp)
    unfold lineUpdate
    dsimp only
    split
    · exact K.seqSourceLive_kept _ hrecord
    · exact hrecord
  have hpushed := hpeu { s with lsu := s.lsu.push block } (K.congr h ⟨rfl, rfl, rfl⟩)
  exact hline _ (K.congr hpushed (by simp))

/-! ### Tags, the battery and settings (spec/05, spec/06, spec/09) -/

theorem placeTag_act (a : Authority) (crew mode expiry : Nat) (s : State) (h : F s.act) : F (placeTag a crew mode expiry s).1.act := by
  have haccept (t : TagTable) (x : Tag) : F (acceptTag t x s).act := by
    simpa [acceptTag] using K.seqEvent_act .tagAccepted rfl { s with tag := { s.tag with table := t } } h
  unfold placeTag
  dsimp only
  split
  · exact h
  · split
    · exact h
    · split
      · exact haccept _ _
      · split
        · exact h
        · exact haccept _ _

theorem battMeasure_act (m : BattMeas) (r : TestReading) (s : State) (h : F s.act) : F (battMeasure m r s).act := by
  have hshutdown (x : State) (hx : F x.act) : F (beginShutdown x).act := by
    unfold beginShutdown
    split
    · exact K.seqEvent_act _ rfl _ hx
    · exact hx
  have hlevel (l : Level) (x : State) (hx : F x.act) : F (changeLevel l r x).act := by
    rw [changeLevel_eq]
    dsimp only
    have htested : F (if x.bcu.level = .normal then endTestByLevel r (levelTaken l x) else levelTaken l x).act := by
      split <;> simpa
    split
    · exact hshutdown _ htested
    · exact htested
  simp only [battMeasure, resumeTest_keeps, gradeReserve]
  split
  · simpa
  · exact hlevel _ _ (by simpa)

theorem selectGroup_act (g : Nat) (src : Src) (s : State) (h : F s.act) : F (selectGroup g src s).act := by
  unfold selectGroup
  split_ifs
  · simpa
  · exact h
  · exact K.seqEvent_act _ rfl s h

theorem completeCommit_act (b : StageBuf) (reply : Bool) (s : State) (h : F s.act) : F (completeCommit b reply s).act := by
  have hrelease (t : Target) (l : List Src) (x : State) (hx : F x.act) : F (releaseSelections t l x).act := by
    unfold releaseSelections
    split
    · rename_i g _
      induction l generalizing x with
      | nil => exact hx
      | cons src rest ih => exact ih _ (K.seqEvent_act _ rfl x hx)
    · exact hx
  unfold completeCommit
  dsimp only
  refine hrelease _ _ _ ?_
  split <;> simpa

/-! ### Radio and host requests (spec/08 R161, R162; spec/10 R183, R184) -/

/-- A radio command may begin a close by SEQ's event alone, which adds no frame to those that wait. -/
theorem ownCommand_kept (c : RadioCmd) (s : State) (h : F s.act) :
    F (ownCommand c s).act ∨ (I (ownCommand c s) ∧ (ownCommand c s).hlc.queue = s.hlc.queue) := by
  unfold ownCommand
  dsimp only
  split
  · exact Or.inl (K.seqEvent_act _ rfl s h)
  · exact Or.inr ⟨K.seqEvent_kept _ s (K.of_act h), by simp⟩
  · exact Or.inl (by simpa using K.placeTag_act _ _ _ _ s h)
  · exact Or.inl (by simpa)
  · exact Or.inl (K.selectGroup_act _ _ s h)
  all_goals exact Or.inl (by simpa)

theorem takeCommand_kept (c : RadioCmd) (s : State) (h : F s.act) :
    F (takeCommand c s).act ∨ (I (takeCommand c s) ∧ (takeCommand c s).hlc.queue = s.hlc.queue) := by
  unfold takeCommand
  split
  · exact Or.inl (by simpa)
  · split
    · exact Or.inl (by simpa)
    · split
      · exact Or.inl (by simpa)
      · exact K.ownCommand_kept c _ h

theorem takeBeacon_kept (b : Beacon) (s : State) (h : F s.act) :
    F (takeBeacon b s).act ∨ (I (takeBeacon b s) ∧ (takeBeacon b s).hlc.queue = s.hlc.queue) := by
  unfold takeBeacon takeCommands
  dsimp only
  split
  · simpa using K.takeCommand_kept _ _ (by simpa)
  · exact Or.inl (by simpa)

/-- A request is served as the current one, and a close that it begins leaves it so until the close has ended (spec/03 R57). -/
theorem serve_unserved (a : Authority) (r : Request) (s : State) (h : F s.act) (hcurrent : s.hlc.current.isSome = true) :
    unserved F I (serve a r s) := by
  cases r with
  | closeBreaker =>
    change unserved F I (seqEvent (.closeCmd a .host) s)
    unfold seqEvent
    split
    · rcases seqClose_cases a .host s with ⟨res, hrefused⟩ | ⟨-, hclose⟩
      · exact Or.inl (by simpa [takeEvent, hrefused] using h)
      · exact Or.inr ⟨K.seqClose_kept a .host s (K.of_act h), by simpa [takeEvent, hclose] using hcurrent⟩
    · exact Or.inl h
  | openBreaker => exact Or.inl (K.seqEvent_act _ rfl s h)
  | mechFailClear =>
    have hcleared := K.alike (mechFailCleared_alike s) h
    refine Or.inl ?_
    simp only [serve, serveMechFailClear]
    split <;> simpa
  | tagPlace crew mode expiry => exact Or.inl (by simpa [serve, serveTagPlace] using K.placeTag_act a crew mode expiry s h)
  | groupSelect g => exact Or.inl (K.selectGroup_act g .host s h)
  | _ => exact Or.inl (by simpa [serve] using h)

theorem unserved_congr {s t : State} (h : unserved F I s)
    (hsame : t.act = s.act ∧ t.tag = s.tag ∧ t.bcu.level = s.bcu.level ∧ t.hlc.current = s.hlc.current) : unserved F I t := by
  obtain ⟨hact, htag, hlevel, hcurrent⟩ := hsame
  rw [unserved, hact, hcurrent]
  exact h.imp id fun hheld => ⟨K.congr hheld.1 ⟨hact, htag, hlevel⟩, hheld.2⟩

theorem pumpFor_unserved (n : Nat) (s : State) (h : unserved F I s) : unserved F I (pumpFor n s) := by
  induction n generalizing s with
  | zero => exact h
  | succ n ih =>
    unfold pumpFor
    split
    · rename_i hserve
      refine ih _ ?_
      have hact : F s.act := h.resolve_right fun hheld => by
        simp [mayServe, Option.isSome_iff_ne_none.1 hheld.2] at hserve
      unfold serveNext
      split
      · exact h
      · exact K.serve_unserved _ _ _ hact rfl
    · exact h

theorem receive_unserved (f : RxFrame) (s : State) (h : unserved F I s) : unserved F I (receive f s) := by
  unfold receive
  split
  · exact h
  · exact K.pumpFor_unserved 5 _ (K.unserved_congr h (by simp))

theorem feed_unserved (bytes : Bytes) (s : State) (h : unserved F I s) : unserved F I (feed bytes s) := by
  have hkept (bs : Bytes) (y : State) (hy : unserved F I y) : unserved F I { y with hlc := { y.hlc with rx := bs } } :=
    K.unserved_congr hy ⟨rfl, rfl, rfl, rfl⟩
  have hreceived (n : Nat) (bs : Bytes) (x : State) (hx : unserved F I x) : unserved F I (receiveBytes n bs x) := by
    induction n generalizing bs x with
    | zero => exact hkept bs x hx
    | succ n ih =>
      unfold receiveBytes
      split
      · exact ih _ x hx
      · exact hkept bs x hx
      · exact ih _ _ (K.receive_unserved _ x hx)
  unfold feed
  split
  · exact h
  · exact hreceived _ _ s h

theorem kept_of_unserved {s : State} (h : unserved F I s) : I s := h.elim K.of_act And.left

theorem pump_of_act (s : State) (h : F s.act) : I (pump s) := K.kept_of_unserved (K.pumpFor_unserved 5 s (Or.inl h))

/-- Requests are served after an event where none waits, or where a close that has begun matters to `I` no more than to `F`. -/
theorem pump_kept (s : State) (h : I s) (hq : s.hlc.queue = [] ∨ ∀ t, I t → F t.act) : I (pump s) := by
  rcases hq with hq | hsame
  · rwa [pump_without_frames s hq]
  · exact K.pump_of_act s (hsame s h)

/-! ### Contacts, the capacitor and starts (spec/03 R66; spec/04 R69, R73, R74, R82; spec/09 R180) -/

theorem endByPosition_act (p : Position) (fin : PulseEnd) (s : State) (h : F s.act) : F (endByPosition p fin s).act := by
  unfold endByPosition
  split
  · exact K.rest (endTrip_atRest _ _ _ _)
  · exact K.rest (endHeldTrip_atRest _ _)
  · exact K.rest (endClose_atRest _ _ _ _)
  · exact h

theorem changePosition_act (p : Position) (fin : PulseEnd) (s : State) (h : F s.act) : F (changePosition p fin s).act :=
  K.seqEvent_act _ rfl _ (K.endByPosition_act p fin _ (K.alike (s.act.alike_position p s.act.startRead) h))

/-- The events held for the start are taken one after the other (R66). -/
theorem takeHeldEvents_kept (s : State) (h : I s) :
    I (takeHeldEvents s) ∧ (takeHeldEvents s).hlc.queue = s.hlc.queue := by
  have htaken (l : List SeqEvent) (x : State) (hx : I x) :
      I (l.foldl (fun t e => takeEvent e t) x) ∧ (l.foldl (fun t e => takeEvent e t) x).hlc.queue = x.hlc.queue := by
    induction l generalizing x with
    | nil => exact ⟨hx, rfl⟩
    | cons e rest ih => simpa using ih _ (K.takeEvent_kept e x hx)
  exact htaken s.seq.events _ (K.congr h ⟨rfl, rfl, rfl⟩)

theorem startReading_kept (k : StartKind) (p : Position) (s : State) (h : F s.act) (hq : s.hlc.queue = [] ∨ ∀ t, I t → F t.act) :
    I (startReading k p s) := by
  have hread := K.alike (s.act.alike_position p true) h
  obtain ⟨hkept, hqueue⟩ := K.takeHeldEvents_kept
    (announceStart k (decideStart p { s with act := { s.act with position := p, startRead := true } })) (K.of_act (by simpa))
  exact K.pump_kept _ hkept (hq.imp (fun hnone => hqueue.trans (by simpa)) id)

theorem contactRead_kept (c : Contact) (x : ContactState) (ms : Nat) (fin : PulseEnd) (s : State) (h : F s.act)
    (hq : s.hlc.queue = [] ∨ ∀ t, I t → F t.act) : I (contactRead c x ms fin s) := by
  have hread := K.alike (s.act.alike_contact c x ms) h
  unfold contactRead
  dsimp only
  split
  · unfold takePosition
    split
    · exact K.startReading_kept _ _ _ hread hq
    · split
      · exact K.of_act hread
      · exact K.pump_of_act _ (K.changePosition_act _ fin _ hread)
  · exact K.of_act hread

/-- A measurement may end a spent pulse, release a held trip and, in the end, raise the energy-ready event (R73, R74, R84; log 59). -/
theorem measureCap_kept (volts : Nat) (s : State) (h : F s.act) : I (measureCap volts s) := by
  have hspent (x : State) (hx : F x.act) : F (endSpent (clampVolts volts) x).act := by
    unfold endSpent
    split
    · exact K.rest (endTrip_atRest _ _ _ _)
    · exact hx
  have hreleased (x : State) (hx : F x.act) : F (releaseHeld x).act := by
    unfold releaseHeld
    split
    · exact K.beginTrip x
    · exact hx
  have hmeasured := hreleased _ (hspent (s.measured volts) (K.alike (measured_alike volts s) h))
  have hreviewed : I (rechargeReview s.act.rechargeDemand (releaseHeld (endSpent (clampVolts volts) (s.measured volts)))) :=
    K.of_act (by simpa)
  rw [measureCap_eq]
  dsimp only
  split
  · exact K.seqEvent_kept _ _ hreviewed
  · exact hreviewed

/-! ### The commands -/

theorem updateWhen_kept {can : Bool} {block : List SampleSet} {s t : State} (h : I s) (hq : s.hlc.queue = [] ∨ ∀ t, I t → F t.act)
    (ht : updateWhen can block s = .next t) : I t := by
  unfold updateWhen at ht
  split at ht
  · refine happens_keeps h ht fun _ => ?_
    split
    · exact K.pump_kept _ (K.magnitudeUpdate_kept block s h) (by simpa using hq)
    · exact h
  · cases ht

theorem measureWhen_kept {can : Bool} {m : BattMeas} {r : TestReading} {s t : State} (h : F s.act)
    (ht : measureWhen can m r s = .next t) : I t := by
  refine happens_keeps (K.of_act h) ht fun _ => ?_
  split
  · exact K.pump_of_act _ (K.battMeasure_act m r s h)
  · exact K.of_act h

/-- What every command keeps: `I` holds after a command that finds `F`, where no host request waits or `I` is `F` of ACT. -/
theorem exec_kept (c : Instr) (s t : State) (h : F s.act) (hq : s.hlc.queue = [] ∨ ∀ t, I t → F t.act) (ht : exec c s = .next t) :
    I t := by
  have hI : I s := K.of_act h
  have same {can : Bool} {after : State} (hx : happens can after s = .next t) (hact : after.act = s.act) : I t :=
    happens_keeps hI hx fun _ => K.of_act (hact ▸ h)
  have received {f : RxFrame} (hx : (Host.Outcome.next (receive f s) : Result) = .next t) : I t := by
    cases hx
    exact K.kept_of_unserved (K.receive_unserved f s (Or.inl h))
  have blank (stage : Stage) (store : Store) (connected : Bool) (cap pulses : Nat) (pending : List Instr) :
      I (.blank stage store connected cap pulses pending) := K.of_act (by simpa using K.rest (Act.idle_atRest cap pulses))
  cases c with
  | coldStart => cases ht; exact blank _ _ _ _ _ _
  | startDelayEnd =>
    change execStartDelayEnd _ s = _ at ht
    unfold execStartDelayEnd at ht
    split at ht <;> cases ht
    · exact K.of_act (K.rest (startAct_atRest _ _ _))
    all_goals exact hI
  | warmStart => exact happens_keeps hI ht fun _ => K.of_act (K.rest (Act.idle_atRest _ _))
  | supplyLoss => exact same ht rfl
  | holdUpEnd => exact happens_keeps hI ht fun _ => blank _ _ _ _ _ _
  | magnitudeUpdate => exact K.updateWhen_kept hI hq ht
  | liveQualified => exact K.updateWhen_kept hI hq ht
  | deadQualified => exact K.updateWhen_kept hI hq ht
  | elementOperate => exact K.updateWhen_kept hI hq ht
  | deadTimerExpiry => exact happens_keeps hI ht fun _ => K.deadTimeEnd_kept s hI
  | holdTimerExpiry => exact same ht (by simp)
  | reclaimTimerExpiry => exact same ht (by simp)
  | contactDebounced => exact happens_keeps hI ht fun _ => K.contactRead_kept _ _ _ _ s h hq
  | startReadingTimeout =>
    change execStartReadingTimeout s = _ at ht
    unfold execStartReadingTimeout at ht
    split at ht <;> cases ht
    · exact K.startReading_kept _ _ s h hq
    all_goals exact hI
  | capacitorMeasurement => exact happens_keeps hI ht fun _ => K.measureCap_kept _ s h
  | tripPulseTimeout => exact happens_keeps hI ht fun _ => K.pump_of_act _ (K.rest (endTrip_atRest _ _ _ s))
  | closePulseTimeout => exact happens_keeps hI ht fun _ => K.pump_of_act _ (K.rest (endClose_atRest _ _ _ s))
  | minuteEvent => exact same ht (by simp)
  | tagExpiry => exact same ht (by simp)
  | tagHourlyWrite => exact same ht (by simp)
  | batteryMeasurement => exact K.measureWhen_kept h ht
  | absorbTimeLimit => exact K.measureWhen_kept h ht
  | floatLowRunLimit => exact K.measureWhen_kept h ht
  | faultClearRunComplete => exact K.measureWhen_kept h ht
  | resyncRunComplete => exact K.measureWhen_kept h ht
  | chargeCountWrite => exact K.measureWhen_kept h ht
  | tripWaitTimeout => exact same ht rfl
  | partStop => exact happens_keeps hI ht fun _ => blank _ _ _ _ _ _
  | scheduledTestDue => exact same ht (by simp)
  | settlingComplete => exact same ht rfl
  | loadTestComplete => exact same ht (by simp)
  | testAbandonTimeout => exact same ht (by simp)
  | radioPacketReceived bytes =>
    change execRadioPacketReceived bytes s = _ at ht
    unfold execRadioPacketReceived at ht
    split at ht
    · rename_i b _
      refine happens_keeps hI ht fun _ => ?_
      rcases K.takeBeacon_kept b s h with hact | ⟨hkept, hqueue⟩
      · exact K.pump_of_act _ hact
      · exact K.pump_kept _ hkept (hqueue ▸ hq)
    · cases ht
      exact hI
  | beaconMissCheck => exact same ht rfl
  | ownSlotStart => exact same ht (by simp)
  | radioTransmitEnd => cases ht; exact K.of_act h
  | statusIntervalDue => exact same ht (by simp)
  | commitComplete =>
    change execCommitComplete s = _ at ht
    unfold execCommitComplete at ht
    split at ht <;> cases ht
    · exact K.pump_of_act _ (K.completeCommit_act _ _ s h)
    all_goals exact hI
  | retainedWriteComplete =>
    change execRetainedWriteComplete s = _ at ht
    unfold execRetainedWriteComplete at ht
    split at ht <;> cases ht
    · exact K.of_act (by simpa)
    · exact hI
  | hostFrameReceived bytes => cases ht; exact K.kept_of_unserved (K.feed_unserved bytes s (Or.inl h))
  | frameByteTimeout => cases ht; exact K.of_act h
  | keySwitchDebounced => exact same ht rfl
  | hostFrameTransmitted =>
    change execHostFrameTransmitted s = _ at ht
    unfold execHostFrameTransmitted at ht
    split at ht <;> cases ht
    · exact K.of_act h
    · exact hI
  | timeBaseSecond =>
    change execTimeBaseSecond s = _ at ht
    unfold execTimeBaseSecond at ht
    split at ht <;> cases ht
    · exact K.of_act (by simpa)
    · exact K.of_act (by simpa)
    · exact K.of_act (by simpa)
    all_goals exact hI
  | _ => exact received ht

end

end ActKeeps
end Sys2Proof.Machine
end

section
/-! PROOFS. ACT's items go with its state through every step (spec/04 R71, R73, R83), and a close pulse begins with permission alone (R76,
R77): the two readings that ACT's moves keep; O24, O25. -/

namespace Sys2Proof.Machine

/-! ### ACT's items (R71, R83) -/

theorem Act.atRest.sound {a : Act} (h : a.atRest) : a.sound := by
  obtain ⟨hstate, hpulse, hbefore, horigin, hheld, hconverter⟩ := h
  simp [Act.sound, hstate, hpulse, hbefore, horigin, hheld, hconverter]

theorem Act.alike.sound {a b : Act} (h : a.alike b) (ha : a.sound) : b.sound := by
  obtain ⟨hstate, hpulse, hbefore, horigin, hheld, hconverter⟩ := h
  simpa only [Act.sound, hstate, hpulse, hbefore, horigin, hheld, hconverter] using ha

theorem beginTrip_sound (s : State) : (beginTrip s).act.sound := by simp [Act.sound, beginTrip]

theorem beginClose_sound (o : Origin) (s : State) : (beginClose o s).act.sound := by simp [Act.sound, beginClose]

theorem holdTrip_sound (s : State) : (holdTrip s).act.sound := by simp [Act.sound, holdTrip, converterFrom_ne_paused]

theorem actTrip_sound (s : State) (h : s.act.sound) : (actTrip s).act.sound := by
  rcases actTrip_cases s with ⟨hsame, -⟩ | ⟨x, hbegin | hhold⟩
  · rwa [hsame]
  · exact hbegin ▸ beginTrip_sound x
  · exact hhold ▸ holdTrip_sound x

theorem actSound_keeps : ActKeeps Act.sound (·.act.sound) where
  of_act := id
  congr h hsame := hsame.1 ▸ h
  alike := Act.alike.sound
  rest := Act.atRest.sound
  beginTrip := beginTrip_sound
  actTrip := actTrip_sound
  beginClose o s _ := beginClose_sound o s

/-- One millisecond runs the pulse timer up to the pulse's length and the held count (R71, R73). -/
theorem Act.tick_sound (a : Act) (h : a.sound) : a.tick.sound := by
  rw [Act.tick_eq]
  obtain ⟨hpulse, hbefore, horigin, -, -, hheld, hfree, hconverter⟩ := h
  refine ⟨?_, hbefore, horigin, fun htrip n hn => ?_, fun hclose n hn => ?_, fun hs => ?_, fun hs => ?_, hconverter⟩
  · dsimp only
    split_ifs <;> simpa
  · obtain ⟨m, -, rfl⟩ : ∃ m ∈ a.pulseMs, min 120 (m + 1) = n := by
      simpa [show a.state = .tripPulse from htrip] using hn
    exact min_le_left 120 (m + 1)
  · obtain ⟨m, -, rfl⟩ : ∃ m ∈ a.pulseMs, min 200 (m + 1) = n := by
      simpa [show a.state = .closePulse from hclose] using hn
    exact min_le_left 200 (m + 1)
  · simpa [show a.state = .tripHeld from hs] using hheld hs
  · rcases hs with hs | hs <;> simpa [show a.state = _ from hs] using hfree (by simp [show a.state = _ from hs])

/-- Settles O25: every command is made of moves that leave ACT's items going together, and a millisecond runs its counts within their
bounds. -/
theorem actStaysSound : Obligations.ActStaysSound := by
  intro s t h ht
  unfold step at ht
  split at ht
  · rename_i c rest _
    exact actSound_keeps.exec_kept c (s.withPending rest) t h (Or.inr fun _ hx => hx) ht
  · unfold idle at ht
    split at ht
    · exact actSound_keeps.exec_kept _ s t h (Or.inr fun _ hx => hx) ht
    · cases ht
      unfold tick
      dsimp only
      split
      · exact s.act.tick_sound h
      · exact h

/-! ### A close with permission (R76, R77) -/

/-- A close pulse in progress is one that may begin as the part stands (R76). -/
def closesPermitted (s : State) : Prop := s.act.state = .closePulse → closePermitted s

theorem closesPermitted_of_no_close (s : State) (h : s.act.state ≠ .closePulse) : closesPermitted s := fun hclose => absurd hclose h

/-- R76's refusals leave a pulse that may begin. -/
theorem beginClose_permitted (o : Origin) (s : State) (h : closeRefusal o s = none) : closePermitted (beginClose o s) := by
  unfold closeRefusal at h
  split_ifs at h with _ hmech hunknown hclosed hnoClose hnoReclose hreserve hcap
  have htags : ∀ x ∈ s.tag.table.tags, x.mode ≠ .noClose := by simpa using hnoClose
  have hopen : s.act.position = .isOpen := by
    cases hp : s.act.position with
    | isOpen => rfl
    | closed => exact absurd hp hclosed
    | unknown => exact absurd hp hunknown
  refine ⟨Bool.eq_false_iff.2 hmech, hopen, htags, Nat.not_lt.1 hcap, fun horigin => ?_⟩
  have hremote : o ≠ .loc := fun ho => horigin (congrArg some ho)
  have huntagged : s.tag.table.tags = [] := by
    refine List.eq_nil_iff_forall_not_mem.2 fun x hx => ?_
    cases hmode : x.mode with
    | noClose => exact htags x hx hmode
    | noReclose => exact hnoReclose ⟨List.any_eq_true.2 ⟨x, hx, by simp [hmode]⟩, hremote⟩
  have hlevel : ¬ (s.bcu.level = .conserve ∨ s.bcu.level = .exhausted) := fun hbars =>
    hreserve ⟨(reserveBars_iff _).2 hbars, hremote⟩
  exact ⟨huntagged, not_or.1 hlevel⟩

theorem closesPermitted_keeps : ActKeeps (·.state ≠ .closePulse) closesPermitted where
  of_act := closesPermitted_of_no_close _
  congr h hsame := by
    obtain ⟨hact, htag, hlevel⟩ := hsame
    simpa only [closesPermitted, closePermitted, hact, htag, hlevel] using h
  alike h ha := h.1 ▸ ha
  rest h := by simp [h.1]
  beginTrip s := by simp [beginTrip]
  actTrip s _ := by
    rcases actTrip_cases s with ⟨hsame, hstate⟩ | ⟨x, hbegin | hhold⟩
    · rw [hsame]
      rintro hclose
      simp [hclose] at hstate
    · simp [hbegin, beginTrip]
    · simp [hhold, holdTrip]
  beginClose o s h _ := beginClose_permitted o s h

/-- Settles O24: with no close in progress there is nothing to permit, whatever stands beside ACT; a close begins with permission, and
within its command nothing that the permission reads changes after it. -/
theorem closesOnlyWithPermission : Obligations.ClosesOnlyWithPermission :=
  fun c s t hqueue hno ht hclose => closesPermitted_keeps.exec_kept c s t hno (Or.inl hqueue) ht hclose

end Sys2Proof.Machine
end

section
/-! SUPPORT and PROOFS. A capacitor measurement that ends no pulse and makes no reclose ready (spec/04 R73, R82, R83); O23. -/

namespace Sys2Proof.Machine

theorem exec_capacitorMeasurement_started (volts : Nat) (s : State) (hs : s.stage.started = true) :
    exec (.capacitorMeasurement volts) s = .next (measureCap volts s) := by
  change execCapacitorMeasurement volts s = _
  simp [execCapacitorMeasurement, whenStarted, happens, hs]

/-- With no reclose on hold for energy the energy-ready event is at most held for a SEQ that has not decided. -/
theorem energyReady_without_hold (s : State) (h : ¬ (s.seq.state = .recloseHold ∧ s.seq.holdReason = some .energy)) :
    (seqEvent .energyReady s).act = s.act ∧ (seqEvent .energyReady s).seq.state = s.seq.state ∧
    (seqEvent .energyReady s).orl = s.orl := by
  cases hd : s.seq.decided with
  | true => simp [seqEvent_decided _ s hd, takeEvent, seqEnergyReady, h]
  | false => simp [seqEvent_undecided _ s hd]

theorem releaseHeld_keeps (s : State) : (releaseHeld s).seq = s.seq ∧ (releaseHeld s).orl = s.orl := by
  unfold releaseHeld
  split <;> simp

/-- A held trip begins its pulse from the trip minimum on (R73). -/
theorem releaseHeld_begins (s : State) (hheld : s.act.state = .tripHeld) (hcap : 150 ≤ s.act.cap) : releaseHeld s = beginTrip s :=
  if_pos ⟨hheld, decide_eq_true hcap⟩

theorem releaseHeld_waits (s : State) (h : ¬ (s.act.state = .tripHeld ∧ 150 ≤ s.act.cap)) : releaseHeld s = s :=
  if_neg fun hr => h ⟨hr.1, of_decide_eq_true hr.2⟩

/-- A measurement that ends no spent pulse and raises the event for no reclose forms capacitor and converter, and then at most
releases a held trip. -/
theorem measureCap_unspent (volts : Nat) (s : State) (hspent : s.act.spent = false)
    (hhold : ¬ (s.seq.state = .recloseHold ∧ s.seq.holdReason = some .energy ∧ s.act.cap < 250 ∧ 250 ≤ volts)) :
    (measureCap volts s).act = (releaseHeld (s.measured volts)).act ∧ (measureCap volts s).seq.state = s.seq.state ∧
    (measureCap volts s).orl = s.orl := by
  let x := releaseHeld (s.measured volts)
  obtain ⟨hseq, horl⟩ : x.seq = s.seq ∧ x.orl = s.orl := releaseHeld_keeps (s.measured volts)
  obtain ⟨b, hreview⟩ := rechargeReview_eq s.act.rechargeDemand x
  have hall : measureCap volts s = if s.act.rechargeDemand = true ∧ (s.measured volts).act.rechargeDemand = false
      then seqEvent .energyReady { x with bcu := b } else { x with bcu := b } := by
    rw [measureCap_eq, endSpent_of_not_spent (clampVolts volts) (s.measured volts) hspent]
    exact hreview ▸ rfl
  rw [hall]
  split
  · rename_i hready
    have hlow : s.act.cap < 250 := of_decide_eq_true hready.1
    have hhigh : 250 ≤ volts := (le_min_iff.1 (Nat.not_lt.1 (of_decide_eq_false hready.2))).2
    obtain ⟨hact, hstate, hsame⟩ := energyReady_without_hold { x with bcu := b } fun h =>
      hhold ⟨hseq ▸ h.1, hseq ▸ h.2, hlow, hhigh⟩
    exact ⟨hact, hstate.trans (congrArg Seq.state hseq), hsame.trans horl⟩
  · exact ⟨rfl, congrArg Seq.state hseq, horl⟩

theorem converterStep_eq (c : Converter) (v : Nat) : converterStep c v = match c with
    | .full => if 250 ≤ v then .topup else .full
    | .topup => if v < 250 then .full else if 300 ≤ v then .off else .topup
    | .off => if v < 250 then .full else if v < 290 then .topup else .off
    | x => x := by
  cases c <;> rfl

/-- Settles O23: what is left of a measurement is the release of a held trip. -/
theorem capacitorMeasured : Obligations.CapacitorMeasured := by
  intro volts s hs hhold hpulse
  have hspent : s.act.spent = false := Bool.eq_false_iff.2 fun h => hpulse ((Act.spent_iff _).1 h)
  obtain ⟨hact, hstate, horl⟩ := measureCap_unspent volts s hspent hhold
  have hcap : (releaseHeld (s.measured volts)).act.cap = min 350 volts := by
    unfold releaseHeld
    split <;> rfl
  refine ⟨measureCap volts s, exec_capacitorMeasurement_started volts s hs, hact ▸ hcap, hstate, horl, fun hheld hv => ?_,
    fun hno => ?_⟩
  · rw [hact, releaseHeld_begins (s.measured volts) hheld hv]
    exact ⟨rfl, rfl, rfl, rfl, rfl⟩
  · rw [hact, releaseHeld_waits (s.measured volts) hno, State.measured]
    dsimp only
    rw [converterStep_eq]
    rfl

end Sys2Proof.Machine
end

section
/-! SUPPORT. The tag tables that the store holds or is on its way to hold (spec/05 R108, spec/09 R178): every operation but those on tags leaves
them alone. -/

namespace Sys2Proof.Machine

/-! ### The tag tables in the store and on their way to it (spec/05 R108, spec/09 R178) -/

/-- The tag table that a queued write holds, if it is one of the table. -/
def RetItem.tagTables : RetItem → List TagTable
  | .tags t => [t]
  | .lockout _ | .mech _ | .activeGroup _ | .ring _ _ | .wear _ | .opCount _ | .charge _ | .history _ => []

@[simp] theorem RetItem.tagTables_other :
    (∀ c, (RetItem.lockout c).tagTables = []) ∧ (∀ f, (RetItem.mech f).tagTables = []) ∧
    (∀ g, (RetItem.activeGroup g).tagTables = []) ∧ (∀ r n, (RetItem.ring r n).tagTables = []) ∧
    (∀ w, (RetItem.wear w).tagTables = []) ∧ (∀ n, (RetItem.opCount n).tagTables = []) ∧
    (∀ c, (RetItem.charge c).tagTables = []) ∧ (∀ l, (RetItem.history l).tagTables = []) := by
  simp [RetItem.tagTables]

/-- The retained tag table, the one in flight and those that are queued. -/
def Sst.tables (x : Sst) : List TagTable := x.store.tags :: (x.inFlight.toList ++ x.queue).flatMap RetItem.tagTables

theorem RetItem.mem_tagTables (i : RetItem) (t : TagTable) : t ∈ i.tagTables ↔ i = .tags t := by
  cases i <;> simp [RetItem.tagTables, eq_comm]

theorem mem_tables_iff (x : Sst) (t : TagTable) :
    t ∈ x.tables ↔ t = x.store.tags ∨ x.inFlight = some (.tags t) ∨ RetItem.tags t ∈ x.queue := by
  simp [Sst.tables, RetItem.mem_tagTables]

theorem tagsSound_iff (s : State) : tagsSound s ↔ s.tag.table.sound ∧ ∀ t ∈ s.sst.tables, t.sound := by
  simp only [tagsSound, writeQueued, mem_tables_iff, forall_eq_or_imp]

/-- Starting a write moves it from the queue into flight. -/
@[simp] theorem kick_tables (x : Sst) : x.kick.tables = x.tables := by
  unfold Sst.kick
  split_ifs with h
  · rfl
  · have hf : x.inFlight = none := by
      cases hx : x.inFlight with
      | none => rfl
      | some j => simp [hx] at h
    split
    · rfl
    · rename_i hq
      simp [Sst.tables, hf, hq]

theorem insertWrite_tagTables (i : RetItem) (l : List RetItem) (h : i.tagTables = []) :
    (insertWrite i l).flatMap RetItem.tagTables = l.flatMap RetItem.tagTables := by
  have hsame (y : RetItem) (hy : i.item = y.item) : y.tagTables = [] := by
    cases y <;> cases i <;> simp [RetItem.item, RetItem.tagTables] at hy h ⊢
  induction l with
  | nil => simp [insertWrite, h]
  | cons y rest ih =>
    rw [insertWrite]
    split_ifs with hlt heq
    · simp [h]
    · simp [h, hsame y heq]
    · simp [ih]

/-- A write of another item than the tag table. -/
@[simp] theorem queueWrite_tables (i : RetItem) (s : State) (h : i.tagTables = []) : (queueWrite i s).sst.tables = s.sst.tables := by
  rw [queueWrite, kick_tables]
  simp [Sst.tables, insertWrite_tagTables i _ h]

/-- A write of the tag table. -/
theorem queueWrite_mem_tables (t u : TagTable) (s : State) (h : u ∈ (queueWrite (.tags t) s).sst.tables) : u = t ∨ u ∈ s.sst.tables := by
  simp only [queueWrite, kick_tables, mem_tables_iff] at h ⊢
  rcases h with h | h | h
  · exact Or.inr (Or.inl h)
  · exact Or.inr (Or.inr (Or.inl h))
  · rcases mem_insertWrite _ _ _ h with h | h
    · exact Or.inl (RetItem.tags.inj h)
    · exact Or.inr (Or.inr (Or.inr h))

/-! ### Records, groups and SEQ's entries (Machine/Ops.lean) -/

/-- A fold of operations that leave these tables alone leaves them alone. -/
theorem foldl_tables {α : Type} (f : State → α → State) (h : ∀ t x, (f t x).sst.tables = t.sst.tables) (l : List α) (s : State) :
    (l.foldl f s).sst.tables = s.sst.tables := by
  induction l generalizing s with
  | nil => rfl
  | cons x rest ih => rw [List.foldl_cons, ih, h]

@[simp] theorem lockoutItem_tagTables (s : State) : (lockoutItem s).tagTables = [] := by simp [lockoutItem]

@[simp] theorem enterRecord_tables (r : Record) (s : State) : (enterRecord r s).sst.tables = s.sst.tables := by simp [enterRecord]

@[simp] theorem complete_tables (body : RecBody) (s : State) : (complete body s).sst.tables = s.sst.tables := by
  unfold complete
  split <;> simp [completeNow]

@[simp] theorem completeAll_tables (bodies : List RecBody) (s : State) : (completeAll bodies s).sst.tables = s.sst.tables := by
  unfold completeAll
  exact foldl_tables _ (fun t b => complete_tables b t) _ _

@[simp] theorem endTest_tables (outcome : TestOutcome) (r mv : Option Nat) (s : State) :
    (endTest outcome r mv s).sst.tables = s.sst.tables := by simp [endTest]

@[simp] theorem takeHeld_tables (s : State) : (takeHeld s).sst.tables = s.sst.tables := by
  unfold takeHeld
  split
  · simp [Sst.tables]
  · rfl

@[simp] theorem applyGroup_tables (g : Nat) (s : State) : (applyGroup g s).sst.tables = s.sst.tables := by
  
  simp [applyGroup]
  rfl

@[simp] theorem applyPending_tables (s : State) : (applyPending s).sst.tables = s.sst.tables := by
  unfold applyPending
  split <;> simp

@[simp] theorem enterLockout_tables (c : Cause) (s : State) : (enterLockout c s).sst.tables = s.sst.tables := by simp [enterLockout]

@[simp] theorem enterMechFail_tables (s : State) : (enterMechFail s).sst.tables = s.sst.tables := by
  simp only [enterMechFail]
  split <;> simp

@[simp] theorem enterClosed_tables (s : State) : (enterClosed s).sst.tables = s.sst.tables := by
  simp only [enterClosed]
  split <;> simp

@[simp] theorem setMech_tables (f : Bool) (s : State) : (setMech f s).sst.tables = s.sst.tables := by
  unfold setMech
  split <;> simp

/-! ### Pulses and their completions (Machine/Actuator.lean) -/

@[simp] theorem countOperation_tables (s : State) : (countOperation s).sst.tables = s.sst.tables := by
  unfold countOperation
  split <;> simp

@[simp] theorem takeInterruption_tables (p : PulsePart) (s : State) : (takeInterruption p s).sst.tables = s.sst.tables := by
  simp only [takeInterruption]
  (repeat' split) <;> simp

@[simp] theorem handPart_tables (p : TripPart) (s : State) : (handPart p s).sst.tables = s.sst.tables := by
  unfold handPart completeTrip
  split <;> simp

@[simp] theorem seqCloseCompletion_tables (o : PulseOutcome) (s : State) : (seqCloseCompletion o s).sst.tables = s.sst.tables := by
  unfold seqCloseCompletion
  (repeat' split) <;> simp

@[simp] theorem carryOut_tables (d : AfterTrip) (s : State) : (carryOut d s).sst.tables = s.sst.tables := by
  unfold carryOut
  split <;> simp

@[simp] theorem handSeqPart_tables (s : State) : (handSeqPart s).sst.tables = s.sst.tables := by
  unfold handSeqPart
  split <;> simp

@[simp] theorem tripCompletion_tables (o : PulseOutcome) (pp : PulsePart) (partFirst : Bool) (s : State) :
    (tripCompletion o pp partFirst s).sst.tables = s.sst.tables := by
  simp only [tripCompletion]
  (repeat' split) <;> simp

@[simp] theorem handCloseRecord_tables (b : RecBody) (o : PulseOutcome) (s : State) :
    (handCloseRecord b o s).sst.tables = s.sst.tables := by
  simp only [handCloseRecord]
  split <;> simp

@[simp] theorem endClose_tables (o : PulseOutcome) (pulse : Nat) (fin : PulseEnd) (s : State) :
    (endClose o pulse fin s).sst.tables = s.sst.tables := by
  simp only [endClose]
  (repeat' split) <;> simp

@[simp] theorem cutClose_tables (s : State) : (cutClose s).sst.tables = s.sst.tables := by simp [cutClose]

@[simp] theorem actTrip_tables (s : State) : (actTrip s).sst.tables = s.sst.tables := by
  unfold actTrip
  split <;> simp

@[simp] theorem endTrip_tables (o : PulseOutcome) (pulse : Nat) (fin : PulseEnd) (s : State) :
    (endTrip o pulse fin s).sst.tables = s.sst.tables := by
  simp only [endTrip]
  split <;> simp

@[simp] theorem endHeldTrip_tables (fin : PulseEnd) (s : State) : (endHeldTrip fin s).sst.tables = s.sst.tables := by simp [endHeldTrip]

/-! ### SEQ (Machine/Sequencer.lean) -/

@[simp] theorem seqTrip_tables (r : TripReq) (s : State) : (seqTrip r s).sst.tables = s.sst.tables := by
  unfold seqTrip tripNow tripAttempt
  (repeat' split) <;> simp

@[simp] theorem seqOpen_tables (a : Authority) (src : Src) (s : State) : (seqOpen a src s).sst.tables = s.sst.tables := by
  unfold seqOpen
  (repeat' split) <;> simp

@[simp] theorem seqClose_tables (a : Authority) (src : Src) (s : State) : (seqClose a src s).sst.tables = s.sst.tables := by
  unfold seqClose commandedClose
  (repeat' split) <;> simp

@[simp] theorem autoRefused_tables (r : Res) (s : State) : (autoRefused r s).sst.tables = s.sst.tables := by
  unfold autoRefused
  (repeat' split) <;> simp

@[simp] theorem autoClose_tables (s : State) : (autoClose s).sst.tables = s.sst.tables := by
  unfold autoClose
  split <;> simp

@[simp] theorem deadEnd_tables (d : DeadEnd) (s : State) : (deadEnd d s).sst.tables = s.sst.tables := by
  unfold deadEnd
  split <;> simp

@[simp] theorem deadTimeEnd_tables (s : State) : (deadTimeEnd s).sst.tables = s.sst.tables := by simp [deadTimeEnd]

@[simp] theorem seqSourceLive_tables (s : State) : (seqSourceLive s).sst.tables = s.sst.tables := by
  unfold seqSourceLive
  split <;> simp

@[simp] theorem seqEnergyReady_tables (s : State) : (seqEnergyReady s).sst.tables = s.sst.tables := by
  unfold seqEnergyReady
  split <;> simp

@[simp] theorem holdEnd_tables (s : State) : (holdEnd s).sst.tables = s.sst.tables := by
  unfold holdEnd
  split <;> simp

@[simp] theorem seqDeparture_tables (s : State) : (seqDeparture s).sst.tables = s.sst.tables := by
  unfold seqDeparture
  split <;> simp

@[simp] theorem seqTagAccepted_tables (s : State) : (seqTagAccepted s).sst.tables = s.sst.tables := by
  unfold seqTagAccepted
  split <;> simp

@[simp] theorem seqPosition_tables (p : Position) (s : State) : (seqPosition p s).sst.tables = s.sst.tables := by
  unfold seqPosition
  (repeat' split) <;> simp

@[simp] theorem seqSelect_tables (g : Nat) (src : Src) (s : State) : (seqSelect g src s).sst.tables = s.sst.tables := by
  unfold seqSelect
  (repeat' split) <;> simp

@[simp] theorem takeEvent_tables (e : SeqEvent) (s : State) : (takeEvent e s).sst.tables = s.sst.tables := by
  unfold takeEvent
  split <;> simp

@[simp] theorem seqEvent_tables (e : SeqEvent) (s : State) : (seqEvent e s).sst.tables = s.sst.tables := by
  unfold seqEvent
  split <;> simp

@[simp] theorem mechFailCleared_tables (s : State) : (mechFailCleared s).1.sst.tables = s.sst.tables := by
  unfold mechFailCleared
  (repeat' split) <;> simp

/-! ### The update and the battery (Machine/Protection.lean, Battery.lean) -/

@[simp] theorem requestTrip_tables (cause : Option Element) (s : State) : (requestTrip cause s).sst.tables = s.sst.tables := by
  unfold requestTrip
  split <;> simp

@[simp] theorem peuUpdate_tables (s : State) : (peuUpdate s).sst.tables = s.sst.tables := by
  simp only [peuUpdate]
  split <;> simp

@[simp] theorem applyWhenQuiet_tables (s : State) : (applyWhenQuiet s).sst.tables = s.sst.tables := by
  unfold applyWhenQuiet
  split <;> simp

@[simp] theorem sourceRecord_tables (old new : LineState) (s : State) : (sourceRecord old new s).sst.tables = s.sst.tables := by
  unfold sourceRecord
  split <;> simp

@[simp] theorem lineUpdate_tables (s : State) : (lineUpdate s).sst.tables = s.sst.tables := by
  simp only [lineUpdate]
  split <;> simp

@[simp] theorem magnitudeUpdate_tables (block : List SampleSet) (s : State) : (magnitudeUpdate block s).sst.tables = s.sst.tables := by
  simp [magnitudeUpdate]

@[simp] theorem endTestByLevel_tables (r : TestReading) (s : State) : (endTestByLevel r s).sst.tables = s.sst.tables := by
  unfold endTestByLevel endLoaded
  split <;> simp

@[simp] theorem beginShutdown_tables (s : State) : (beginShutdown s).sst.tables = s.sst.tables := by
  unfold beginShutdown
  split <;> simp

@[simp] theorem changeLevel_tables (l : Level) (r : TestReading) (s : State) : (changeLevel l r s).sst.tables = s.sst.tables := by
  simp only [changeLevel]
  (repeat' split) <;> simp

@[simp] theorem countMeasurement_tables (s : State) : (countMeasurement s).sst.tables = s.sst.tables := by
  simp only [countMeasurement]
  split <;> simp

@[simp] theorem gradeReserve_tables (r : TestReading) (s : State) : (gradeReserve r s).sst.tables = s.sst.tables := by
  simp only [gradeReserve]
  split <;> simp

@[simp] theorem battMeasure_tables (m : BattMeas) (r : TestReading) (s : State) : (battMeasure m r s).sst.tables = s.sst.tables := by
  simp [battMeasure]

@[simp] theorem completeTest_tables (r : TestReading) (s : State) : (completeTest r s).sst.tables = s.sst.tables := by
  simp [completeTest, endLoaded]

@[simp] theorem cancelTest_tables (s : State) : (cancelTest s).sst.tables = s.sst.tables := by
  unfold cancelTest
  split <;> simp

@[simp] theorem formWear_tables (s : State) : (formWear s).sst.tables = s.sst.tables := by simp [formWear]

@[simp] theorem resetWear_tables (p : Phase) (s : State) : (resetWear p s).sst.tables = s.sst.tables := by simp [resetWear]

/-! ### Settings (Machine/Settings.lean) -/

@[simp] theorem stageOpen_tables (kind number : Nat) (s : State) : (stageOpen kind number s).1.sst.tables = s.sst.tables := by
  unfold stageOpen
  split <;> rfl

@[simp] theorem stageLoad_tables (value : Int) (advance : Nat) (s : State) : (stageLoad value advance s).1.sst.tables = s.sst.tables := by
  unfold stageLoad
  (repeat' split) <;> rfl

@[simp] theorem stageSeek_tables (field : Nat) (s : State) : (stageSeek field s).1.sst.tables = s.sst.tables := by
  unfold stageSeek
  (repeat' split) <;> rfl

@[simp] theorem beginCommit_tables (s : State) : (beginCommit s).sst.tables = s.sst.tables := by
  unfold beginCommit
  split <;> rfl

@[simp] theorem globalEffects_tables (old new : Page) (s : State) : (globalEffects old new s).sst.tables = s.sst.tables := by
  simp only [globalEffects, rescaleCharge]
  (repeat' split) <;> simp

@[simp] theorem replaceWorking_tables (t : Target) (p : Page) (s : State) : (replaceWorking t p s).sst.tables = s.sst.tables := by
  cases t with
  | group n =>
    simp only [replaceWorking]
    (repeat' split) <;> rfl
  | global => exact globalEffects_tables _ _ _
  | curve n => rfl

@[simp] theorem releaseSelections_tables (t : Target) (waiting : List Src) (s : State) :
    (releaseSelections t waiting s).sst.tables = s.sst.tables := by
  unfold releaseSelections
  split
  · exact foldl_tables _ (fun x src => seqEvent_tables _ x) _ _
  · rfl

@[simp] theorem withPage_tags (st : Store) (t : Target) (p : Page) : (st.withPage t p).tags = st.tags := by
  cases t <;> rfl

@[simp] theorem completeCommit_tables (b : StageBuf) (reply : Bool) (s : State) :
    (completeCommit b reply s).sst.tables = s.sst.tables := by
  let x := replaceWorking b.target (storedPage b.target b.page)
    { s with sst := { s.sst with store := s.sst.store.withPage b.target (storedPage b.target b.page) } }
  have hx : x.sst.tables = s.sst.tables := (replaceWorking_tables _ _ _).trans (by simp [Sst.tables])
  have hend : ({ x.sst with staging := .empty, waiting := [] } : Sst).kick.tables = s.sst.tables := (kick_tables _).trans hx
  simp only [completeCommit]
  split <;> simpa using hend

@[simp] theorem selectGroup_tables (g : Nat) (src : Src) (s : State) : (selectGroup g src s).sst.tables = s.sst.tables := by
  unfold selectGroup
  split_ifs
  · simp
  · rfl
  · simp

@[simp] theorem serveMechFailClear_tables (a : Authority) (s : State) : (serveMechFailClear a s).sst.tables = s.sst.tables := by
  unfold serveMechFailClear
  split <;> simp

@[simp] theorem serveWearReset_tables (a : Authority) (phase : Nat) (s : State) :
    (serveWearReset a phase s).sst.tables = s.sst.tables := by
  unfold serveWearReset
  (repeat' split) <;> simp

@[simp] theorem serveCommit_tables (s : State) : (serveCommit s).sst.tables = s.sst.tables := by
  unfold serveCommit
  split <;> simp

/-! ### What lands in the store (spec/09 R178 to R180) -/

theorem withItem_tags (st : Store) (i : RetItem) : (st.withItem i).tags = st.tags ∨ i = .tags (st.withItem i).tags := by
  cases i <;> simp [Store.withItem]

theorem written_tags (x : Sst) : x.written.tags ∈ x.tables := by
  rw [mem_tables_iff, Sst.written]
  split
  · rename_i i hi
    rw [hi]
    exact (withItem_tags x.store i).imp id fun h => Or.inl (congrArg some h)
  · exact Or.inl rfl

@[simp] theorem paged_tags (x : Sst) (st : Store) : (x.paged st).tags = st.tags := by
  unfold Sst.paged
  split <;> simp

theorem store_tags_mem (x : Sst) : x.store.tags ∈ x.tables := List.mem_cons_self

theorem landed_tags (land : Bool) (x : Sst) : (x.landed land).tags ∈ x.tables := by
  have hmem : (if land || x.lost then x.written else x.store).tags ∈ x.tables := by
    split
    · exact written_tags x
    · exact store_tags_mem x
  simp only [Sst.landed]
  split <;> simpa using hmem

/-- A write that ends leaves the table it held in the store. -/
theorem completeWrite_mem_tables (i : RetItem) (s : State) (h : s.sst.inFlight = some i) (t : TagTable)
    (ht : t ∈ (completeWrite i s).sst.tables) : t ∈ s.sst.tables := by
  simp only [completeWrite, kick_tables, mem_tables_iff, h] at ht ⊢
  rcases ht with ht | ht | ht
  · exact (withItem_tags s.sst.store i).imp ht.trans fun hi => Or.inl (by rw [ht, ← hi])
  · cases ht
  · exact Or.inr (Or.inr ht)

@[simp] theorem runOutPulse_tables (s : State) : (runOutPulse s).sst.tables = s.sst.tables := by
  unfold runOutPulse
  split <;> simp

end Sys2Proof.Machine
end

section
/-! SUPPORT. A sound tag table through its operations (spec/05 R88 to R90): a change tag by tag, a removal, a new tag. -/

namespace Sys2Proof.Machine

/-! ### The table under its operations (spec/05 R88 to R90) -/

theorem TagTable.map_tags (t : TagTable) (f : Tag → Tag) :
    ({ t with slots := t.slots.map (Option.map f) } : TagTable).tags = t.tags.map f := by
  simp [TagTable.tags, List.filterMap_map, List.map_filterMap]

/-- A change tag by tag that leaves number, crew and mode alone. -/
theorem TagTable.map_sound (t : TagTable) (f : Tag → Tag) (h : t.sound)
    (hf : ∀ x ∈ t.tags, (f x).sound ∧ (f x).number = x.number ∧ (f x).crew = x.crew ∧ (f x).mode = x.mode) :
    ({ t with slots := t.slots.map (Option.map f) } : TagTable).sound := by
  obtain ⟨hlen, hsound, hlo, hhi, hpair⟩ := h
  refine ⟨by simpa using hlen, fun y hy => ?_, hlo, hhi, ?_⟩
  · rw [t.map_tags, List.mem_map] at hy
    obtain ⟨x, hx, rfl⟩ := hy
    exact (hf x hx).1
  · rw [t.map_tags, List.pairwise_map]
    refine hpair.imp_of_mem fun {x y} hx hy hne => ?_
    obtain ⟨-, hxnumber, hxcrew, hxmode⟩ := hf x hx
    obtain ⟨-, hynumber, hycrew, hymode⟩ := hf y hy
    rwa [hxnumber, hxcrew, hxmode, hynumber, hycrew, hymode]

theorem TagTable.tag_sound (t : TagTable) (h : t.sound) {x : Tag} (hx : x ∈ t.tags) : x.sound := h.2.1 x hx

theorem TagTable.minute_sound (t : TagTable) (h : t.sound) : t.minute.sound := by
  refine t.map_sound _ h fun x hx => ⟨?_, rfl, rfl, rfl⟩
  obtain ⟨h1, h2, h3, h4, hleft, hmode⟩ := t.tag_sound h hx
  refine ⟨h1, h2, h3, h4, fun n hn => ?_, fun hm => by simp [hmode hm]⟩
  obtain ⟨m, hm, rfl⟩ : ∃ m ∈ x.left, m - 1 = n := by simpa using hn
  exact (Nat.sub_le m 1).trans (hleft m hm)

theorem TagTable.eq_of_number (t : TagTable) (h : t.sound) {x y : Tag} (hx : x ∈ t.tags) (hy : y ∈ t.tags) (hn : x.number = y.number) :
    x = y :=
  List.inj_on_of_nodup_map (t.numbers_nodup h) hx hy hn

/-- A tag replaced by one of its number, crew and mode. -/
theorem TagTable.replace_sound (t : TagTable) (x y : Tag) (h : t.sound) (hx : x ∈ t.tags) (hy : y.sound) (hn : y.number = x.number)
    (hc : y.crew = x.crew) (hm : y.mode = x.mode) : (t.replace y).sound := by
  refine t.map_sound _ h fun z hz => ?_
  by_cases hzy : z.number = y.number
  · obtain rfl := t.eq_of_number h hz hx (hzy.trans hn)
    simpa [hzy, hc, hm] using hy
  · simpa [hzy] using t.tag_sound h hz

theorem TagTable.remove_tags (t : TagTable) (n : Nat) : (t.remove n).tags = t.tags.filter (·.number != n) := by
  simp only [TagTable.tags, TagTable.remove, List.filterMap_map]
  induction t.slots with
  | nil => rfl
  | cons o rest ih =>
    cases o with
    | none => simpa using ih
    | some x => by_cases hx : x.number = n <;> simpa [hx] using ih

theorem TagTable.remove_sound (t : TagTable) (n : Nat) (h : t.sound) : (t.remove n).sound := by
  obtain ⟨hlen, hsound, hlo, hhi, hpair⟩ := h
  refine ⟨by simpa [TagTable.remove] using hlen, fun x hx => ?_, hlo, hhi, ?_⟩
  · rw [t.remove_tags] at hx
    exact hsound x (List.mem_of_mem_filter hx)
  · rw [t.remove_tags]
    exact hpair.filter _

theorem fillSlot_tags (x : Tag) (l : List (Option Tag)) (h : (l.filterMap id).length < l.length) :
    ((fillSlot x l).filterMap id).Perm (x :: l.filterMap id) := by
  induction l with
  | nil => simp at h
  | cons o rest ih =>
    cases o with
    | none => exact List.Perm.refl _
    | some y => exact ((ih (by simpa using h)).cons y).trans (List.Perm.swap x y _)

theorem fillSlot_length (x : Tag) (l : List (Option Tag)) : (fillSlot x l).length = l.length := by
  induction l with
  | nil => rfl
  | cons o rest ih => cases o <;> simp [fillSlot, ih]

/-- A new tag in a sound table that is not full and has none of its crew and mode. -/
theorem TagTable.store_sound (t : TagTable) (x : Tag) (h : t.sound) (hroom : t.tags.length < 8)
    (hx : ∀ n, 1 ≤ n → n ≤ 65535 → ({ x with number := n } : Tag).sound)
    (hnew : ∀ y ∈ t.tags, ¬ (y.crew = x.crew ∧ y.mode = x.mode)) : (t.store x).sound := by
  obtain ⟨n, k, -, hnum, -, ⟨hreach, -⟩, hfree, hnext, -⟩ := t.store_stores x h hroom
  obtain ⟨hlen, hsound, hlo, hhi, hpair⟩ := h
  have hn : 1 ≤ n ∧ n ≤ 65535 := by
    rw [hreach, tagAfter_iterate _ k hlo hhi]
    omega
  have hperm : (t.store x).tags.Perm ({ x with number := n } :: t.tags) := by
    subst hnum
    exact fillSlot_tags _ t.slots (hlen ▸ hroom)
  have hfresh : ∀ y ∈ t.tags, n ≠ y.number := fun y hy he => by
    rw [TagTable.holds, List.any_eq_false] at hfree
    exact hfree y hy (by simp [he])
  refine ⟨(fillSlot_length _ _).trans hlen, fun y hy => ?_, ?_, ?_, ?_⟩
  · rcases List.mem_cons.1 (hperm.subset hy) with rfl | hy
    · exact hx n hn.1 hn.2
    · exact hsound y hy
  · rw [hnext]; split <;> omega
  · rw [hnext]; split <;> omega
  · rw [hperm.pairwise_iff fun hne => ⟨hne.1.symm, fun hs => hne.2 ⟨hs.1.symm, hs.2.symm⟩⟩]
    exact List.pairwise_cons.2 ⟨fun y hy => ⟨hfresh y hy, fun hs => hnew y hy ⟨hs.1.symm, hs.2.symm⟩⟩, hpair⟩

end Sys2Proof.Machine
end

section
/-! SUPPORT and PROOFS. The tag tables stay sound through every step (spec/05 R88 to R90, R108); O30. -/

namespace Sys2Proof.Machine

/-! ### The tables of a state -/

/-- What leaves the running table and those of the store alone leaves the tables sound. -/
theorem tagsSound.congr {s t : State} (h : tagsSound s) (htag : t.tag.table = s.tag.table) (htables : t.sst.tables = s.sst.tables) :
    tagsSound t := by
  rw [tagsSound_iff] at h ⊢
  rwa [htag, htables]

theorem tagsSound.store {s : State} (h : tagsSound s) : s.sst.store.tags.sound := h.2.1

/-- A sound table taken and its write queued. -/
theorem tagsSound.queued {s u : State} (h : tagsSound s) (htables : u.sst.tables = s.sst.tables) (hu : u.tag.table.sound) :
    tagsSound (queueWrite (.tags u.tag.table) u) := by
  rw [tagsSound_iff] at h ⊢
  refine ⟨by simpa using hu, fun t ht => ?_⟩
  rcases queueWrite_mem_tables _ _ _ ht with rfl | ht
  · exact hu
  · exact h.2 t (htables ▸ ht)

theorem blank_tagsSound (stage : Stage) (store : Store) (connected : Bool) (cap pulses : Nat) (pending : List Instr)
    (h : store.tags.sound) : tagsSound (.blank stage store connected cap pulses pending) := by
  rw [tagsSound_iff]
  refine ⟨?_, fun t ht => ?_⟩
  · simp [TagBlock.idle, TagTable.sound, TagTable.tags, List.replicate]
  · obtain rfl : t = store.tags := by simpa [Sst.tables] using ht
    exact h

/-- The ranges of a tag placed with sound fields (R92). -/
theorem placed_sound (crew mode expiry n : Nat) (a : Authority) (at' : Option Nat) (hbad : ¬ badPlacement crew mode expiry = true)
    (hlo : 1 ≤ n) (hhi : n ≤ 65535) :
    ({ number := n, crew := crew, mode := tagModeOf mode, auth := a, placedAt := at', left := expiryOf expiry } : Tag).sound := by
  simp only [badPlacement, badCrew, Bool.or_eq_true, Bool.and_eq_true, beq_iff_eq, bne_iff_ne, decide_eq_true_eq] at hbad
  refine ⟨hlo, hhi, ?_, ?_, fun m hm => ?_, fun hm => ?_⟩
  · dsimp only; omega
  · dsimp only; omega
  · dsimp only [expiryOf] at hm
    split at hm <;> cases hm
    omega
  · dsimp only [tagModeOf, expiryOf] at hm ⊢
    split at hm
    · rw [if_pos (by tauto)]
    · cases hm

theorem refreshedTag_sound (a : Authority) (crew mode expiry : Nat) (x : Tag) (hbad : ¬ badPlacement crew mode expiry = true)
    (hx : x.sound) : (refreshedTag a expiry x).sound := by
  obtain ⟨h1, h2, h3, h4, hleft, hmode⟩ := hx
  obtain ⟨-, -, -, -, hask, -⟩ := placed_sound crew mode expiry 1 a none hbad (le_refl 1) (by decide)
  refine ⟨h1, h2, h3, h4, fun n hn => ?_, fun hm => ?_⟩
  · simp only [refreshedTag, refreshLeft] at hn
    split at hn
    · rename_i m e hm he
      cases hn
      exact max_le (hleft m hm) (hask e he)
    · cases hn
  · simp [refreshedTag, refreshLeft, hmode hm]

/-- A placement is refused, refreshes a tag, or stores a new one (R92, R93). -/
theorem placeTag_cases (a : Authority) (crew mode expiry : Nat) (s : State) :
    (placeTag a crew mode expiry s).1 = s ∨
    (¬ badPlacement crew mode expiry = true ∧ ∃ x ∈ s.tag.table.tags, (placeTag a crew mode expiry s).1 =
      acceptTag (s.tag.table.replace (refreshedTag a expiry x)) (refreshedTag a expiry x) s) ∨
    (¬ badPlacement crew mode expiry = true ∧ s.tag.table.tags.length < 8 ∧
      (∀ y ∈ s.tag.table.tags, ¬ (y.crew = crew ∧ y.mode = tagModeOf mode)) ∧ (placeTag a crew mode expiry s).1 =
      acceptTag (s.tag.table.store (newTag a crew mode expiry s)) (newTag a crew mode expiry s) s) := by
  simp only [placeTag]
  by_cases hbad : badPlacement crew mode expiry = true
  · exact Or.inl (by simp [hbad])
  by_cases hopen : mode = 1 ∧ s.act.position ≠ .isOpen
  · exact Or.inl (by rw [if_neg hbad, if_pos hopen])
  rw [if_neg hbad, if_neg hopen]
  cases hcrew : s.tag.table.ofCrew crew (tagModeOf mode) with
  | some x => exact Or.inr (Or.inl ⟨hbad, x, List.mem_of_find?_eq_some hcrew, rfl⟩)
  | none =>
    by_cases hfull : 8 ≤ s.tag.table.tags.length
    · exact Or.inl (by simp [hfull])
    · refine Or.inr (Or.inr ⟨hbad, Nat.lt_of_not_le hfull, fun y hy => ?_, by simp [hfull]⟩)
      simpa using List.find?_eq_none.1 hcrew y hy

section
variable (s : State) (h : tagsSound s)
include h

/-- A tag accepted into a sound table. -/
theorem acceptTag_tagsSound (t : TagTable) (x : Tag) (ht : t.sound) : tagsSound (acceptTag t x s) := by
  have hq := h.queued (u := complete (.tagPlaced x) (seqEvent .tagAccepted { s with tag := { s.tag with table := t } })) (by simp)
    (by simpa using ht)
  simpa [acceptTag] using hq

theorem placeTag_tagsSound (a : Authority) (crew mode expiry : Nat) : tagsSound (placeTag a crew mode expiry s).1 := by
  have hsound : s.tag.table.sound := h.1
  rcases placeTag_cases a crew mode expiry s with hrefused | ⟨hbad, x, hx, hrefreshed⟩ | ⟨hbad, hroom, hnew, hstored⟩
  · rwa [hrefused]
  · rw [hrefreshed]
    exact acceptTag_tagsSound s h _ _ (TagTable.replace_sound _ x _ hsound hx
      (refreshedTag_sound a crew mode expiry x hbad (s.tag.table.tag_sound hsound hx)) rfl rfl rfl)
  · rw [hstored]
    exact acceptTag_tagsSound s h _ _ (TagTable.store_sound _ _ hsound hroom
      (fun n hlo hhi => placed_sound crew mode expiry n _ _ hbad hlo hhi) hnew)

theorem removeTag_tagsSound (x : Tag) (c : RemovalCause) (a : Option Authority) : tagsSound (removeTag x c a s) := by
  have hq := h.queued (u := complete (.tagRemoved x c a) { s with tag := { s.tag with table := s.tag.table.remove x.number } }) (by simp)
    (by simpa using s.tag.table.remove_sound x.number h.1)
  simpa [removeTag] using hq

theorem tagRemove_tagsSound (a : Authority) (number crew : Nat) : tagsSound (tagRemove a number crew s).1 := by
  unfold tagRemove
  (repeat' split)
  · exact h
  · exact h
  · exact h
  · exact h
  · exact removeTag_tagsSound s h _ _ _

theorem tagClear_tagsSound (a : Authority) (number : Nat) : tagsSound (tagClear a number s).1 := by
  unfold tagClear
  (repeat' split)
  · exact h
  · exact h
  · exact h
  · exact removeTag_tagsSound s h _ _ _

/-! ### The minute (R101, R103) -/

theorem expireTags_tagsSound : tagsSound (expireTags s) :=
  List.foldlRecOn _ _ h fun t ht x _ => removeTag_tagsSound t ht x .expired none

theorem tagMinute_tagsSound : tagsSound (tagMinute s) := by
  have htaken : tagsSound { s with tag := { table := s.tag.table.minute, minutes := (s.tag.minutes + 1) % 60 } } := by
    rw [tagsSound_iff] at h ⊢
    exact ⟨s.tag.table.minute_sound h.1, h.2⟩
  have hexpired := expireTags_tagsSound _ htaken
  simp only [tagMinute]
  split
  · exact hexpired.queued rfl hexpired.1
  · exact hexpired

theorem completeMinute_tagsSound : tagsSound (completeMinute s) :=
  (tagMinute_tagsSound { advanceTime (60 - s.orl.sec) s with orl := { (advanceTime (60 - s.orl.sec) s).orl with sec := 0 } }
    (h.congr rfl rfl)).congr (by simp [completeMinute, minuteEvent]) (by simp [completeMinute, minuteEvent])

theorem runSecond_tagsSound : tagsSound (runSecond s) := by
  unfold runSecond
  split
  · exact completeMinute_tagsSound s h
  · exact h.congr rfl rfl

/-! ### Radio commands and host requests (spec/08 R162, spec/10 R183) -/

theorem takeCommand_tagsSound (c : RadioCmd) : tagsSound (takeCommand c s) := by
  have hseen : tagsSound { s with rcc := { s.rcc with lastId := some c.id, stored := none } } := h.congr rfl rfl
  have result (x : State) (hx : tagsSound x) (res : Res) : tagsSound (radioResult c.id res 0 x) := hx.congr (by simp) (by simp)
  unfold takeCommand
  (repeat' split)
  · exact h.congr (by simp) (by simp)
  · exact h.congr (by simp) (by simp)
  · exact h.congr (by simp) (by simp)
  · unfold executeCommand ownCommand
    split
    · exact hseen.congr (by simp) (by simp)
    · exact hseen.congr (by simp) (by simp)
    · exact result _ (placeTag_tagsSound _ hseen _ _ _ _) _
    · exact result _ (tagRemove_tagsSound _ hseen _ _ _) _
    all_goals exact hseen.congr (by simp) (by simp)

theorem takeBeacon_tagsSound (b : Beacon) : tagsSound (takeBeacon b s) := by
  simp only [takeBeacon, takeCommands]
  split
  · exact takeCommand_tagsSound _ (h.congr (by simp) (by simp)) _
  · exact h.congr (by simp) (by simp)

theorem serve_tagsSound (a : Authority) (r : Request) : tagsSound (serve a r s) := by
  have reply (x : State) (hx : tagsSound x) (res : Res) (body : Bytes) : tagsSound (hostReply res body x) := hx.congr (by simp) (by simp)
  have same (t : State) (htag : t.tag = s.tag) (htables : t.sst.tables = s.sst.tables) : tagsSound t := h.congr (htag ▸ rfl) htables
  cases r with
  | tagPlace crew mode expiry => exact reply _ (placeTag_tagsSound s h a crew mode expiry) _ _
  | tagRemove number crew => exact reply _ (tagRemove_tagsSound s h a number crew) _ _
  | tagClear number => exact reply _ (tagClear_tagsSound s h a number) _ _
  | _ => exact same _ (by simp [serve]) (by simp [serve])

theorem serveNext_tagsSound : tagsSound (serveNext s) := by
  unfold serveNext
  split
  · exact h
  · refine serve_tagsSound _ ?_ _ _
    exact h.congr rfl rfl

theorem pumpFor_tagsSound (n : Nat) : tagsSound (pumpFor n s) := by
  induction n generalizing s with
  | zero => exact h
  | succ n ih =>
    unfold pumpFor
    split
    · exact ih _ (serveNext_tagsSound s h)
    · exact h

theorem pump_tagsSound : tagsSound (pump s) := pumpFor_tagsSound s h 5

theorem receive_tagsSound (f : RxFrame) : tagsSound (receive f s) := by
  unfold receive
  split
  · exact h
  · exact pump_tagsSound _ (h.congr (by simp) (by simp))

theorem receiveBytes_tagsSound (n : Nat) (bs : Bytes) : tagsSound (receiveBytes n bs s) := by
  induction n generalizing bs s with
  | zero => exact h.congr rfl rfl
  | succ n ih =>
    unfold receiveBytes
    split
    · exact ih s h _
    · exact h.congr rfl rfl
    · exact ih _ (receive_tagsSound s h _) _

theorem feed_tagsSound (bytes : Bytes) : tagsSound (feed bytes s) := by
  unfold feed
  split
  · exact h
  · exact receiveBytes_tagsSound s h _ _

/-! ### Starts, contacts and the capacitor (spec/04, spec/09) -/

theorem coldStart_tagsSound (land : Bool) : tagsSound (coldStart land s) := by
  have hrun : tagsSound (if s.sst.lost then runOutPulse s else s) := by
    split
    · exact h.congr (by simp) (by simp)
    · exact h
  exact blank_tagsSound _ _ _ _ _ _ (((tagsSound_iff _).1 hrun).2 _ (landed_tags land _))

theorem startBlocks_tagsSound (k : StartKind) (inp : StartInputs) : tagsSound (startBlocks k inp s) := by
  have hstore := h.store
  have htables : (startBlocks k inp s).sst.tables = [s.sst.store.tags] := by simp [Sst.tables, startBlocks]
  rw [tagsSound_iff, htables]
  exact ⟨hstore, by simpa using hstore⟩

theorem startReading_tagsSound (k : StartKind) (p : Position) : tagsSound (startReading k p s) := by
  have hdecided : tagsSound (decideStart p { s with act := { s.act with position := p, startRead := true } }) :=
    h.congr (by simp [decideStart]) (by simp [decideStart])
  have hannounced : tagsSound (announceStart k (decideStart p { s with act := { s.act with position := p, startRead := true } })) := by
    refine List.foldlRecOn _ _ (hdecided.congr (by simp) (by simp [completeNow])) fun t ht x _ => ?_
    unfold release
    split
    · exact ht.congr (by simp) (by simp)
    · exact ht.congr (by simp) (by simp)
  refine pump_tagsSound _ (List.foldlRecOn _ _ (hannounced.congr rfl rfl) fun t ht e _ => ?_)
  exact ht.congr (by simp) (by simp)

theorem changePosition_tagsSound (p : Position) (fin : PulseEnd) : tagsSound (changePosition p fin s) := by
  unfold changePosition endByPosition
  split <;> exact h.congr (by simp) (by simp)

theorem contactRead_tagsSound (c : Contact) (x : ContactState) (ms : Nat) (fin : PulseEnd) : tagsSound (contactRead c x ms fin s) := by
  have hread : tagsSound { s with act := readContact c x ms s.act } := h.congr rfl rfl
  simp only [contactRead, takePosition]
  (repeat' split)
  · exact startReading_tagsSound _ hread _ _
  · exact hread
  · exact pump_tagsSound _ (changePosition_tagsSound _ hread _ _)
  · exact hread

theorem measureCap_tagsSound (volts : Nat) : tagsSound (measureCap volts s) := by
  have hspent : tagsSound (endSpent (clampVolts volts) (s.measured volts)) := by
    unfold endSpent
    split <;> exact h.congr (by simp [State.measured]) (by simp [State.measured])
  have hreview : tagsSound (rechargeReview s.act.rechargeDemand (releaseHeld (endSpent (clampVolts volts) (s.measured volts)))) := by
    unfold rechargeReview releaseHeld
    (repeat' split) <;> exact hspent.congr (by simp) (by simp)
  rw [measureCap_eq]
  dsimp only
  split
  · exact hreview.congr (by simp) (by simp)
  · exact hreview

end

/-! ### The commands -/

theorem happens_tagsSound {can : Bool} {after s t : State} (h : tagsSound s) (ht : happens can after s = .next t)
    (ha : tagsSound after) : tagsSound t := happens_keeps h ht fun _ => ha

theorem updateWhen_tagsSound {can : Bool} {block : List SampleSet} {s t : State} (h : tagsSound s)
    (ht : updateWhen can block s = .next t) : tagsSound t := by
  unfold updateWhen at ht
  split at ht
  · refine happens_tagsSound h ht ?_
    split
    · exact pump_tagsSound _ (h.congr (by simp) (by simp))
    · exact h
  · cases ht

theorem measureWhen_tagsSound {can : Bool} {m : BattMeas} {r : TestReading} {s t : State} (h : tagsSound s)
    (ht : measureWhen can m r s = .next t) : tagsSound t := by
  refine happens_tagsSound h ht ?_
  split
  · exact pump_tagsSound _ (h.congr (by simp) (by simp))
  · exact h

theorem exec_tagsSound (c : Instr) (s t : State) (h : tagsSound s) (ht : exec c s = .next t) : tagsSound t := by
  have same {can : Bool} {after : State} (hx : happens can after s = .next t) (htag : after.tag = s.tag)
      (htables : after.sst.tables = s.sst.tables) : tagsSound t :=
    happens_tagsSound h hx (h.congr (htag ▸ rfl) htables)
  have minute {can : Bool} (hx : happens can (completeMinute s) s = .next t) : tagsSound t :=
    happens_tagsSound h hx (completeMinute_tagsSound s h)
  have received {f : RxFrame} (hx : (Host.Outcome.next (receive f s) : Result) = .next t) : tagsSound t := by
    cases hx
    exact receive_tagsSound s h f
  have hstore := h.store
  have hall : ∀ u ∈ s.sst.tables, u.sound := ((tagsSound_iff s).1 h).2
  cases c with
  | coldStart => cases ht; exact coldStart_tagsSound s h _
  | startDelayEnd =>
    change execStartDelayEnd _ s = _ at ht
    unfold execStartDelayEnd at ht
    split at ht <;> cases ht
    · exact startBlocks_tagsSound s h _ _
    all_goals exact h
  | warmStart =>
    have hblank := blank_tagsSound (.startDelay .warm) s.sst.store s.bcu.connected s.act.cap s.act.pulses s.pending hstore
    exact happens_tagsSound h ht (hblank.congr rfl rfl)
  | supplyLoss => exact same ht rfl rfl
  | holdUpEnd => exact happens_tagsSound h ht (blank_tagsSound _ _ _ _ _ _ (hall _ (written_tags s.sst)))
  | magnitudeUpdate => exact updateWhen_tagsSound h ht
  | liveQualified => exact updateWhen_tagsSound h ht
  | deadQualified => exact updateWhen_tagsSound h ht
  | elementOperate => exact updateWhen_tagsSound h ht
  | deadTimerExpiry => exact same ht (by simp) (by simp)
  | holdTimerExpiry => exact same ht (by simp) (by simp)
  | reclaimTimerExpiry => exact same ht (by simp) (by simp)
  | contactDebounced => exact happens_tagsSound h ht (contactRead_tagsSound s h _ _ _ _)
  | startReadingTimeout =>
    change execStartReadingTimeout s = _ at ht
    unfold execStartReadingTimeout at ht
    split at ht <;> cases ht
    · exact startReading_tagsSound s h _ _
    all_goals exact h
  | capacitorMeasurement => exact happens_tagsSound h ht (measureCap_tagsSound s h _)
  | tripPulseTimeout => exact happens_tagsSound h ht (pump_tagsSound _ (h.congr (by simp) (by simp)))
  | closePulseTimeout => exact happens_tagsSound h ht (pump_tagsSound _ (h.congr (by simp) (by simp)))
  | minuteEvent => exact minute ht
  | tagExpiry => exact minute ht
  | tagHourlyWrite => exact minute ht
  | batteryMeasurement => exact measureWhen_tagsSound h ht
  | absorbTimeLimit => exact measureWhen_tagsSound h ht
  | floatLowRunLimit => exact measureWhen_tagsSound h ht
  | faultClearRunComplete => exact measureWhen_tagsSound h ht
  | resyncRunComplete => exact measureWhen_tagsSound h ht
  | chargeCountWrite => exact measureWhen_tagsSound h ht
  | tripWaitTimeout => exact same ht rfl rfl
  | partStop => exact happens_tagsSound h ht (blank_tagsSound _ _ _ _ _ _ hstore)
  | scheduledTestDue => exact minute ht
  | settlingComplete => exact same ht rfl rfl
  | loadTestComplete => exact same ht (by simp) (by simp)
  | testAbandonTimeout => exact same ht (by simp) (by simp)
  | radioPacketReceived bytes =>
    change execRadioPacketReceived bytes s = _ at ht
    unfold execRadioPacketReceived at ht
    split at ht
    · exact happens_tagsSound h ht (pump_tagsSound _ (takeBeacon_tagsSound s h _))
    · cases ht; exact h
  | beaconMissCheck => exact same ht rfl rfl
  | ownSlotStart => exact same ht (by simp) (by simp)
  | radioTransmitEnd => cases ht; exact h
  | statusIntervalDue => exact minute ht
  | commitComplete =>
    change execCommitComplete s = _ at ht
    unfold execCommitComplete at ht
    split at ht <;> cases ht
    · exact pump_tagsSound _ (h.congr (by simp) (by simp))
    all_goals exact h
  | retainedWriteComplete =>
    change execRetainedWriteComplete s = _ at ht
    unfold execRetainedWriteComplete at ht
    split at ht <;> cases ht
    · rename_i i hi
      exact (tagsSound_iff _).2 ⟨by simpa using h.1, fun u hu => hall u (completeWrite_mem_tables i s hi u hu)⟩
    · exact h
  | hostFrameReceived => cases ht; exact feed_tagsSound s h _
  | frameByteTimeout => cases ht; exact h
  | keySwitchDebounced => exact same ht rfl rfl
  | hostFrameTransmitted =>
    change execHostFrameTransmitted s = _ at ht
    unfold execHostFrameTransmitted at ht
    split at ht <;> cases ht <;> exact h
  | timeBaseSecond =>
    change execTimeBaseSecond s = _ at ht
    unfold execTimeBaseSecond at ht
    split at ht <;> cases ht
    · exact runSecond_tagsSound s h
    · exact runSecond_tagsSound s h
    all_goals exact h
  | _ => exact received ht

theorem tick_tagsSound (s : State) (h : tagsSound s) : tagsSound (tick s) := by
  unfold tick
  dsimp only
  split <;> exact h.congr rfl rfl

/-- Settles O30, by what every operation does to the tables: it leaves them alone, or makes a sound one of the running table and queues
that. -/
theorem tagTableStaysSound : Obligations.TagTableStaysSound := by
  intro s t h ht
  unfold step at ht
  split at ht
  · rename_i c rest _
    exact exec_tagsSound c (s.withPending rest) t (h.congr rfl rfl) ht
  · unfold idle at ht
    split at ht
    · exact exec_tagsSound _ s t h ht
    · cases ht
      exact tick_tagsSound s h

end Sys2Proof.Machine
end

section
/-! SUPPORT and PROOFS. A tag refreshed (spec/05 R95); O27. -/

namespace Sys2Proof.Machine

/-! ### The tag found and the slot changed (R89) -/

/-- A crew holds one tag of a mode. -/
theorem TagTable.ofCrew_of_mem (t : TagTable) (x : Tag) (h : t.sound) (hx : x ∈ t.tags) : t.ofCrew x.crew x.mode = some x := by
  obtain ⟨-, -, -, -, hpair⟩ := h
  have hnodup : (t.tags.map fun y => (y.crew, y.mode)).Nodup :=
    List.pairwise_map.2 (hpair.imp fun hne he => hne.2 ⟨congrArg Prod.fst he, congrArg Prod.snd he⟩)
  obtain ⟨y, hy⟩ := Option.isSome_iff_exists.1
    (List.find?_isSome (p := fun y : Tag => y.crew == x.crew && y.mode == x.mode).2 ⟨x, hx, by simp⟩)
  have hsame : y.crew = x.crew ∧ y.mode = x.mode := by simpa using List.find?_some hy
  exact hy.trans (congrArg some
    (List.inj_on_of_nodup_map hnodup (List.mem_of_find?_eq_some hy) hx (Prod.ext hsame.1 hsame.2)))

/-- A change of the tag of one number is a change of its slot. -/
theorem TagTable.map_slots (t : TagTable) (x : Tag) (i : Nat) (h : t.sound) (hi : t.slots.getD i none = some x)
    (g : Option Tag → Option Tag) (hempty : g none = none) (hother : ∀ z, z.number ≠ x.number → g (some z) = some z) :
    t.slots.map g = t.slots.set i (g (some x)) := by
  refine List.ext_getElem (by simp) fun j hj _ => ?_
  have hj : j < t.slots.length := by simpa using hj
  have hget : t.slots.getD j none = t.slots[j] := by simp [hj]
  rw [List.getElem_map, List.getElem_set]
  split
  · rename_i hij
    rw [← hget, ← hij, hi]
  · rename_i hij
    cases hz : t.slots[j] with
    | none => exact hempty
    | some z =>
      refine hother z fun hn => hij ?_
      rw [← t.slotOf_of_slot x i h hi, ← hn, t.slotOf_of_slot z j h (hget.trans hz)]

theorem TagTable.replace_slots (t : TagTable) (x y : Tag) (i : Nat) (h : t.sound) (hi : t.slots.getD i none = some x)
    (hn : y.number = x.number) : (t.replace y).slots = t.slots.set i (some y) := by
  have hmap := t.map_slots x i h hi (fun o => o.map fun z => if z.number == y.number then y else z) rfl
    fun z hz => by simp [hn, hz]
  simpa [TagTable.replace, hn] using hmap

theorem TagTable.mode_congr (t u : TagTable) (h : u.tags.map (·.mode) = t.tags.map (·.mode)) : u.mode = t.mode := by
  have hany (w : TagTable) : w.tags.any (·.mode == .noClose) = (w.tags.map (·.mode)).any (· == .noClose) := by
    rw [List.any_map]; rfl
  have hempty (w : TagTable) : w.tags.isEmpty = (w.tags.map (·.mode)).isEmpty := List.isEmpty_map.symm
  rw [TagTable.mode, TagTable.mode, hany, hany, hempty, hempty, h]

/-- A tag replaced by one of its mode leaves the effective mode (R91, R95). -/
theorem TagTable.replace_mode (t : TagTable) (x y : Tag) (h : t.sound) (hx : x ∈ t.tags) (hn : y.number = x.number)
    (hm : y.mode = x.mode) : (t.replace y).mode = t.mode := by
  refine t.mode_congr _ ?_
  rw [TagTable.replace, t.map_tags, List.map_map]
  refine List.map_congr_left fun z hz => ?_
  by_cases hzy : z.number = y.number
  · obtain rfl := t.eq_of_number h hz hx (hzy.trans hn)
    simp [hzy, hm]
  · simp [hzy]

/-! ### The refresh (R95) -/

/-- The tag after a refresh from the host link, in R95's words. -/
theorem refreshedTag_eq (k : Key) (expiry : BitVec 16) (x : Tag) :
    refreshedTag (keyAuthority k) expiry.toNat x = { x with
      auth := if k = .loc then .loc else if x.auth = .loc then .loc else .link
      left := if expiry = 0 then none else x.left.map (max · expiry.toNat) } := by
  have hauth : higher x.auth (keyAuthority k) = if k = .loc then .loc else if x.auth = .loc then .loc else .link := by
    cases k <;> cases x.auth <;> rfl
  have hleft : refreshLeft x.left (expiryOf expiry.toNat) = if expiry = 0 then none else x.left.map (max · expiry.toNat) := by
    by_cases he : expiry = 0
    · cases x.left <;> simp [expiryOf, refreshLeft, he]
    · have he' : expiry.toNat ≠ 0 := fun h0 => he (BitVec.eq_of_toNat_eq h0)
      rw [if_neg he, expiryOf, if_neg he']
      cases x.left <;> rfl
  rw [refreshedTag, hauth, hleft]

/-- A sound placement of a crew with a tag of that mode (R93). -/
theorem placeTag_refreshes (a : Authority) (mode : Byte) (crew expiry : BitVec 16) (s : State) (x : Tag)
    (hbad : ¬ badPlacement crew.toNat mode.toNat expiry.toNat = true) (hopen : mode = 1 → s.act.position = .isOpen)
    (hx : s.tag.table.ofCrew crew.toNat (tagModeOf mode.toNat) = some x) :
    placeTag a crew.toNat mode.toNat expiry.toNat s =
      (acceptTag (s.tag.table.replace (refreshedTag a expiry.toNat x)) (refreshedTag a expiry.toNat x) s, .refreshed,
        some (refreshedTag a expiry.toNat x)) := by
  have hopen' : ¬ (mode.toNat = 1 ∧ s.act.position ≠ .isOpen) := fun ⟨hm, hp⟩ => hp (hopen ((toNat_eq_one_iff mode).1 hm))
  simp [placeTag, hbad, hopen', hx]

/-- Settles O27: the one tag of the crew and mode, replaced in its slot by the tag as refreshed. -/
theorem tagIsRefreshed : Obligations.TagIsRefreshed := by
  intro tag mode crew expiry s x i h hd hsound hi hcrew hmode hkind hexpiry hopen
  obtain ⟨⟨hrun, -, -⟩, -⟩ := id h
  have hx : x ∈ s.tag.table.tags := s.tag.table.mem_tags_of_slot x i hi
  have hkind' : x.mode = tagModeOf mode.toNat := hkind.trans (tagModeOf_toNat mode).symm
  have hbad : ¬ badPlacement crew.toNat mode.toNat expiry.toNat = true := by
    obtain ⟨-, -, hlo, hhi, -⟩ := s.tag.table.tag_sound hsound hx
    rw [badPlacement_iff]
    rcases hexpiry with rfl | ⟨rfl, hmin, hmax⟩
    · simp; omega
    · simp; omega
  let w := s.taking (tagPlaceFrame tag mode crew expiry)
  let y := refreshedTag (keyAuthority s.hlc.key) expiry.toNat x
  have hy : y = _ := refreshedTag_eq s.hlc.key expiry x
  have htake := placeTag_refreshes (keyAuthority s.hlc.key) mode crew expiry w x hbad hopen
    (hcrew ▸ hkind' ▸ s.tag.table.ofCrew_of_mem x hsound hx)
  obtain ⟨htable, hwrite, hrecord, hlocked, -, hcurrent, hqueue⟩ := acceptTag_leaves (s.tag.table.replace y) y w hrun hd
  have hreply := hostReply_answered .refreshed (placedReply (some y)) (acceptTag (s.tag.table.replace y) y w)
    (tagPlaceFrame tag mode crew expiry) hcurrent
  refine ⟨_, exec_tagPlace_taken tag mode crew expiry s h _ _ _ htake hqueue, ?_⟩
  rw [← hy]
  refine ⟨?_, ?_, ?_, hrecord, ?_, hlocked, _, hreply⟩
  · exact (congrArg TagTable.slots htable).trans (s.tag.table.replace_slots x y i hsound hi rfl)
  · exact (congrArg TagTable.next htable).trans rfl
  · exact (congrArg TagTable.mode htable).trans (s.tag.table.replace_mode x y hsound hx rfl rfl)
  · exact Eq.subst (motive := fun t => writeQueued (.tags t) (acceptTag (s.tag.table.replace y) y w)) htable.symm hwrite

end Sys2Proof.Machine
end

section
/-! SUPPORT and PROOFS. A tag removed by its crew or cleared at LOCAL (spec/05 R98 to R100); O28. -/

namespace Sys2Proof.Machine

/-! ### A removal (R100) -/

theorem TagTable.remove_slots (t : TagTable) (x : Tag) (i : Nat) (h : t.sound) (hi : t.slots.getD i none = some x) :
    (t.remove x.number).slots = t.slots.set i none := by
  have hmap := t.map_slots x i h hi (fun o => o.bind fun y => if y.number == x.number then none else some y) rfl
    fun z hz => by simp [hz]
  simpa [TagTable.remove] using hmap

theorem TagTable.slot_of_mem (t : TagTable) (x : Tag) (hx : x ∈ t.tags) : ∃ i, t.slots.getD i none = some x := by
  obtain ⟨o, ho, hox⟩ := List.mem_filterMap.1 hx
  obtain ⟨i, hi⟩ := List.mem_iff_getElem?.1 ho
  exact ⟨i, by simpa [List.getD_eq_getElem?_getD, hi] using hox⟩

theorem removeTag_table (x : Tag) (c : RemovalCause) (a : Option Authority) (s : State) :
    (removeTag x c a s).tag = { s.tag with table := s.tag.table.remove x.number } := by simp [removeTag]

theorem removeTag_queued (x : Tag) (c : RemovalCause) (a : Option Authority) (s : State) :
    writeQueued (.tags (removeTag x c a s).tag.table) (removeTag x c a s) := by
  rw [removeTag_table]
  exact queueWrite_queued _ _

theorem removeTag_logs (x : Tag) (c : RemovalCause) (a : Option Authority) (s : State) (hs : s.stage = .running) :
    logs [.tagRemoved x c a] s (removeTag x c a s) := by
  have hlogs := logs_complete (.tagRemoved x c a) { s with tag := { s.tag with table := s.tag.table.remove x.number } } hs
  simpa [logs, removeTag] using hlogs

theorem removeTag_hlc_line (x : Tag) (c : RemovalCause) (a : Option Authority) (s : State) :
    (removeTag x c a s).hlc.current = s.hlc.current ∧ (removeTag x c a s).hlc.queue = s.hlc.queue := by
  simp [removeTag]

/-- What a removal by a host request leaves: an empty slot, the record, the table's write and the reply, with SEQ as it was (R98 to
R100). -/
def removedByHost (kind tag : Byte) (x : Tag) (c : RemovalCause) (s t : State) : Prop :=
  ∃ i, s.tag.table.slots.getD i none = some x ∧ t.tag.table.slots = s.tag.table.slots.set i none ∧
    t.tag.table.next = s.tag.table.next ∧ t.seq = s.seq ∧
    recorded (.tagRemoved x c (some (if s.hlc.key = .loc then .loc else .link))) s t ∧ writeQueued (.tags t.tag.table) t ∧
    t.answered kind tag .ok []

section
variable (f : RxFrame) (s : State) (h : s.serving) (r : State × Res)
  (hserve : serve (keyAuthority s.hlc.key) f.req (s.taking f) = hostReply r.2 [] r.1)
include h hserve

/-- A request that its owner refuses under the authority of the key switch is answered, and nothing else. -/
theorem receive_refused (res : Res) (hr : r = (s.taking f, res)) : receive f s = s.replied f.kind f.tag res [] := by
  obtain ⟨⟨-, -, hqueue⟩, -⟩ := id h
  rw [receive_serving f s h, hserve, hr, hostReply_taking f res [] s h]
  exact pumpFor_without_frames 4 _ hqueue

/-- A request whose owner removes a tag and answers OK. -/
theorem receive_removes (x : Tag) (c : RemovalCause) (hsound : s.tag.table.sound) (hx : x ∈ s.tag.table.tags)
    (hr : r = (removeTag x c (some (keyAuthority s.hlc.key)) (s.taking f), .ok)) :
    removedByHost f.kind f.tag x c s (receive f s) := by
  obtain ⟨⟨hrun, -, -⟩, -⟩ := id h
  let u := removeTag x c (some (keyAuthority s.hlc.key)) (s.taking f)
  obtain ⟨i, hi⟩ := s.tag.table.slot_of_mem x hx
  obtain ⟨hcurrent, hqueue⟩ := removeTag_hlc_line x c (some (keyAuthority s.hlc.key)) (s.taking f)
  have htag := removeTag_table x c (some (keyAuthority s.hlc.key)) (s.taking f)
  have hlogs := removeTag_logs x c (some (keyAuthority s.hlc.key)) (s.taking f) hrun
  have hreceive : receive f s = hostReply .ok [] u := by
    rw [receive_serving f s h, hserve, hr]
    exact pumpFor_without_frames 4 _ hqueue
  rw [hreceive]
  refine ⟨i, hi, ?_, ?_, ?_, ?_, removeTag_queued _ _ _ _, hostReply_answered _ _ u f hcurrent⟩
  · exact (congrArg (·.table.slots) htag).trans (s.tag.table.remove_slots x i hsound hi)
  · exact (congrArg (·.table.next) htag).trans rfl
  · simp [u, State.taking]
  · rw [← keyAuthority_eq]
    exact hlogs.recorded

end

/-! ### The requests (R98, R99) -/

theorem badCrew_iff (crew : BitVec 16) : badCrew crew.toNat = true ↔ crew = 0 ∨ 9999 < crew.toNat := by
  simp [badCrew, BitVec.toNat_eq]

theorem toNat_eq_zero_iff (n : BitVec 16) : n.toNat = 0 ↔ n = 0 := by simp [BitVec.toNat_eq]

/-- The frames of a TAG_REMOVE and a TAG_CLEAR (spec/10 R185). -/
def tagRemoveFrame (tag : Byte) (number crew : BitVec 16) : RxFrame := ⟨0x21#8, tag, .tagRemove number.toNat crew.toNat⟩

@[inherit_doc tagRemoveFrame]
def tagClearFrame (tag : Byte) (number : BitVec 16) : RxFrame := ⟨0x22#8, tag, .tagClear number.toNat⟩

/-- A TAG_REMOVE with sound fields for a tag that is present: the crew is checked before the authority (R98). -/
theorem tagRemove_present (a : Authority) (number crew : Nat) (s : State) (x : Tag) (hn : number ≠ 0) (hc : badCrew crew = false)
    (hx : s.tag.table.find number = some x) :
    tagRemove a number crew s = if x.crew ≠ crew then (s, .crewMismatch) else if x.auth.rank < a.rank then (s, .authority)
      else (removeTag x .removed (some a) s, .ok) := by
  simp [tagRemove, hn, hc, hx]

/-- From the host, a tag outranks the requester only where it was placed at LOCAL and the key switch is in REMOTE (R98). -/
theorem outranked_iff (x : Authority) (k : Key) : x.rank < (keyAuthority k).rank ↔ k ≠ .loc ∧ x = .loc := by
  cases k <;> cases x <;> simp [keyAuthority, Authority.rank]

section
variable (tag : Byte) (number crew : BitVec 16) (s : State) (h : s.serving)
include h

theorem exec_tagRemove_refused (res : Res)
    (href : tagRemove (keyAuthority s.hlc.key) number.toNat crew.toNat (s.taking (tagRemoveFrame tag number crew)) =
      (s.taking (tagRemoveFrame tag number crew), res)) :
    exec (.tagRemove tag number crew) s = .next (s.replied 0x21#8 tag res []) :=
  congrArg Host.Outcome.next (receive_refused (tagRemoveFrame tag number crew) s h _ rfl res href)

theorem exec_tagRemove_removes (hsound : s.tag.table.sound) (x : Tag) (hx : x ∈ s.tag.table.tags)
    (htake : tagRemove (keyAuthority s.hlc.key) number.toNat crew.toNat (s.taking (tagRemoveFrame tag number crew)) =
      (removeTag x .removed (some (keyAuthority s.hlc.key)) (s.taking (tagRemoveFrame tag number crew)), .ok)) :
    ∃ t, exec (.tagRemove tag number crew) s = .next t ∧ removedByHost 0x21#8 tag x .removed s t :=
  ⟨_, rfl, receive_removes (tagRemoveFrame tag number crew) s h _ rfl x .removed hsound hx htake⟩

theorem exec_tagClear_refused (res : Res)
    (href : tagClear (keyAuthority s.hlc.key) number.toNat (s.taking (tagClearFrame tag number)) =
      (s.taking (tagClearFrame tag number), res)) :
    exec (.tagClear tag number) s = .next (s.replied 0x22#8 tag res []) :=
  congrArg Host.Outcome.next (receive_refused (tagClearFrame tag number) s h _ rfl res href)

theorem exec_tagClear_removes (hsound : s.tag.table.sound) (x : Tag) (hx : x ∈ s.tag.table.tags)
    (htake : tagClear (keyAuthority s.hlc.key) number.toNat (s.taking (tagClearFrame tag number)) =
      (removeTag x .forced (some (keyAuthority s.hlc.key)) (s.taking (tagClearFrame tag number)), .ok)) :
    ∃ t, exec (.tagClear tag number) s = .next t ∧ removedByHost 0x22#8 tag x .forced s t :=
  ⟨_, rfl, receive_removes (tagClearFrame tag number) s h _ rfl x .forced hsound hx htake⟩

end

/-- Settles O28: the refusals in R98's and R99's order, and the removal. -/
theorem tagIsRemoved : Obligations.TagIsRemoved := by
  intro tag number crew s h hsound loc removed
  have removed_of {c : Instr} {kind : Byte} {x : Tag} {cause : RemovalCause}
      (hx : ∃ t, exec c s = .next t ∧ removedByHost kind tag x cause s t) : removed c kind x cause := by
    obtain ⟨t, hexec, i, hall⟩ := hx
    exact ⟨t, i, hexec, hall⟩
  have hnumber : number ≠ 0 → number.toNat ≠ 0 := mt (toNat_eq_zero_iff number).1
  have hcrewOk : crew ≠ 0 → crew.toNat ≤ 9999 → badCrew crew.toNat = false := fun h0 htop =>
    Bool.eq_false_iff.2 (mt (badCrew_iff crew).1 (not_or.2 ⟨h0, Nat.not_lt.2 htop⟩))
  have hlocal : loc → keyAuthority s.hlc.key = .loc := fun hloc => by rw [keyAuthority_eq, if_pos hloc]
  refine ⟨fun hbad => ?_, fun hn hc0 hc => ⟨fun hfree => ?_, fun x hx hxn => ?_⟩, fun hloc => ?_, fun hloc hn => ?_,
    fun hloc hn hfree => ?_, fun hloc hn x hx hxn => removed_of ?_⟩
  · refine exec_tagRemove_refused tag number crew s h .badField (if_pos ?_)
    rw [toNat_eq_zero_iff, badCrew_iff]
    exact hbad
  · have hfind : (s.taking (tagRemoveFrame tag number crew)).tag.table.find number.toNat = none :=
      s.tag.table.find_of_not_holds number.toNat hfree
    exact exec_tagRemove_refused tag number crew s h .notFound (by simp [tagRemove, hnumber hn, hcrewOk hc0 hc, hfind])
  · have hpresent := tagRemove_present (keyAuthority s.hlc.key) number.toNat crew.toNat (s.taking (tagRemoveFrame tag number crew)) x
      (hnumber hn) (hcrewOk hc0 hc) (hxn ▸ s.tag.table.find_of_mem x hsound hx)
    refine ⟨fun hcrew => ?_, fun hcrew hloc hauth => ?_, fun hcrew hrank => removed_of ?_⟩
    · exact exec_tagRemove_refused tag number crew s h .crewMismatch (hpresent.trans (if_pos hcrew))
    · rw [if_neg (not_not.2 hcrew), if_pos ((outranked_iff _ _).2 ⟨hloc, hauth⟩)] at hpresent
      exact exec_tagRemove_refused tag number crew s h .authority hpresent
    · have hrank' : ¬ (s.hlc.key ≠ .loc ∧ x.auth = .loc) := fun ⟨hk, ha⟩ => hrank.elim hk fun hne => hne ha
      rw [if_neg (not_not.2 hcrew), if_neg (mt (outranked_iff _ _).1 hrank')] at hpresent
      exact exec_tagRemove_removes tag number crew s h hsound x hx hpresent
  · have hauth : keyAuthority s.hlc.key ≠ .loc := by simpa [keyAuthority_eq] using hloc
    exact exec_tagClear_refused tag number s h .authority (if_pos hauth)
  · exact exec_tagClear_refused tag number s h .badField (by simp [tagClear, hlocal hloc, hn])
  · have hfind : (s.taking (tagClearFrame tag number)).tag.table.find number.toNat = none :=
      s.tag.table.find_of_not_holds number.toNat hfree
    exact exec_tagClear_refused tag number s h .notFound (by simp [tagClear, hlocal hloc, hnumber hn, hfind])
  · have hfind : (s.taking (tagClearFrame tag number)).tag.table.find number.toNat = some x :=
      hxn ▸ s.tag.table.find_of_mem x hsound hx
    exact exec_tagClear_removes tag number s h hsound x hx (by simp [tagClear, hlocal hloc, hnumber hn, hfind])

end Sys2Proof.Machine
end

section
/-! SUPPORT and PROOFS. The minute event at the tags (spec/05 R101, R103; spec/07 R145); O29. -/

namespace Sys2Proof.Machine

/-! ### The tags that expire (R101) -/

theorem insertTag_perm (x : Tag) (l : List Tag) : (insertTag x l).Perm (x :: l) := by
  induction l with
  | nil => exact List.Perm.refl _
  | cons y rest ih =>
    rw [insertTag]
    split
    · exact List.Perm.refl _
    · exact (ih.cons y).trans (List.Perm.swap x y rest)

theorem TagTable.sorted_perm (t : TagTable) : t.sorted.Perm t.tags := by
  unfold TagTable.sorted
  induction t.tags with
  | nil => exact List.Perm.refl _
  | cons x rest ih => exact (insertTag_perm x _).trans (ih.cons x)

theorem TagTable.tags_length_le (t : TagTable) (h : t.sound) : t.tags.length ≤ 8 :=
  h.1 ▸ List.length_filterMap_le id t.slots

/-- The tags that expire at the minute, in the order in which they go. -/
def TagTable.expiring (t : TagTable) : List Tag := t.sorted.filter fun x => x.left == some 0

theorem TagTable.mem_expiring (t : TagTable) (x : Tag) : x ∈ t.expiring ↔ x ∈ t.tags ∧ x.left = some 0 := by
  simp [TagTable.expiring, t.sorted_perm.mem_iff]

theorem TagTable.expiring_length_le (t : TagTable) (h : t.sound) : t.expiring.length ≤ 8 :=
  (List.length_filter_le _ _).trans (t.sorted_perm.length_eq ▸ t.tags_length_le h)

theorem expireTags_eq (s : State) : expireTags s = s.tag.table.expiring.foldl (fun t x => removeTag x .expired none t) s := rfl

/-- Removals in a row empty the slots of their numbers. -/
theorem foldl_removeTag_tag (l : List Tag) (s : State) :
    (l.foldl (fun t x => removeTag x .expired none t) s).tag = { s.tag with table := { s.tag.table with
      slots := s.tag.table.slots.map fun o => o.bind fun y => if y.number ∈ l.map (·.number) then none else some y } } := by
  induction l generalizing s with
  | nil =>
    have hid : (fun o : Option Tag => o.bind fun y => if y.number ∈ ([] : List Tag).map (·.number) then none else some y) = id :=
      funext fun o => by cases o <;> rfl
    rw [hid, List.map_id]
    rfl
  | cons x rest ih =>
    rw [List.foldl_cons, ih, removeTag_table]
    simp only [TagTable.remove, List.map_map]
    congr 3
    funext o
    cases o with
    | none => rfl
    | some y => by_cases hy : y.number = x.number <;> simp [hy]

/-- In a running part the removals in a row leave their records. -/
theorem foldl_removeTag_logs (l : List Tag) (s : State) (hs : s.stage = .running) :
    logs (l.map (.tagRemoved · .expired none)) s (l.foldl (fun t x => removeTag x .expired none t) s) := by
  induction l generalizing s with
  | nil => exact rfl
  | cons x rest ih => exact (removeTag_logs x .expired none s hs).trans (ih (removeTag x .expired none s) (by simpa using hs))

/-- Exactly the tags at 0 remaining minutes go. -/
theorem expireTags_tag (s : State) (h : s.tag.table.sound) :
    (expireTags s).tag = { s.tag with table := { s.tag.table with
      slots := s.tag.table.slots.map fun o => o.bind fun y => if y.left = some 0 then none else some y } } := by
  rw [expireTags_eq, foldl_removeTag_tag]
  refine congrArg (fun l => ({ s.tag with table := { s.tag.table with slots := l } } : TagBlock)) (List.map_congr_left fun o ho => ?_)
  cases o with
  | none => rfl
  | some y =>
    have hy : y ∈ s.tag.table.tags := List.mem_filterMap.2 ⟨some y, ho, rfl⟩
    have hiff : y.number ∈ s.tag.table.expiring.map (·.number) ↔ y.left = some 0 := by
      rw [List.mem_map]
      constructor
      · rintro ⟨x, hx, hn⟩
        obtain ⟨hmem, hleft⟩ := (s.tag.table.mem_expiring x).1 hx
        exact s.tag.table.eq_of_number h hmem hy hn ▸ hleft
      · exact fun hleft => ⟨y, (s.tag.table.mem_expiring y).2 ⟨hy, hleft⟩, rfl⟩
    exact if_congr hiff rfl rfl

/-! ### The minute at the tags (R101, R103) -/

/-- A tag at the minute event: gone with one minute left or none, else with one less. -/
def Tag.minuted (x : Tag) : Option Tag :=
  if x.left = some 1 ∨ x.left = some 0 then none else some { x with left := x.left.map (· - 1) }

/-- The state with a minute taken from every tag, before the expired ones go. -/
def State.minuteTaken (s : State) : State := { s with tag := { table := s.tag.table.minute, minutes := (s.tag.minutes + 1) % 60 } }

theorem left_pred_iff (x : Option Nat) : x.map (· - 1) = some 0 ↔ x = some 1 ∨ x = some 0 := by
  cases x with
  | none => simp
  | some n => simp; omega

theorem tagMinute_eq (s : State) :
    tagMinute s = if (s.tag.minutes + 1) % 60 = 0 ∧ (expireTags s.minuteTaken).tag.table.counting = true
      then queueWrite (.tags (expireTags s.minuteTaken).tag.table) (expireTags s.minuteTaken) else expireTags s.minuteTaken := rfl

theorem expireTags_minuteTaken (s : State) (h : s.tag.table.sound) :
    (expireTags s.minuteTaken).tag = ⟨{ s.tag.table with slots := s.tag.table.slots.map (·.bind Tag.minuted) },
      (s.tag.minutes + 1) % 60⟩ := by
  rw [expireTags_tag s.minuteTaken (s.tag.table.minute_sound h)]
  simp only [State.minuteTaken, TagTable.minute, List.map_map]
  congr 2
  refine List.map_congr_left fun o _ => ?_
  cases o with
  | none => rfl
  | some x => exact if_congr (left_pred_iff x.left) rfl rfl

theorem tagMinute_leaves (s : State) :
    (tagMinute s).tag = (expireTags s.minuteTaken).tag ∧ (tagMinute s).orl = (expireTags s.minuteTaken).orl := by
  rw [tagMinute_eq]
  split <;> simp

/-- The hourly write is queued where a tag counts on (R103, log 65). -/
theorem tagMinute_queued (s : State) (h : s.tag.table.sound) (hm : s.tag.minutes = 59) (x : Tag) (hx : x ∈ s.tag.table.tags) (n : Nat)
    (hn : x.left = some n) (h2 : 2 ≤ n) : writeQueued (.tags (tagMinute s).tag.table) (tagMinute s) := by
  have hcount : (expireTags s.minuteTaken).tag.table.counting = true := by
    rw [expireTags_minuteTaken s h]
    obtain ⟨o, ho, hox⟩ := List.mem_filterMap.1 hx
    obtain rfl : o = some x := hox
    refine List.any_eq_true.2 ⟨{ x with left := some (n - 1) }, List.mem_filterMap.2 ⟨_, List.mem_map.2 ⟨_, ho, rfl⟩, ?_⟩, rfl⟩
    have hne : ¬ (n = 1 ∨ n = 0) := by omega
    simp [Tag.minuted, hn, hne]
  rw [tagMinute_eq, if_pos ⟨by simp [hm], hcount⟩]
  exact queueWrite_queued (.tags (expireTags s.minuteTaken).tag.table) _

/-- In a running part a tag that expires leaves its record (R101, R107). -/
theorem tagMinute_recorded (s : State) (h : s.tag.table.sound) (hs : s.stage = .running) (x : Tag) (hx : x ∈ s.tag.table.tags)
    (hleft : x.left = some 1) :
    ∃ r ∈ (tagMinute s).orl.ring, ∃ y, r.body = .tagRemoved y .expired none ∧ y.number = x.number := by
  let y : Tag := { x with left := some 0 }
  have hy : y ∈ s.minuteTaken.tag.table.expiring := by
    refine (TagTable.mem_expiring _ y).2 ⟨?_, rfl⟩
    change y ∈ s.tag.table.minute.tags
    rw [TagTable.minute, TagTable.map_tags]
    exact List.mem_map.2 ⟨x, hx, by simp [y, hleft]⟩
  have hlogs := foldl_removeTag_logs s.minuteTaken.tag.table.expiring s.minuteTaken hs
  have hlen := s.minuteTaken.tag.table.expiring_length_le (s.tag.table.minute_sound h)
  obtain ⟨r, hr, hbody⟩ := hlogs.exists_mem (by rw [List.length_map]; omega) (List.mem_map.2 ⟨y, hy, rfl⟩)
  rw [(tagMinute_leaves s).2]
  exact ⟨r, hr, y, hbody, rfl⟩

/-! ### The minute event (R145) -/

theorem rccMinute_ring (s : State) : (rccMinute s).orl.ring = s.orl.ring := by
  unfold rccMinute statusRequest
  (repeat' split) <;> simp

/-- The state as the minute event finds it: the seconds that the minute lacks have passed. -/
def State.minuteEnded (s : State) : State :=
  { advanceTime (60 - s.orl.sec) s with orl := { (advanceTime (60 - s.orl.sec) s).orl with sec := 0 } }

/-- After the tags the BCU and the RCC take the minute (log 27). -/
theorem completeMinute_leaves (s : State) :
    (completeMinute s).tag = (tagMinute s.minuteEnded).tag ∧ (completeMinute s).sst = (tagMinute s.minuteEnded).sst ∧
    (completeMinute s).orl.ring = (tagMinute s.minuteEnded).orl.ring := by
  have heq : completeMinute s = rccMinute (bcuMinute (tagMinute s.minuteEnded)) := rfl
  simp [heq, rccMinute_ring]

/-- MINUTE_EVENT, and its two occasions at the tags where they are met, run the minute in progress to its end (log 2, log 3). -/
theorem exec_minute (c : Instr) (s : State) (hs : s.stage.started = true)
    (hc : c = .minuteEvent ∨ (c = .tagExpiry ∧ ∃ x ∈ s.tag.table.tags, x.left = some 1 ∨ x.left = some 0) ∨
      (c = .tagHourlyWrite ∧ s.tag.minutes = 59 ∧ ∃ x ∈ s.tag.table.tags, ∃ n ∈ x.left, 2 ≤ n)) :
    exec c s = .next (completeMinute s) := by
  rcases hc with rfl | ⟨rfl, x, hx, hleft⟩ | ⟨rfl, hm, x, hx, n, hn, h2⟩
  · change happens s.stage.started (completeMinute s) s = _
    rw [hs]; rfl
  · have hany : s.tag.table.tags.any (·.left.any (· ≤ 1)) = true :=
      List.any_eq_true.2 ⟨x, hx, by rcases hleft with hleft | hleft <;> simp [hleft]⟩
    change happens (s.stage.started && s.tag.table.tags.any (·.left.any (· ≤ 1))) (completeMinute s) s = _
    rw [hs, hany]; rfl
  · have hany : s.tag.table.tags.any (fun x => x.left.any (2 ≤ ·)) = true :=
      List.any_eq_true.2 ⟨x, hx, by simpa [Option.mem_def.1 hn] using h2⟩
    change happens (s.stage.started && s.tag.minutes == 59 && s.tag.table.tags.any (fun x => x.left.any (2 ≤ ·))) (completeMinute s) s = _
    rw [hs, hm, hany]; rfl

/-- Settles O29: the minute is taken from every tag, the expired ones go, and what follows at the BCU and the RCC leaves the tags, the
store's writes and the ring alone. -/
theorem minuteTakesMinutes : Obligations.MinuteTakesMinutes := by
  intro c s hs hsound hc
  obtain ⟨htag, hsst, hring⟩ := completeMinute_leaves s
  have htag' : (completeMinute s).tag = _ :=
    htag.trans ((tagMinute_leaves s.minuteEnded).1.trans (expireTags_minuteTaken s.minuteEnded hsound))
  refine ⟨completeMinute s, exec_minute c s hs hc, ?_, ?_, ?_, completeMinute_sec s, fun hrun x hx hleft => ?_, fun hhour => ?_⟩
  · exact congrArg (·.table.slots) htag'
  · exact congrArg (·.table.next) htag'
  · exact congrArg (·.minutes) htag'
  · rw [hring]
    exact tagMinute_recorded s.minuteEnded hsound hrun x hx hleft
  · obtain rfl | ⟨rfl, -⟩ | ⟨-, hm, x, hx, n, hn, h2⟩ := hc
    · cases hhour
    · cases hhour
    · rw [htag]
      exact writeQueued_congr _ _ _ hsst (tagMinute_queued s.minuteEnded hsound hm x hx n hn h2)

end Sys2Proof.Machine
end


section
/-! SUPPORT. What battery care's bounds read of a state (spec/06 R112 to R118, R128 to R131), and what SEQ's operations do to it: they
take SEQ to a state, suspend the load test, or move the shutdown. -/

namespace Sys2Proof.Machine

/-! ### The parts that the bounds read -/

/-- The global page in force, the retained one, and whether a commit is in progress. -/
structure Pages where
  inForce : Page
  retained : Page
  committing : Bool

def Sst.pages (x : Sst) : Pages := ⟨x.globalPage, x.store.globalPage, x.staging.isCommitting⟩

/-- SEQ's state, the capacitor, the BCU, the charge count that an accepted RESTART keeps, and the pages. -/
structure Care where
  seq : SeqState
  cap : Nat
  bcu : Bcu
  restarting : Option Nat
  pages : Pages

def State.care (s : State) : Care := ⟨s.seq.state, s.act.cap, s.bcu, s.restarting, s.sst.pages⟩

/-- A suspended test settles afresh when the three conditions hold (R130). -/
def Care.resume (c : Care) : Care :=
  { c with bcu := if c.bcu.test = .suspended ∧ (c.seq.calm && !decide (c.cap < 250) && c.bcu.meas.supply) = true then c.bcu.settle
                  else c.bcu }

def Care.suspend (c : Care) : Care := { c with bcu := c.bcu.suspend }

/-- SEQ takes a state and tells the BCU (R129, R130). -/
def Care.to (x : SeqState) (c : Care) : Care := if x.calm then { c with seq := x }.resume else { c with seq := x }.suspend

/-- What SEQ's operations do one by one. -/
inductive Care.Move : Care → Care → Prop
  | entered (x : SeqState) (c : Care) : Move c (c.to x)
  | suspend (c : Care) : Move c c.suspend
  | shutdown (x : Option Shutdown) (ms : Nat) (c : Care) : Move c { c with bcu := { c.bcu with shutdown := x, tripWaitMs := ms } }

/-- What they do in a row. -/
abbrev Care.Moves : Care → Care → Prop := Relation.ReflTransGen Care.Move

theorem Care.moves_of_eq {c d : Care} (h : d = c) : c.Moves d := h ▸ .refl

theorem Care.moves_to (x : SeqState) (c : Care) : c.Moves (c.to x) := .single (.entered x c)

/-- A fold of operations that make moves makes moves. -/
theorem foldl_moves {α : Type} (f : State → α → State) (hf : ∀ (t : State) x, t.care.Moves (f t x).care) (l : List α) (s : State) :
    s.care.Moves (l.foldl f s).care := by
  induction l generalizing s with
  | nil => exact .refl
  | cons x rest ih => exact (hf s x).trans (ih (f s x))

/-! ### Operations that leave the pages alone -/

@[simp] theorem queueWrite_pages (i : RetItem) (s : State) : (queueWrite i s).sst.pages = s.sst.pages := by simp [Sst.pages]

@[simp] theorem enterRecord_pages (r : Record) (s : State) : (enterRecord r s).sst.pages = s.sst.pages := by simp [enterRecord]

@[simp] theorem complete_pages (body : RecBody) (s : State) : (complete body s).sst.pages = s.sst.pages := by
  unfold complete
  split <;> simp [completeNow]

@[simp] theorem completeAll_pages (bodies : List RecBody) (s : State) : (completeAll bodies s).sst.pages = s.sst.pages := by
  unfold completeAll
  induction bodies generalizing s with
  | nil => rfl
  | cons b rest ih => simpa using ih (complete b s)

@[simp] theorem applyGroup_pages (g : Nat) (s : State) : (applyGroup g s).sst.pages = s.sst.pages := by
  simp [applyGroup]
  rfl

@[simp] theorem applyPending_pages (s : State) : (applyPending s).sst.pages = s.sst.pages := by
  unfold applyPending takeHeld
  (repeat' split) <;> simp
  rfl

@[simp] theorem setMech_pages (f : Bool) (s : State) : (setMech f s).sst.pages = s.sst.pages := by
  unfold setMech
  split <;> simp

@[simp] theorem countOperation_pages (s : State) : (countOperation s).sst.pages = s.sst.pages := by
  unfold countOperation
  split <;> simp

@[simp] theorem takeInterruption_pages (p : PulsePart) (s : State) : (takeInterruption p s).sst.pages = s.sst.pages := by
  simp only [takeInterruption]
  (repeat' split) <;> simp

@[simp] theorem handPart_pages (p : TripPart) (s : State) : (handPart p s).sst.pages = s.sst.pages := by
  unfold handPart completeTrip
  split <;> simp

@[simp] theorem handSeqPart_pages (s : State) : (handSeqPart s).sst.pages = s.sst.pages := by
  unfold handSeqPart
  split <;> simp

@[simp] theorem handCloseRecord_pages (b : RecBody) (o : PulseOutcome) (s : State) :
    (handCloseRecord b o s).sst.pages = s.sst.pages := by
  simp only [handCloseRecord]
  split <;> simp

/-! ### Operations that leave battery care alone -/

theorem State.care_eq {s t : State} (hseq : t.seq.state = s.seq.state) (hcap : t.act.cap = s.act.cap) (hbcu : t.bcu = s.bcu)
    (hrestarting : t.restarting = s.restarting) (hpages : t.sst.pages = s.sst.pages) : t.care = s.care := by
  simp [State.care, hseq, hcap, hbcu, hrestarting, hpages]

@[simp] theorem queueWrite_care (i : RetItem) (s : State) : (queueWrite i s).care = s.care := by simp [State.care]

@[simp] theorem placeNotice_care (f : Frame) (s : State) : (placeNotice f s).care = s.care := rfl

@[simp] theorem hostReply_care (res : Res) (body : Bytes) (s : State) : (hostReply res body s).care = s.care := rfl

@[simp] theorem radioResult_care (id : Nat) (res : Res) (detail : Nat) (s : State) : (radioResult id res detail s).care = s.care := rfl

@[simp] theorem answer_care (src : Src) (res : Res) (detail : Nat) (body : Bytes) (s : State) :
    (answer src res detail body s).care = s.care := by cases src <;> rfl

@[simp] theorem enterRecord_care (r : Record) (s : State) : (enterRecord r s).care = s.care := by simp [State.care]

@[simp] theorem complete_care (body : RecBody) (s : State) : (complete body s).care = s.care := by simp [State.care]

@[simp] theorem completeAll_care (bodies : List RecBody) (s : State) : (completeAll bodies s).care = s.care := by simp [State.care]

@[simp] theorem applyPending_care (s : State) : (applyPending s).care = s.care := by simp [State.care]

@[simp] theorem answerHeldClose_care (res : Res) (s : State) : (answerHeldClose res s).care = s.care := by
  unfold answerHeldClose
  split
  · simp
    rfl
  · rfl

@[simp] theorem setMech_care (f : Bool) (s : State) : (setMech f s).care = s.care := by
  unfold setMech
  split <;> simp [State.care]

@[simp] theorem takeInterruption_care (p : PulsePart) (s : State) : (takeInterruption p s).care = s.care := by simp [State.care]

@[simp] theorem handPart_care (p : TripPart) (s : State) : (handPart p s).care = s.care := by simp [State.care]

@[simp] theorem handSeqPart_care (s : State) : (handSeqPart s).care = s.care := by simp [State.care]

@[simp] theorem handCloseRecord_care (b : RecBody) (o : PulseOutcome) (s : State) : (handCloseRecord b o s).care = s.care := by
  simp [State.care]

@[simp] theorem countTrip_care (o : PulseOutcome) (s : State) : (countTrip o s).care = s.care := by
  unfold countTrip
  (repeat' split) <;> rfl

@[simp] theorem joinTrip_care (r : TripReq) (s : State) : (joinTrip r s).care = s.care := rfl

@[simp] theorem startTrip_care (s : State) : (startTrip s).care = s.care := by
  unfold startTrip
  split <;> rfl

/-! ### SEQ's entries (spec/03 R43 to R65) -/

@[simp] theorem seqTo_care (x : SeqState) (s : State) : (seqTo x s).care = s.care.to x := by
  unfold seqTo Care.to
  split <;> rfl

@[simp] theorem enterLockout_care (c : Cause) (s : State) : (enterLockout c s).care = s.care.to .lockout := by
  simp [enterLockout]
  rfl

@[simp] theorem enterMechFail_care (s : State) : (enterMechFail s).care = s.care.to .mechFail := by
  simp only [enterMechFail]
  split <;> simp <;> rfl

@[simp] theorem enterReclaim_care (s : State) : (enterReclaim s).care = s.care.to .reclaim := seqTo_care .reclaim (stopTimers s)

@[simp] theorem enterReclaimByHand_care (s : State) : (enterReclaimByHand s).care = s.care.to .reclaim := enterReclaim_care _

@[simp] theorem enterDeadTime_care (s : State) : (enterDeadTime s).care = s.care.to .deadTime := seqTo_care .deadTime (stopTimers s)

@[simp] theorem enterHold_care (r : HoldReason) (ms : Nat) (s : State) : (enterHold r ms s).care = s.care.to .recloseHold :=
  seqTo_care .recloseHold _

@[simp] theorem enterClosed_care (s : State) : (enterClosed s).care = s.care.to .closed := by
  simp only [enterClosed]
  split <;> simp <;> rfl

@[simp] theorem commandedClose_care (a : Authority) (src : Src) (s : State) : (commandedClose a src s).care = s.care.to .closing := by
  simp [commandedClose]
  rfl

/-! ### Completions (spec/03 R48 to R50, R56, R58) -/

theorem seqCloseCompletion_moves (o : PulseOutcome) (s : State) : s.care.Moves (seqCloseCompletion o s).care := by
  have entered (x : SeqState) (t : State) (h : t.care = s.care.to x) : s.care.Moves t.care := h ▸ Care.moves_to x s.care
  unfold seqCloseCompletion
  cases s.seq.state with
  | reclosing =>
    cases o with
    | done => exact entered .reclaim _ (enterReclaim_care _)
    | noMove => exact entered .lockout _ (by simp)
    | cut => exact .refl
  | closing =>
    cases o with
    | done => exact entered .reclaim _ (by simp)
    | noMove => exact entered .lockout _ (by simp)
    | cut => exact .refl
  | tripping => cases o <;> exact Care.moves_of_eq (by simp)
  | _ => exact .refl

theorem exhaustionTripEnded_moves (s : State) : s.care.Moves (exhaustionTripEnded s).care := .single (.shutdown _ s.bcu.tripWaitMs _)

theorem carryOut_moves (d : AfterTrip) (s : State) : s.care.Moves (carryOut d s).care := by
  cases d with
  | lockout c => exact enterLockout_care c s ▸ Care.moves_to _ _
  | dead => exact enterDeadTime_care s ▸ Care.moves_to _ _
  | mechFail =>
    have h : (carryOut .mechFail s).care = s.care.to .mechFail := by simp [carryOut]
    exact h ▸ Care.moves_to _ _
  | failedAgain => exact Care.moves_of_eq (complete_care _ s)
  | stay => exact .refl

theorem tripCompletion_moves (o : PulseOutcome) (pp : PulsePart) (partFirst : Bool) (s : State) :
    s.care.Moves (tripCompletion o pp partFirst s).care := by
  have carried (d : AfterTrip) (x : State) (hx : x.care = s.care) :
      s.care.Moves (carryOut d { x with seq := { x.seq with trip := none } }).care :=
    (Care.moves_of_eq hx).trans (carryOut_moves d { x with seq := { x.seq with trip := none } })
  simp only [tripCompletion]
  split
  · refine (carried _ _ ?_).trans (exhaustionTripEnded_moves _)
    cases partFirst <;> simp
  · refine carried _ _ ?_
    cases partFirst <;> simp

theorem pulseEnded_care (o : PulseOutcome) (s : State) :
    (if o = .noMove then setMech true s.pulseEnded else s.pulseEnded).care = s.care := by
  split
  · exact setMech_care _ _
  · rfl

theorem endTrip_moves (o : PulseOutcome) (pulse : Nat) (fin : PulseEnd) (s : State) : s.care.Moves (endTrip o pulse fin s).care :=
  (Care.moves_of_eq (pulseEnded_care o s)).trans (tripCompletion_moves o _ fin.partFirst _)

theorem endHeldTrip_moves (fin : PulseEnd) (s : State) : s.care.Moves (endHeldTrip fin s).care :=
  tripCompletion_moves .done _ fin.partFirst { s with act := s.act.toIdle }

theorem endClose_moves (o : PulseOutcome) (pulse : Nat) (fin : PulseEnd) (s : State) : s.care.Moves (endClose o pulse fin s).care := by
  let b := closeRecord s.act o pulse (clampVolts fin.capAfter)
  let x := if o = .noMove then setMech true s.pulseEnded else s.pulseEnded
  have hx : x.care = s.care := pulseEnded_care o s
  have hend : endClose o pulse fin s = if fin.partFirst then seqCloseCompletion o (handCloseRecord b o x)
      else handCloseRecord b o (seqCloseCompletion o x) := rfl
  have hmoves := seqCloseCompletion_moves o
  rw [hend, ← hx]
  split
  · simpa using hmoves (handCloseRecord b o x)
  · simpa using hmoves x

/-! ### Trips, opens and closes (spec/03 R44 to R47, R57) -/

@[simp] theorem cutClose_care (s : State) : (cutClose s).care = s.care := by
  rw [cutClose, seqCloseCompletion_cut]
  split <;> simp <;> rfl

@[simp] theorem actTrip_care (s : State) : (actTrip s).care = s.care := by
  unfold actTrip
  split <;> simp

theorem tripNow_care (r : TripReq) (s : State) : (tripNow r s).care = s.care.to .tripping := by
  simp [tripNow]
  rfl

theorem tripAttempt_moves (r : TripReq) (s : State) : s.care.Moves (tripAttempt r s).care := by
  unfold tripAttempt
  split
  · rw [actTrip_care]
    exact .single (.suspend s.care)
  · exact .refl

theorem seqTrip_moves (r : TripReq) (s : State) : s.care.Moves (seqTrip r s).care := by
  unfold seqTrip
  cases s.seq.state with
  | tripping => exact .refl
  | lockout => exact tripAttempt_moves r s
  | mechFail => exact tripAttempt_moves r s
  | _ => exact tripNow_care r s ▸ Care.moves_to _ _

theorem seqOpen_moves (a : Authority) (src : Src) (s : State) : s.care.Moves (seqOpen a src s).care := by
  have htrip := seqTrip_moves (.command a) s
  have hlock := enterLockout_care .commandOpen s ▸ Care.moves_to .lockout s.care
  unfold seqOpen
  cases s.seq.state with
  | lockout =>
    dsimp only
    split
    · exact Care.moves_of_eq (answer_care _ _ _ _ s)
    · simpa using htrip
  | deadTime => simpa using hlock
  | recloseHold => simpa using hlock
  | _ => simpa using htrip

theorem seqClose_moves (a : Authority) (src : Src) (s : State) : s.care.Moves (seqClose a src s).care := by
  rcases seqClose_cases a src s with ⟨res, hrefused⟩ | ⟨-, hclose⟩
  · exact Care.moves_of_eq (by simp [hrefused])
  · exact hclose ▸ commandedClose_care a src s ▸ Care.moves_to _ _

/-! ### The reclose decision, coordination, tags, position (spec/03 R52 to R62) -/

theorem autoRefused_moves (r : Res) (s : State) : s.care.Moves (autoRefused r s).care := by
  have locked (c : Cause) : s.care.Moves (enterLockout c s).care := enterLockout_care c s ▸ Care.moves_to _ _
  cases r with
  | lowEnergy =>
    unfold autoRefused
    dsimp only
    split
    · exact .refl
    · exact enterHold_care _ _ s ▸ Care.moves_to _ _
  | tagNoClose => exact locked .tag
  | tagNoReclose => exact locked .tag
  | conserve => exact locked .conserve
  | mechFail => exact locked .mechCleared
  | positionUnknown => exact locked .externalOpen
  | notLockedOut => exact enterReclaimByHand_care s ▸ Care.moves_to _ _
  | _ => exact .refl

theorem autoClose_moves (s : State) : s.care.Moves (autoClose s).care := by
  unfold autoClose
  split
  · exact seqTo_care .reclosing (stopTimers (beginClose .auto s)) ▸ Care.moves_to .reclosing s.care
  · exact autoRefused_moves _ s

theorem deadEnd_moves (d : DeadEnd) (s : State) : s.care.Moves (deadEnd d s).care := by
  cases d with
  | lockout c => exact enterLockout_care c s ▸ Care.moves_to _ _
  | holdSource => exact enterHold_care _ _ s ▸ Care.moves_to _ _
  | close => exact autoClose_moves s

theorem deadTimeEnd_moves (s : State) : s.care.Moves (deadTimeEnd s).care :=
  deadEnd_moves _ { s with seq := { s.seq with deadLeft := some 0 } }

theorem seqSourceLive_moves (s : State) : s.care.Moves (seqSourceLive s).care := by
  unfold seqSourceLive
  split
  · exact deadEnd_moves _ s
  · exact .refl

theorem seqEnergyReady_moves (s : State) : s.care.Moves (seqEnergyReady s).care := by
  unfold seqEnergyReady
  split
  · exact deadEnd_moves _ s
  · exact .refl

theorem holdEnd_moves (s : State) : s.care.Moves (holdEnd s).care := by
  unfold holdEnd
  split
  · exact enterLockout_care _ s ▸ Care.moves_to _ _
  · exact enterLockout_care _ s ▸ Care.moves_to _ _
  · exact .refl

theorem seqDeparture_moves (s : State) : s.care.Moves (seqDeparture s).care := by
  unfold seqDeparture
  split
  · rw [complete_care]
    exact enterReclaim_care { s with seq := { s.seq with shots := s.seq.shots + 1 } } ▸ Care.moves_to .reclaim s.care
  · exact .refl

theorem seqTagAccepted_moves (s : State) : s.care.Moves (seqTagAccepted s).care := by
  unfold seqTagAccepted
  split
  · exact enterLockout_care _ s ▸ Care.moves_to _ _
  · exact .refl

theorem seqPosition_moves (p : Position) (s : State) : s.care.Moves (seqPosition p s).care := by
  have locked : s.care.Moves (enterLockout .externalOpen s).care := enterLockout_care _ s ▸ Care.moves_to _ _
  have byHand (x : State) (hx : x.care = s.care) : s.care.Moves (enterReclaimByHand x).care :=
    enterReclaimByHand_care x ▸ hx ▸ Care.moves_to _ _
  have opened : s.care.Moves (if s.seq.trip = none then enterLockout .externalOpen s else s).care := by
    split
    · exact locked
    · exact .refl
  unfold seqPosition
  split
  · exact opened
  · exact opened
  · exact byHand s rfl
  · exact byHand s rfl
  · exact locked
  · exact locked
  · split
    · simpa using byHand { s with seq := { s.seq with cause := none } } rfl
    · exact .refl
  · exact .refl

theorem seqSelect_care (g : Nat) (src : Src) (s : State) : (seqSelect g src s).care = s.care := by
  have happly : (applyGroup g s).care = s.care := by simp [State.care]
  unfold seqSelect
  (repeat' split) <;> simp [happly] <;> rfl

theorem takeEvent_moves (e : SeqEvent) (s : State) : s.care.Moves (takeEvent e s).care := by
  cases e with
  | trip r => exact seqTrip_moves r s
  | departure => exact seqDeparture_moves s
  | tagAccepted => exact seqTagAccepted_moves s
  | energyReady => exact seqEnergyReady_moves s
  | position p => exact seqPosition_moves p s
  | openCmd a src => exact seqOpen_moves a src s
  | closeCmd a src => exact seqClose_moves a src s
  | select g src => exact Care.moves_of_eq (seqSelect_care g src s)

theorem seqEvent_moves (e : SeqEvent) (s : State) : s.care.Moves (seqEvent e s).care := by
  unfold seqEvent
  split
  · exact takeEvent_moves e s
  · exact .refl

theorem mechFailCleared_moves (s : State) : s.care.Moves (mechFailCleared s).1.care := by
  have hclear (f : Bool) : (setMech f s).care = s.care := setMech_care f s
  unfold mechFailCleared
  split
  · exact .refl
  · split
    · split
      · have hclosed := enterClosed_care (clearElements (setMech false s))
        exact hclosed ▸ hclear false ▸ Care.moves_to .closed _
      · have hlock := enterLockout_care .mechCleared (setMech false s)
        exact hlock ▸ hclear false ▸ Care.moves_to .lockout _
    · exact Care.moves_of_eq (hclear false)

end Sys2Proof.Machine
end

section
/-! SUPPORT. What every command does to the parts of a state that battery care's bounds read: a row of steps, each of which one operation
of the battery, the capacitor, the store or a start makes. -/

namespace Sys2Proof.Machine

/-! ### The steps -/

/-- What a load-test start asks (R125). -/
def Care.mayStart (c : Care) : Prop :=
  c.bcu.test = .idle ∧ c.bcu.meas.supply = true ∧ 80 ≤ c.bcu.soc ∧ c.bcu.level = .normal ∧ (c.seq = .closed ∨ c.seq = .lockout) ∧
  250 ≤ c.cap

/-- The BCU after a measurement's count, setpoints and charger (R110). -/
def Bcu.afterMeasurement (capacity : Nat) (m : BattMeas) (b : Bcu) : Bcu :=
  let x := (b.chargeStep capacity m).formSetpoints
  (if x.meas.supply then x else x.suspend).chargerStep capacity

/-- A test that has ended, with the history and the countdown as given (R132). -/
def Care.endTest (history : List TestResult) (countdown : Option Nat) (c : Care) : Care :=
  { c with bcu := { c.bcu.testIdle with history := history, countdown := countdown } }

/-- A new level, with the count 0 at EXHAUSTED (R120). -/
def Care.take (l : Level) (c : Care) : Care :=
  { c with bcu := { c.bcu with level := l, charge := if l = .exhausted then 0 else c.bcu.charge } }

/-- Recharge demand set suspends a load test; cleared it may resume one (R129, R130). -/
def Care.review (before : Bool) (c : Care) : Care :=
  if before = false ∧ decide (c.cap < 250) = true then c.suspend
  else if before = true ∧ decide (c.cap < 250) = false then c.resume
  else c

/-- The two agree on the count, the level, the charger and the test's state; the load time may have moved within its 30 s. -/
structure Bcu.counts (b d : Bcu) : Prop where
  charge : d.charge = b.charge
  soc : d.soc = b.soc
  level : d.level = b.level
  charger : d.charger = b.charger
  test : d.test = b.test
  loadMs : d.loadMs = b.loadMs ∨ d.loadMs ≤ 30000

inductive Care.Step : Care → Care → Prop
  /-- SEQ's moves. -/
  | moves {c d : Care} (h : c.Moves d) : Step c d
  | resume (c : Care) : Step c c.resume
  /-- Counts, countdowns and times. -/
  | counted {c : Care} {b : Bcu} (h : c.bcu.counts b) : Step c { c with bcu := b }
  | started {c : Care} (o : TestOrigin) (h : c.mayStart) : Step c { c with bcu := c.bcu.startTest o }
  | loaded {c : Care} (x : TestReading) (h : c.bcu.test = .settling) :
      Step c { c with bcu := { c.bcu with test := .loaded, settleMs := 0, baseline := some x } }
  | ended (history : List TestResult) (countdown : Option Nat) (c : Care) : Step c (c.endTest history countdown)
  | measured (m : BattMeas) (c : Care) : Step c { c with bcu := c.bcu.afterMeasurement c.pages.inForce.capacity m }
  /-- A level change without a test. -/
  | levelled {c : Care} (l : Level) (h : c.bcu.level ≠ .normal ∨ c.bcu.test = .idle) : Step c (c.take l)
  /-- A level change that ends a test. -/
  | levelEnded (l : Level) (history : List TestResult) (countdown : Option Nat) (c : Care) :
      Step c ((c.take l).endTest history countdown)
  /-- A capacitor measurement, with SEQ's moves when it ends a trip pulse, and its review. -/
  | capacitor {c d : Care} (v : Nat) (h : Moves { c with cap := v } d) : Step c (d.review (decide (c.cap < 250)))
  /-- A RESTART accepted, beside no commit. -/
  | restart {c : Care} (h : c.pages.committing = false) : Step c { c with restarting := some c.bcu.charge }
  /-- A commit begun by a request, which an accepted RESTART shuts out. -/
  | commit {c : Care} (h : c.restarting = none) : Step c { c with pages := { c.pages with committing := true } }
  /-- A commit of another target than the global page is over. -/
  | released {c : Care} : Step c { c with pages := { c.pages with committing := false } }
  /-- A commit of the global page is over. -/
  | committed {c : Care} {b : Bcu} (p : Page) (h : c.pages.committing = true)
      (hb : c.bcu.counts { b with charge := c.bcu.charge })
      (hcharge : b.charge = if c.pages.inForce.capacity = p.capacity then c.bcu.charge else c.bcu.soc * fullCount p.capacity / 100) :
      Step c { c with bcu := b, pages := ⟨p, p, false⟩ }
  /-- A start, a stop, or the start of the blocks: no test, the count kept or within the capacity. -/
  | fresh {c : Care} {b : Bcu} (x : SeqState) (cap : Nat) (p : Page) (htest : b.test = .idle) (hload : b.loadMs = 0)
      (hsoc : b.soc = c.bcu.soc ∨ b.soc = socOf (fullCount p.capacity) b.charge)
      (hcharge : b.charge ≤ fullCount p.capacity ∨ p = c.pages.retained ∧ (b.charge = c.bcu.charge ∨ c.restarting = some b.charge)) :
      Step c ⟨x, cap, b, none, ⟨p, p, false⟩⟩

abbrev Care.Steps : Care → Care → Prop := Relation.ReflTransGen Care.Step

theorem Care.Moves.steps {c d : Care} (h : c.Moves d) : c.Steps d := .single (.moves h)

theorem Care.steps_of_eq {c d : Care} (h : d = c) : c.Steps d := h ▸ .refl

/-! ### The battery's measurement (R110 to R122) -/

theorem endTest_care (o : TestOutcome) (r mv : Option Nat) (s : State) :
    ∃ history countdown, (endTest o r mv s).care = s.care.endTest history countdown :=
  ⟨_, _, by simp [endTest, State.care, Care.endTest]; exact ⟨rfl, rfl⟩⟩

theorem endTestByLevel_care (r : TestReading) (s : State) :
    (s.bcu.test = .idle ∧ endTestByLevel r s = s) ∨
    ∃ history countdown, (endTestByLevel r s).care = s.care.endTest history countdown := by
  unfold endTestByLevel
  split
  · exact Or.inr (endTest_care _ _ _ s)
  · exact Or.inr (endTest_care _ _ _ s)
  · exact Or.inr (endTest_care _ _ _ s)
  · rename_i h
    exact Or.inl ⟨h, rfl⟩

theorem beginShutdown_moves (s : State) : s.care.Moves (beginShutdown s).care := by
  have noted (x : Option Shutdown) (ms : Nat) : s.care.Moves (s.inShutdown x ms).care := .single (.shutdown x ms s.care)
  by_cases h : tripsOnExhaustion s
  · exact beginShutdown_trips s h ▸ (noted _ _).trans (seqEvent_moves _ _)
  · exact beginShutdown_writes s h ▸ noted _ _

theorem levelTaken_care (l : Level) (s : State) : (levelTaken l s).care = s.care.take l := by
  have hrest : (levelTaken l s).restarting = s.restarting ∧ (levelTaken l s).sst.pages = s.sst.pages := by
    simp only [levelTaken]
    split <;> simp
  simp [State.care, Care.take, hrest]

theorem changeLevel_steps (l : Level) (r : TestReading) (s : State) : s.care.Steps (changeLevel l r s).care := by
  let x := if s.bcu.level = .normal then endTestByLevel r (levelTaken l s) else levelTaken l s
  have hx : s.care.Steps x.care := by
    have htaken := levelTaken_care l s
    simp only [x]
    split
    · rcases endTestByLevel_care r (levelTaken l s) with ⟨hidle, hsame⟩ | ⟨history, countdown, hended⟩
      · have htest : s.bcu.test = .idle := by simpa using hidle
        rw [hsame, htaken]
        exact .single (.levelled l (Or.inr htest))
      · rw [hended, htaken]
        exact .single (.levelEnded l history countdown s.care)
    · rename_i h
      rw [htaken]
      exact .single (.levelled l (Or.inl h))
  have hall : changeLevel l r s = if l = .exhausted then beginShutdown x else x := rfl
  rw [hall]
  split
  · exact hx.trans (beginShutdown_moves x).steps
  · exact hx

theorem charged_steps (m : BattMeas) (s : State) : s.care.Steps (s.charged m).care := by
  have hmeasured : s.care.Steps (measureCharge m s).care := .single (.measured (clampMeas m) s.care)
  have hcounted : (measureCharge m s).care.Steps (s.charged m).care := by
    have hcare : (s.charged m).care = { (measureCharge m s).care with bcu := (s.charged m).bcu } := by
      simp only [State.charged, countMeasurement, State.care]
      split <;> simp
    rw [hcare]
    refine .single (.counted ?_)
    simp only [State.charged, countMeasurement_bcu, Bcu.runs]
    exact ⟨rfl, rfl, rfl, rfl, rfl, Or.inl rfl⟩
  exact hmeasured.trans hcounted

theorem resumeTest_steps (s : State) : s.care.Steps (resumeTest s).care := .single (.resume s.care)

theorem battMeasure_steps (m : BattMeas) (r : TestReading) (s : State) : s.care.Steps (battMeasure m r s).care := by
  rw [battMeasure_eq]
  refine ((charged_steps m s).trans ?_).trans (resumeTest_steps _)
  split
  · exact .refl
  · exact changeLevel_steps _ r _

/-! ### The capacitor (spec/04 R82) -/

@[simp] theorem releaseHeld_care (s : State) : (releaseHeld s).care = s.care := by
  unfold releaseHeld
  split <;> rfl

theorem endSpent_moves (volts : Nat) (s : State) : s.care.Moves (endSpent volts s).care := by
  unfold endSpent
  split
  · exact endTrip_moves _ _ _ s
  · exact .refl

theorem rechargeReview_care (before : Bool) (s : State) : (rechargeReview before s).care = s.care.review before := by
  simp only [rechargeReview, apply_ite State.care]
  rfl

theorem measureCap_steps (volts : Nat) (s : State) : s.care.Steps (measureCap volts s).care := by
  let x := releaseHeld (endSpent (clampVolts volts) (s.measured volts))
  have hx : Care.Moves { s.care with cap := clampVolts volts } x.care := by
    exact (endSpent_moves (clampVolts volts) (s.measured volts)).trans (Care.moves_of_eq (releaseHeld_care _))
  have hreview : s.care.Steps (rechargeReview s.act.rechargeDemand x).care :=
    rechargeReview_care _ x ▸ .single (.capacitor _ hx)
  rw [measureCap_eq]
  dsimp only
  split
  · exact hreview.trans (seqEvent_moves _ _).steps
  · exact hreview

/-! ### The minute (spec/07 R145) -/

@[simp] theorem removeTag_care (x : Tag) (c : RemovalCause) (a : Option Authority) (s : State) : (removeTag x c a s).care = s.care := by
  simp [State.care, removeTag]

@[simp] theorem tagMinute_care (s : State) : (tagMinute s).care = s.care := by
  have hexpired (t : State) : (expireTags t).care = t.care :=
    List.foldlRecOn (motive := fun y => y.care = t.care) _ _ rfl fun y hy x _ => (removeTag_care x .expired none y).trans hy
  simp only [tagMinute]
  split <;> simp [hexpired] <;> rfl

theorem SeqState.calm_iff (x : SeqState) : x.calm = true ↔ x = .closed ∨ x = .lockout := by simp [SeqState.calm]

/-- A test start that is not refused has its checks met (R125). -/
theorem testRefusal_none_iff (s : State) : testRefusal s = none ↔ testMayStart s := by
  have hcalm := s.seq.state.calm_iff
  have hcap : 250 ≤ s.act.cap ↔ s.act.rechargeDemand = false := Nat.not_lt.symm.trans decide_eq_false_iff_not.symm
  unfold testRefusal testMayStart
  rw [← hcalm, hcap]
  split_ifs with htest hsupply hrest hdemand
  · exact iff_of_false (by simp) fun ⟨h, _⟩ => htest h
  · refine iff_of_false (by simp) fun ⟨_, hs, hsoc, hlevel, _⟩ => ?_
    simp [hs, hlevel] at hsupply
    omega
  · simp [hrest]
  · simp [hdemand]
  · simp_all

theorem bcuMinute_steps (s : State) : s.care.Steps (bcuMinute s).care := by
  have counted (b : Bcu) (h : s.bcu.counts b) : s.care.Steps { s.care with bcu := b } := .single (.counted h)
  unfold bcuMinute
  split
  · exact .refl
  · split
    · let x : State := { s with bcu := { s.bcu with countdown := some 0 } }
      have hx : s.care.Steps x.care := counted _ ⟨rfl, rfl, rfl, rfl, rfl, Or.inl rfl⟩
      unfold scheduledTest
      split
      · rename_i h
        exact hx.tail (.started .schedule ((testRefusal_none_iff x).1 h))
      · exact counted _ ⟨rfl, rfl, rfl, rfl, rfl, Or.inl rfl⟩
    · exact counted _ ⟨rfl, rfl, rfl, rfl, rfl, Or.inl rfl⟩

@[simp] theorem rccMinute_care (s : State) : (rccMinute s).care = s.care := by simp [State.care]

theorem completeMinute_steps (s : State) : s.care.Steps (completeMinute s).care := by
  let x : State := { advanceTime (60 - s.orl.sec) s with orl := { (advanceTime (60 - s.orl.sec) s).orl with sec := 0 } }
  have hminute : (completeMinute s).care = (bcuMinute (tagMinute x)).care := rccMinute_care _
  have htag : (tagMinute x).care = s.care := tagMinute_care x
  exact hminute ▸ htag ▸ bcuMinute_steps (tagMinute x)

theorem runSecond_steps (s : State) : s.care.Steps (runSecond s).care := by
  unfold runSecond
  split
  · exact completeMinute_steps s
  · exact .refl

/-! ### Tags, records and times (spec/05, spec/07) -/

theorem acceptTag_moves (t : TagTable) (x : Tag) (s : State) : s.care.Moves (acceptTag t x s).care := by
  have hrest : (acceptTag t x s).care = (seqEvent .tagAccepted { s with tag := { s.tag with table := t } }).care := by simp [acceptTag]
  exact (seqEvent_moves .tagAccepted { s with tag := { s.tag with table := t } }).trans (Care.moves_of_eq hrest)

theorem placeTag_moves (a : Authority) (crew mode expiry : Nat) (s : State) : s.care.Moves (placeTag a crew mode expiry s).1.care := by
  rcases placeTag_cases a crew mode expiry s with hsame | ⟨-, x, -, hrefreshed⟩ | ⟨-, -, -, hstored⟩
  · exact Care.moves_of_eq (congrArg State.care hsame)
  · exact hrefreshed ▸ acceptTag_moves _ _ s
  · exact hstored ▸ acceptTag_moves _ _ s

@[simp] theorem tagRemove_care (a : Authority) (number crew : Nat) (s : State) : (tagRemove a number crew s).1.care = s.care := by
  unfold tagRemove
  (repeat' split) <;> simp

@[simp] theorem tagClear_care (a : Authority) (number : Nat) (s : State) : (tagClear a number s).1.care = s.care := by
  unfold tagClear
  (repeat' split) <;> simp

@[simp] theorem formWear_care (s : State) : (formWear s).care = s.care := by simp [formWear]; rfl

@[simp] theorem resetWear_care (p : Phase) (s : State) : (resetWear p s).care = s.care := by simp [resetWear]; rfl

@[simp] theorem setTime_care (t : Nat) (s : State) : (setTime t s).care = s.care := rfl

@[simp] theorem statusRequest_care (s : State) : (statusRequest s).care = s.care := by simp [State.care]

/-! ### Staging and selection (spec/09 R173 to R177) -/

@[simp] theorem stageOpen_care (kind number : Nat) (s : State) : (stageOpen kind number s).1.care = s.care := by
  unfold stageOpen
  split <;> simp [State.care, Sst.pages, *, Staging.isCommitting]

@[simp] theorem stageLoad_care (value : Int) (advance : Nat) (s : State) : (stageLoad value advance s).1.care = s.care := by
  unfold stageLoad
  (repeat' split) <;> simp [State.care, Sst.pages, *, Staging.isCommitting]

@[simp] theorem stageSeek_care (f : Nat) (s : State) : (stageSeek f s).1.care = s.care := by
  unfold stageSeek
  (repeat' split) <;> simp [State.care, Sst.pages, *, Staging.isCommitting]

theorem selectGroup_moves (g : Nat) (src : Src) (s : State) : s.care.Moves (selectGroup g src s).care := by
  unfold selectGroup
  split
  · exact Care.moves_of_eq (answer_care _ _ _ _ s)
  · split
    · exact .refl
    · exact seqEvent_moves _ s

theorem beginCommit_steps (s : State) (h : s.restarting = none) : s.care.Steps (beginCommit s).care := by
  unfold beginCommit
  split
  · exact .single (.commit h)
  · exact .refl

/-! ### Radio commands and beacons (spec/08 R151, R161, R162) -/

theorem ownCommand_moves (c : RadioCmd) (s : State) : s.care.Moves (ownCommand c s).care := by
  unfold ownCommand
  split
  · exact seqEvent_moves _ s
  · exact seqEvent_moves _ s
  · exact placeTag_moves _ _ _ _ s
  · exact Care.moves_of_eq (tagRemove_care _ _ _ s)
  · exact selectGroup_moves _ _ s
  · exact Care.moves_of_eq (statusRequest_care s)
  · exact .refl

theorem takeCommand_moves (c : RadioCmd) (s : State) : s.care.Moves (takeCommand c s).care := by
  unfold takeCommand
  (repeat' split)
  · exact Care.moves_of_eq (by simp [State.care])
  · exact Care.moves_of_eq (by simp [State.care])
  · exact Care.moves_of_eq (by simp [State.care])
  · exact ownCommand_moves c { s with rcc := { s.rcc with lastId := some c.id, stored := none } }

theorem takeBeacon_moves (b : Beacon) (s : State) : s.care.Moves (takeBeacon b s).care := by
  let x := beaconTime b.time { s with rcc := s.rcc.sync b.frame }
  let y : State := { x with rcc := x.rcc.resolve x.sst.globalPage.stationId b.acks }
  have hy : y.care = s.care := by simp [State.care, x, y]
  have htake : s.care.Moves (takeCommands b.cmds y).care := by
    rw [← hy]
    unfold takeCommands
    split
    · exact takeCommand_moves _ y
    · exact .refl
  exact htake

/-! ### Host requests (spec/10 R183, R184) -/

theorem cancelTest_steps (s : State) : s.care.Steps (cancelTest s).care := by
  unfold cancelTest
  split
  · exact .refl
  · obtain ⟨history, countdown, hended⟩ := endTest_care .cancelled none none s
    exact hended ▸ .single (.ended history countdown s.care)

theorem serveTestStart_steps (s : State) : s.care.Steps (serveTestStart s).care := by
  unfold serveTestStart
  split
  · exact .refl
  · rename_i h
    exact .single (.started .request ((testRefusal_none_iff s).1 h))

theorem serveCommit_steps (s : State) (h : s.restarting = none) : s.care.Steps (serveCommit s).care := by
  unfold serveCommit
  split
  · exact .refl
  · exact beginCommit_steps s h

theorem serveRestart_steps (s : State) : s.care.Steps (serveRestart s).care := by
  unfold serveRestart
  split
  · exact .refl
  · rename_i h
    have hcommit : s.sst.staging.isCommitting = false := by simpa using (not_or.1 h).2
    exact .single (.restart hcommit)

theorem serveMechFailClear_moves (a : Authority) (s : State) : s.care.Moves (serveMechFailClear a s).care := by
  unfold serveMechFailClear
  split
  · exact .refl
  · exact mechFailCleared_moves s

theorem serve_steps (a : Authority) (r : Request) (s : State) (h : s.restarting = none) : s.care.Steps (serve a r s).care := by
  have same (t : State) (ht : t.care = s.care) : s.care.Steps t.care := Care.steps_of_eq ht
  cases r with
  | readState => exact same _ (by simp only [serve, serveReadState]; split <;> rfl)
  | openBreaker => exact (seqEvent_moves _ s).steps
  | closeBreaker => exact (seqEvent_moves _ s).steps
  | mechFailClear => exact (serveMechFailClear_moves a s).steps
  | tagPlace crew mode expiry => exact (placeTag_moves a crew mode expiry s).steps
  | tagRemove number crew => exact same _ (tagRemove_care a number crew s)
  | tagClear number => exact same _ (tagClear_care a number s)
  | wearReset => exact same _ (by simp only [serve, serveWearReset]; (repeat' split) <;> simp)
  | testStart => exact serveTestStart_steps s
  | testCancel => exact cancelTest_steps s
  | stageOpen kind number => exact same _ (stageOpen_care kind number s)
  | stageLoad value advance => exact same _ (stageLoad_care value advance s)
  | stageSeek f => exact same _ (stageSeek_care f s)
  | commit => exact serveCommit_steps s h
  | groupSelect g => exact (selectGroup_moves g .host s).steps
  | restart => exact serveRestart_steps s
  | _ => exact .refl

theorem serveNext_steps (s : State) (h : s.restarting = none) : s.care.Steps (serveNext s).care := by
  unfold serveNext
  split
  · exact .refl
  · rename_i f rest _
    exact serve_steps _ _ { s with hlc := { s.hlc with queue := rest, current := some f } } h

theorem pumpFor_steps (n : Nat) (s : State) : s.care.Steps (pumpFor n s).care := by
  induction n generalizing s with
  | zero => exact .refl
  | succ n ih =>
    unfold pumpFor
    split
    · rename_i h
      have hnone : s.restarting = none := by
        simp only [mayServe, Bool.and_eq_true] at h
        exact Option.isNone_iff_eq_none.1 h.1.2
      exact (serveNext_steps s hnone).trans (ih _)
    · exact .refl

theorem pump_steps (s : State) : s.care.Steps (pump s).care := pumpFor_steps 5 s

theorem queueFrame_care (f : RxFrame) (s : State) : (queueFrame f s).care = s.care := by
  unfold queueFrame
  (repeat' split) <;> rfl

theorem receive_steps (f : RxFrame) (s : State) : s.care.Steps (receive f s).care := by
  unfold receive
  split
  · exact .refl
  · exact queueFrame_care f s ▸ pump_steps (queueFrame f s)

theorem receiveBytes_steps (n : Nat) (bs : Bytes) (s : State) : s.care.Steps (receiveBytes n bs s).care := by
  induction n generalizing bs s with
  | zero => exact .refl
  | succ n ih =>
    unfold receiveBytes
    split
    · exact ih _ s
    · exact .refl
    · exact (receive_steps _ s).trans (ih _ _)

theorem feed_steps (bytes : Bytes) (s : State) : s.care.Steps (feed bytes s).care := by
  unfold feed
  split
  · exact .refl
  · exact receiveBytes_steps _ _ s

/-! ### The update (spec/01 R3) -/

theorem magnitudeUpdate_moves (block : List SampleSet) (s : State) : s.care.Moves (magnitudeUpdate block s).care := by
  have captured (t : State) : (captureFault t).care = t.care := by
    unfold captureFault
    split <;> rfl
  have requested (cause : Option Element) (t : State) : t.care.Moves (requestTrip cause t).care := by
    cases cause with
    | none => exact .refl
    | some e => exact captured t ▸ seqEvent_moves (.trip (.element e)) (captureFault t)
  have updated (t : State) : t.care.Moves (peuUpdate t).care := by
    have htrip := requested ((peuInputs t).cause t.peu) { t with peu := (peuInputs t).update t.peu }
    simp only [peuUpdate]
    split
    · exact htrip.trans (seqEvent_moves .departure _)
    · exact htrip
  have applied (t : State) : (applyWhenQuiet t).care = t.care := by
    unfold applyWhenQuiet
    split <;> simp
  have lined (t : State) : t.care.Moves (lineUpdate t).care := by
    have hrecord : (sourceRecord t.lsu.source.line t.lsu.qualifySides.source.line { t with lsu := t.lsu.qualifySides }).care = t.care := by
      unfold sourceRecord
      split
      · exact complete_care _ _
      · exact complete_care _ _
      · rfl
    simp only [lineUpdate]
    split
    · exact (Care.moves_of_eq hrecord).trans (seqSourceLive_moves _)
    · exact Care.moves_of_eq hrecord
  exact ((updated { s with lsu := s.lsu.push block }).trans (Care.moves_of_eq (applied _))).trans (lined _)

/-! ### Commits and writes (spec/09 R176, R178) -/

theorem kick_pages (x : Sst) : x.kick.pages = x.pages := by
  unfold Sst.kick
  (repeat' split) <;> rfl

/-- The effects of a changed page move the count alone of what is read here. -/
theorem globalEffects_counts (old new : Page) (s : State) :
    s.bcu.counts { (globalEffects old new s).bcu with charge := s.bcu.charge } := by
  let x := capacityEffect old new { s with lsu := lsuGlobal old new s.lsu }
  obtain ⟨hframe, -, -⟩ := capacityEffect_bcu old new { s with lsu := lsuGlobal old new s.lsu }
  have hx : (globalEffects old new s).bcu = (testIntervalEffect old new x).bcu := by simp [globalEffects_eq, x]
  have hinterval : x.bcu.counts (testIntervalEffect old new x).bcu := by
    unfold testIntervalEffect
    split <;> exact ⟨rfl, rfl, rfl, rfl, rfl, Or.inl rfl⟩
  obtain ⟨-, hsoc, hlevel, hcharger, htest, hload⟩ := hinterval
  rw [hx]
  have hframe' : x.bcu = { s.bcu with charge := x.bcu.charge, resync := x.bcu.resync } := hframe
  rw [hframe'] at hsoc hlevel hcharger htest hload
  exact ⟨rfl, hsoc, hlevel, hcharger, htest, hload⟩

theorem globalEffects_care (old new : Page) (s : State) :
    (globalEffects old new s).care = { s.care with bcu := (globalEffects old new s).bcu } := by
  have hpages : (globalEffects old new s).sst.pages = s.sst.pages := by
    have hcapacity (t : State) : (capacityEffect old new t).sst.pages = t.sst.pages := by
      unfold capacityEffect rescaleCharge
      split <;> simp
    have hwear (t : State) : (wearBudgetEffect old new t).sst.pages = t.sst.pages := by
      unfold wearBudgetEffect formWear
      split <;> simp
    simp [globalEffects_eq, hwear, hcapacity]
  simp [State.care, hpages]

/-- The state at the end of a commit, before what waited on it is released. -/
def commitEnded (b : StageBuf) (reply : Bool) (s : State) : State :=
  let p := storedPage b.target b.page
  let x := replaceWorking b.target p { s with sst := { s.sst with store := s.sst.store.withPage b.target p } }
  let y := { x with sst := { x.sst with staging := .empty, waiting := [] }.kick }
  if reply then hostReply .ok [] y else y

theorem completeCommit_moves (b : StageBuf) (reply : Bool) (s : State) :
    (commitEnded b reply s).care.Moves (completeCommit b reply s).care := by
  change (commitEnded b reply s).care.Moves (releaseSelections b.target s.sst.waiting (commitEnded b reply s)).care
  unfold releaseSelections
  split
  · exact foldl_moves _ (fun t x => seqEvent_moves _ t) _ _
  · exact .refl

theorem commitEnded_care (b : StageBuf) (reply : Bool) (s : State) :
    let p := storedPage b.target b.page
    let x := replaceWorking b.target p { s with sst := { s.sst with store := s.sst.store.withPage b.target p } }
    (commitEnded b reply s).care = { x.care with pages := { x.care.pages with committing := false } } := by
  intro p x
  have hy : ({ x with sst := { x.sst with staging := .empty, waiting := [] }.kick } : State).care =
      { x.care with pages := { x.care.pages with committing := false } } := by
    simp only [State.care, kick_pages]
    rfl
  unfold commitEnded
  split
  · exact hy
  · exact hy

theorem completeCommit_steps (b : StageBuf) (reply w : Bool) (s : State) (h : s.sst.staging = .committing b reply w) :
    s.care.Steps (completeCommit b reply s).care := by
  refine .trans ?_ (completeCommit_moves b reply s).steps
  rw [commitEnded_care]
  cases htarget : b.target with
  | global =>
    let x : State := { s with sst := { s.sst with store := { s.sst.store with globalPage := b.page }, globalPage := b.page } }
    have hcare : (replaceWorking .global b.page { s with sst := { s.sst with store := s.sst.store.withPage .global b.page } }).care =
        { x.care with bcu := (globalEffects s.sst.globalPage b.page x).bcu } := globalEffects_care s.sst.globalPage b.page x
    dsimp only [storedPage]
    rw [hcare]
    have hcommitting : s.sst.staging.isCommitting = true := by rw [h]; rfl
    obtain ⟨-, hchanged, hsame, -⟩ := globalEffects_bcu s.sst.globalPage b.page x _ rfl
    refine .single (.committed b.page hcommitting (globalEffects_counts s.sst.globalPage b.page x) ?_)
    split
    · rename_i he
      exact (hsame he).1
    · rename_i he
      exact (hchanged he).1
  | group n =>
    have hcare (p : Page) :
        (replaceWorking (.group n) p { s with sst := { s.sst with store := s.sst.store.withPage (.group n) p } }).care = s.care := by
      unfold replaceWorking
      dsimp only
      (repeat' split) <;> rfl
    rw [hcare]
    exact .single .released
  | curve n => exact .single .released

theorem completeWrite_care (i : RetItem) (s : State) : (completeWrite i s).care = s.care := by
  have hpages : (completeWrite i s).sst.pages = s.sst.pages := by
    have hbegun : s.sst.staging.begun.isCommitting = s.sst.staging.isCommitting := by
      unfold Staging.begun
      split <;> simp_all [Staging.isCommitting]
    have hpage : (s.sst.store.withItem i).globalPage = s.sst.store.globalPage := by cases i <;> rfl
    simp [completeWrite, Sst.pages, hbegun, hpage]
  simp [State.care, hpages]

/-! ### Starts and stops (spec/09 R179, R180) -/

theorem blank_steps (c : Care) (stage : Stage) (st : Store) (connected : Bool) (cap pulses : Nat) (pending : List Instr) :
    c.Steps (State.blank stage st connected cap pulses pending).care :=
  .single (.fresh .lockout cap st.globalPage rfl rfl (Or.inr (Nat.zero_div _).symm) (Or.inl (Nat.zero_le _)))

theorem warmStart_steps (s : State) : s.care.Steps (warmStart s).care := by
  have hcharge : (warmStart s).bcu.charge = s.restarting.getD s.bcu.charge := rfl
  refine .single (.fresh .lockout s.act.cap s.sst.store.globalPage rfl rfl (Or.inl rfl) (Or.inr ⟨rfl, ?_⟩))
  cases h : s.restarting with
  | none => exact Or.inl (hcharge.trans (by rw [h]; rfl))
  | some c => exact Or.inr (h.trans (congrArg some (hcharge.trans (by rw [h]; rfl)).symm))

theorem firstMeasurement_loadMs (capacity : Nat) (b : Bcu) (h : b.charger = .noSupply) :
    (b.formSetpoints.chargerStep capacity).runs.loadMs = b.loadMs := by
  obtain ⟨c, n, hstep⟩ := chargerStep_of_noSupply capacity b.formSetpoints h
  rw [hstep]
  rfl

theorem startBlocks_steps (k : StartKind) (inp : StartInputs) (s : State) : s.care.Steps (startBlocks k inp s).care := by
  let p := s.sst.store.globalPage
  obtain ⟨-, htest, -, hcharge, hsoc, -⟩ := startBcu_reads k s.sst.store inp.batt s.bcu.charge
  have hload : (startBcu k s.sst.store inp.batt s.bcu.charge).loadMs = 0 := firstMeasurement_loadMs p.capacity _ rfl
  refine .single (.fresh .lockout (clampVolts inp.cap) p htest hload (Or.inr (hcharge ▸ hsoc)) ?_)
  cases k with
  | cold => exact Or.inl (hcharge.trans (startCharge_cold s.sst.store _) ▸ min_le_left _ _)
  | warm => exact Or.inr ⟨rfl, Or.inl hcharge⟩

/-! ### The start reading and the contacts (spec/03 R66, spec/04 R68 to R70) -/

theorem release_care (x : Held) (s : State) : (release x s).care = s.care := by
  cases x with
  | record body time valid => exact enterRecord_care _ s
  | status => simp [release, State.care]

theorem startReading_steps (k : StartKind) (p : Position) (s : State) : s.care.Steps (startReading k p s).care := by
  have hdecided (t : State) : t.care.Moves (decideStart p t).care := by
    have hcare : (decideStart p t).care = t.care.to (startDecision p t.act.mech t.sst.store.lockout).1 := by
      simp [decideStart]
      rfl
    exact hcare ▸ Care.moves_to _ _
  have hannounced (t : State) : t.care.Moves (announceStart k t).care := by
    refine Relation.ReflTransGen.trans (Care.moves_of_eq ?_) (foldl_moves _ (fun u x => Care.moves_of_eq (release_care x u)) _ _)
    simp [completeNow]
    rfl
  have hheld (t : State) : t.care.Moves (takeHeldEvents t).care :=
    foldl_moves _ (fun u e => takeEvent_moves e u) _ { t with seq := { t.seq with decided := true, events := [] } }
  let x : State := { s with act := { s.act with position := p, startRead := true } }
  have hall : s.care.Moves (takeHeldEvents (announceStart k (decideStart p x))).care :=
    ((hdecided x).trans (hannounced _)).trans (hheld _)
  exact hall.steps.trans (pump_steps _)

theorem endByPosition_moves (p : Position) (fin : PulseEnd) (s : State) : s.care.Moves (endByPosition p fin s).care := by
  unfold endByPosition
  split
  · exact endTrip_moves _ _ _ s
  · exact endHeldTrip_moves _ s
  · exact endClose_moves _ _ _ s
  · exact .refl

theorem changePosition_moves (p : Position) (fin : PulseEnd) (s : State) : s.care.Moves (changePosition p fin s).care :=
  (endByPosition_moves p fin { s with act := { s.act with position := p } }).trans (seqEvent_moves _ _)

theorem readContact_cap (c : Contact) (x : ContactState) (ms : Nat) (a : Act) : (readContact c x ms a).cap = a.cap := by
  cases c <;> rfl

theorem contactRead_steps (c : Contact) (x : ContactState) (ms : Nat) (fin : PulseEnd) (s : State) :
    s.care.Steps (contactRead c x ms fin s).care := by
  let y : State := { s with act := readContact c x ms s.act }
  have hy : y.care = s.care := State.care_eq rfl (readContact_cap c x ms s.act) rfl rfl rfl
  rw [← hy]
  change y.care.Steps (match y.act.decoded with
    | some p => takePosition p fin y
    | none => y).care
  split
  · unfold takePosition
    (repeat' split)
    · exact startReading_steps _ _ y
    · exact .refl
    · exact (changePosition_moves _ fin y).steps.trans (pump_steps _)
  · exact .refl

theorem loseSupply_care (s : State) : (loseSupply s).care = s.care := by
  have hmute : s.sst.staging.mute.isCommitting = s.sst.staging.isCommitting := by
    unfold Staging.mute
    split <;> simp_all [Staging.isCommitting]
  simp [State.care, loseSupply, Sst.pages, hmute]

/-! ### Every command -/

/-- A measurement where its occasion is met. -/
theorem measureWhen_steps {can : Bool} {m : BattMeas} {r : TestReading} {s t : State} (ht : measureWhen can m r s = .next t) :
    s.care.Steps t.care := by
  refine happens_keeps (I := fun x => s.care.Steps x.care) .refl ht fun _ => ?_
  split
  · exact (battMeasure_steps m r s).trans (pump_steps _)
  · exact .refl

theorem updateWhen_steps {can : Bool} {block : List SampleSet} {s t : State} (ht : updateWhen can block s = .next t) :
    s.care.Steps t.care := by
  unfold updateWhen at ht
  split at ht
  · refine happens_keeps (I := fun x => s.care.Steps x.care) .refl ht fun _ => ?_
    split
    · exact (magnitudeUpdate_moves block s).steps.trans (pump_steps _)
    · exact .refl
  · cases ht

theorem exec_steps (c : Instr) (s t : State) (ht : exec c s = .next t) : s.care.Steps t.care := by
  have happened {can : Bool} {after : State} (hx : happens can after s = .next t) (ha : can = true → s.care.Steps after.care) :
      s.care.Steps t.care := happens_keeps (I := fun x => s.care.Steps x.care) .refl hx ha
  have moved {can : Bool} {after : State} (hx : happens can after s = .next t) (ha : s.care.Moves after.care) : s.care.Steps t.care :=
    happened hx fun _ => ha.steps
  have same {can : Bool} {after : State} (hx : happens can after s = .next t) (ha : after.care = s.care) : s.care.Steps t.care :=
    happened hx fun _ => Care.steps_of_eq ha
  have minute {can : Bool} (hx : happens can (completeMinute s) s = .next t) : s.care.Steps t.care :=
    happened hx fun _ => completeMinute_steps s
  have ended {can : Bool} {o : TestOutcome} {r mv : Option Nat} {x : State} (hx : happens can (endTest o r mv x) s = .next t)
      (hsx : s.care.Steps x.care) : s.care.Steps t.care := by
    refine happened hx fun _ => ?_
    obtain ⟨history, countdown, hended⟩ := endTest_care o r mv x
    exact hended ▸ hsx.tail (.ended history countdown x.care)
  have received {f : RxFrame} (hx : (Host.Outcome.next (receive f s) : Result) = .next t) : s.care.Steps t.care := by
    cases hx
    exact receive_steps f s
  cases c with
  | coldStart => cases ht; exact blank_steps _ _ _ _ _ _ _
  | startDelayEnd =>
    change execStartDelayEnd _ s = _ at ht
    unfold execStartDelayEnd at ht
    split at ht <;> cases ht
    · exact startBlocks_steps _ _ s
    all_goals exact .refl
  | warmStart => exact happened ht fun _ => warmStart_steps s
  | supplyLoss => exact same ht (loseSupply_care s)
  | holdUpEnd => exact happened ht fun _ => blank_steps _ _ _ _ _ _ _
  | magnitudeUpdate => exact updateWhen_steps ht
  | liveQualified => exact updateWhen_steps ht
  | deadQualified => exact updateWhen_steps ht
  | elementOperate => exact updateWhen_steps ht
  | deadTimerExpiry => exact moved ht (deadTimeEnd_moves s)
  | holdTimerExpiry => exact moved ht (holdEnd_moves s)
  | reclaimTimerExpiry => exact moved ht (enterClosed_care s ▸ Care.moves_to _ _)
  | contactDebounced => exact happened ht fun _ => contactRead_steps _ _ _ _ s
  | startReadingTimeout =>
    change execStartReadingTimeout s = _ at ht
    unfold execStartReadingTimeout at ht
    split at ht <;> cases ht
    · exact startReading_steps _ _ s
    all_goals exact .refl
  | capacitorMeasurement => exact happened ht fun _ => measureCap_steps _ s
  | tripPulseTimeout => exact happened ht fun _ => (endTrip_moves _ _ _ s).steps.trans (pump_steps _)
  | closePulseTimeout => exact happened ht fun _ => (endClose_moves _ _ _ s).steps.trans (pump_steps _)
  | minuteEvent => exact minute ht
  | tagExpiry => exact minute ht
  | tagHourlyWrite => exact minute ht
  | batteryMeasurement => exact measureWhen_steps ht
  | absorbTimeLimit => exact measureWhen_steps ht
  | floatLowRunLimit => exact measureWhen_steps ht
  | faultClearRunComplete => exact measureWhen_steps ht
  | resyncRunComplete => exact measureWhen_steps ht
  | chargeCountWrite => exact measureWhen_steps ht
  | tripWaitTimeout => exact moved ht (.single (.shutdown _ _ s.care))
  | partStop => exact happened ht fun _ => blank_steps _ _ _ _ _ _ _
  | scheduledTestDue => exact minute ht
  | settlingComplete r => exact happened ht fun hcan => .single (.loaded (clampReading r) (eq_of_beq hcan :))
  | loadTestComplete =>
    exact ended (x := { s with bcu := { s.bcu with loadMs := 30000 } }) ht
      (.single (.counted ⟨rfl, rfl, rfl, rfl, rfl, Or.inr (le_refl _)⟩))
  | testAbandonTimeout => exact ended (x := s) ht .refl
  | radioPacketReceived bytes =>
    change execRadioPacketReceived bytes s = _ at ht
    unfold execRadioPacketReceived at ht
    split at ht
    · exact happened ht fun _ => (takeBeacon_moves _ s).steps.trans (pump_steps _)
    · cases ht; exact .refl
  | beaconMissCheck => exact same ht rfl
  | ownSlotStart => exact same ht (by simp [State.care])
  | radioTransmitEnd => cases ht; exact .refl
  | statusIntervalDue => exact minute ht
  | commitComplete =>
    change execCommitComplete s = _ at ht
    unfold execCommitComplete at ht
    split at ht <;> cases ht
    · rename_i h
      exact (completeCommit_steps _ _ _ s h).trans (pump_steps _)
    all_goals exact .refl
  | retainedWriteComplete =>
    change execRetainedWriteComplete s = _ at ht
    unfold execRetainedWriteComplete at ht
    split at ht <;> cases ht
    · exact Care.steps_of_eq (completeWrite_care _ s)
    · exact .refl
  | hostFrameReceived => cases ht; exact feed_steps _ s
  | frameByteTimeout => cases ht; exact .refl
  | keySwitchDebounced => exact same ht rfl
  | hostFrameTransmitted =>
    change execHostFrameTransmitted s = _ at ht
    unfold execHostFrameTransmitted at ht
    split at ht <;> cases ht <;> exact .refl
  | timeBaseSecond =>
    change execTimeBaseSecond s = _ at ht
    unfold execTimeBaseSecond at ht
    split at ht <;> cases ht
    · exact runSecond_steps s
    · exact runSecond_steps s
    all_goals exact .refl
  | _ => exact received ht

theorem tick_steps (s : State) : s.care.Steps (tick s).care := by
  have hload : s.bcu.tick.loadMs = s.bcu.loadMs ∨ s.bcu.tick.loadMs ≤ 30000 := by
    simp only [Bcu.tick]
    split
    · exact Or.inr (min_le_left _ _)
    · exact Or.inl rfl
  have hticked : s.care.Steps { s.care with bcu := s.bcu.tick } := .single (.counted ⟨rfl, rfl, rfl, rfl, rfl, hload⟩)
  unfold tick
  dsimp only
  split
  · exact hticked
  · exact .refl

theorem step_steps (s t : State) (ht : step s = .next t) : s.care.Steps t.care := by
  unfold step at ht
  split at ht
  · rename_i c rest _
    exact exec_steps c (s.withPending rest) t ht
  · unfold idle at ht
    split at ht
    · exact exec_steps _ s t ht
    · cases ht
      exact tick_steps s

/-- What every step of battery care keeps, every step of the part keeps. -/
theorem step_keeps_care (I : Care → Prop) (hI : ∀ c d : Care, c.Step d → I c → I d) (s t : State) (h : I s.care)
    (ht : step s = .next t) : I t.care := by
  have hsteps (d : Care) (hd : s.care.Steps d) : I d := by
    induction hd with
    | refl => exact h
    | tail _ hstep ih => exact hI _ _ hstep ih
  exact hsteps _ (step_steps s t ht)

end Sys2Proof.Machine
end

section
/-! PROOFS. The charge count stays within its bounds and the load test within its conditions (spec/06 R112, R115 to R118, R128 to R131);
O37, O38. -/

namespace Sys2Proof.Machine

/-! ### The charge count (R116, R118) -/

@[simp] theorem Care.resume_reserve (c : Care) : c.resume.bcu.reserve = c.bcu.reserve := by
  unfold Care.resume
  split <;> simp

@[simp] theorem Care.suspend_reserve (c : Care) : c.suspend.bcu.reserve = c.bcu.reserve := c.bcu.suspend_reserve

/-- The count and SoC, the kept count and the pages. -/
structure Care.countKept (c d : Care) : Prop where
  charge : d.bcu.charge = c.bcu.charge
  soc : d.bcu.soc = c.bcu.soc
  restarting : d.restarting = c.restarting
  pages : d.pages = c.pages

theorem Care.countKept_of_reserve {c d : Care} (h : d.bcu.reserve = c.bcu.reserve) (hrestarting : d.restarting = c.restarting)
    (hpages : d.pages = c.pages) : c.countKept d := by
  obtain ⟨-, -, hcharge, hsoc, -⟩ := Bcu.reserve_congr h
  exact ⟨hcharge, hsoc, hrestarting, hpages⟩

theorem Care.resume_countKept (c : Care) : c.countKept c.resume := countKept_of_reserve (by simp) rfl rfl

theorem Care.suspend_countKept (c : Care) : c.countKept c.suspend := countKept_of_reserve (by simp) rfl rfl

theorem Care.countKept.trans {c d e : Care} (h : c.countKept d) (h' : d.countKept e) : c.countKept e :=
  ⟨h'.charge.trans h.charge, h'.soc.trans h.soc, h'.restarting.trans h.restarting, h'.pages.trans h.pages⟩

theorem Care.Move.countKept {c d : Care} (h : c.Move d) : c.countKept d := by
  cases h with
  | entered x =>
    have hx : c.countKept { c with seq := x } := ⟨rfl, rfl, rfl, rfl⟩
    unfold Care.to
    split
    · exact hx.trans (Care.resume_countKept _)
    · exact hx.trans (Care.suspend_countKept _)
  | suspend => exact c.suspend_countKept
  | shutdown x ms => exact ⟨rfl, rfl, rfl, rfl⟩

theorem Care.Moves.countKept {c d : Care} (h : c.Moves d) : c.countKept d := by
  induction h with
  | refl => exact ⟨rfl, rfl, rfl, rfl⟩
  | tail _ hmove ih => exact ih.trans hmove.countKept

/-- chargeBounded, as battery care's parts have it. -/
def Care.bounded (c : Care) : Prop :=
  c.bcu.charge ≤ c.pages.inForce.field 6 * 3600000 ∧ c.bcu.soc ≤ 100 ∧ c.pages.inForce.field 6 = c.pages.retained.field 6 ∧
  ∀ k ∈ c.restarting, k ≤ c.pages.inForce.field 6 * 3600000 ∧ c.pages.committing = false

theorem chargeBounded_iff (s : State) : chargeBounded s ↔ s.care.bounded := Iff.rfl

theorem Care.bounded.kept {c d : Care} (h : c.bounded) (hk : c.countKept d) : d.bounded := by
  obtain ⟨hcharge, hsoc, hrestarting, hpages⟩ := hk
  unfold Care.bounded
  rw [hcharge, hsoc, hrestarting, hpages]
  exact h

theorem socOf_le (full charge : Nat) (h : charge ≤ full) : socOf full charge ≤ 100 :=
  Nat.div_le_of_le_mul (Nat.mul_le_mul_right 100 h)

theorem Care.bounded.take {c : Care} (h : c.bounded) (l : Level) : (c.take l).bounded := by
  obtain ⟨hcharge, hrest⟩ := h
  refine ⟨?_, hrest⟩
  dsimp only [Care.take]
  split
  · exact Nat.zero_le _
  · exact hcharge

theorem Bcu.afterMeasurement_reserve (capacity : Nat) (m : BattMeas) (b : Bcu) :
    (b.afterMeasurement capacity m).reserve = (b.chargeStep capacity m).formSetpoints.reserve := by
  simp only [Bcu.afterMeasurement]
  split <;> simp

theorem chargeAfter_le (capacity : Nat) (m : BattMeas) (b : Bcu) : chargeAfter capacity m b ≤ fullCount capacity := by
  unfold chargeAfter moveCharge
  (repeat' split)
  · exact le_refl _
  · exact min_le_left _ _
  · exact min_le_left _ _

theorem Care.bounded_step (c d : Care) (hstep : c.Step d) (h : c.bounded) : d.bounded := by
  cases hstep with
  | moves hmoves => exact h.kept hmoves.countKept
  | resume => exact h.kept c.resume_countKept
  | counted hb => exact h.kept ⟨hb.charge, hb.soc, rfl, rfl⟩
  | started o => exact h.kept (countKept_of_reserve (d := { c with bcu := c.bcu.startTest o }) c.bcu.settle_reserve rfl rfl)
  | loaded => exact h
  | ended history countdown => exact h
  | measured m =>
    obtain ⟨-, -, hcharge, hsoc, -⟩ := Bcu.reserve_congr (c.bcu.afterMeasurement_reserve c.pages.inForce.capacity m)
    have hle := chargeAfter_le c.pages.inForce.capacity m c.bcu
    obtain ⟨-, -, hpages⟩ := h
    exact ⟨hcharge ▸ hle, hsoc ▸ socOf_le _ _ hle, hpages⟩
  | levelled l => exact h.take l
  | levelEnded l history countdown => exact h.take l
  | @capacitor _ d v hmoves =>
    have hd : d.bounded := Care.bounded.kept (c := { c with cap := v }) h hmoves.countKept
    unfold Care.review
    (repeat' split)
    · exact hd.kept d.suspend_countKept
    · exact hd.kept d.resume_countKept
    · exact hd
  | restart hcommit =>
    obtain ⟨hcharge, hsoc, hpage, -⟩ := h
    refine ⟨hcharge, hsoc, hpage, fun k hk => ?_⟩
    cases hk
    exact ⟨hcharge, hcommit⟩
  | commit hnone =>
    obtain ⟨hcharge, hsoc, hpage, -⟩ := h
    exact ⟨hcharge, hsoc, hpage, by simp [hnone]⟩
  | released =>
    obtain ⟨hcharge, hsoc, hpage, hkept⟩ := h
    exact ⟨hcharge, hsoc, hpage, fun k hk => ⟨(hkept k hk).1, rfl⟩⟩
  | @committed _ b p hcommitting hb hnew =>
    obtain ⟨hcharge, hsoc, -, hkept⟩ := h
    refine ⟨?_, hb.soc ▸ hsoc, rfl, fun k hk => ?_⟩
    · change b.charge ≤ fullCount p.capacity
      rw [hnew]
      split
      · rename_i hsame
        exact hsame ▸ hcharge
      · exact Nat.div_le_of_le_mul (Nat.mul_le_mul_right _ hsoc)
    · exact absurd ((hkept k hk).2.symm.trans hcommitting) (by decide)
  | @fresh _ b x cap p htest hload hsoc hnew =>
    obtain ⟨hcharge, hsoc', hpage, hkept⟩ := h
    have hb : b.charge ≤ fullCount p.capacity := by
      rcases hnew with hle | ⟨rfl, hsame | hrestart⟩
      · exact hle
      · change b.charge ≤ c.pages.retained.field 6 * 3600000
        rw [hsame, ← hpage]
        exact hcharge
      · change b.charge ≤ c.pages.retained.field 6 * 3600000
        rw [← hpage]
        exact (hkept _ hrestart).1
    refine ⟨hb, ?_, rfl, by simp⟩
    rcases hsoc with hsame | hof
    · exact hsame ▸ hsoc'
    · exact hof ▸ socOf_le _ _ hb

/-- Settles O37, by what every operation of a step does to the count and the pages. -/
theorem chargeStaysBounded : Obligations.ChargeStaysBounded := fun s t h ht =>
  (chargeBounded_iff t).2 (step_keeps_care Care.bounded Care.bounded_step s t ((chargeBounded_iff s).1 h) ht)

/-! ### The load test (R112, R115, R128 to R131) -/

/-- The charger's own part of the BCU is all that a charger's step moves. -/
theorem Bcu.chargerStep_frame (capacity : Nat) (b : Bcu) :
    ∃ c a f n r, b.chargerStep capacity = { b with charger := c, absorbTime := a, floatLow := f, faultClear := n, resync := r } := by
  have hleave (b : Bcu) : ∃ c a f r, b.leaveFault = { b with charger := c, absorbTime := a, floatLow := f, resync := r } := by
    unfold Bcu.leaveFault
    (repeat' split) <;> exact ⟨_, _, _, _, rfl⟩
  unfold Bcu.chargerStep
  split
  · exact ⟨_, _, _, _, _, rfl⟩
  · unfold Bcu.chargerMove
    split
    case h_6 =>
      split
      · obtain ⟨c, a, f, r, h⟩ := hleave { b with faultClear := 600 }
        exact ⟨c, a, f, 600, r, h⟩
      · exact ⟨_, _, _, _, _, rfl⟩
    all_goals (repeat' split) <;> exact ⟨_, _, _, _, _, rfl⟩

/-- The charger under a load test stays in TEST or FAULT (R114, R115). -/
theorem Bcu.chargerStep_inProgress (capacity : Nat) (b : Bcu) (htest : b.test.inProgress = true)
    (h : b.charger = .test ∨ b.charger = .fault) :
    (b.chargerStep capacity).charger = .test ∨ (b.chargerStep capacity).charger = .fault := by
  unfold Bcu.chargerStep
  split
  · exact Or.inr rfl
  · unfold Bcu.chargerMove
    rcases h with h | h
    · simp [h]
    · simp only [h]
      split
      · simp [Bcu.leaveFault, htest]
      · exact Or.inr rfl

theorem TestState.inProgress_iff (t : TestState) : t.inProgress = true ↔ t = .settling ∨ t = .loaded := by
  simp [TestState.inProgress]

/-- loadTestSafe, as battery care's parts have it; between a capacitor measurement and its review the recharge demand is not yet
acted on, and `reviewed` is False. -/
def Care.testSafe (reviewed : Prop) (c : Care) : Prop :=
  (c.bcu.test.inProgress = true →
    (c.seq = .closed ∨ c.seq = .lockout) ∧ (reviewed → 250 ≤ c.cap) ∧ (c.bcu.charger = .test ∨ c.bcu.charger = .fault)) ∧
  (c.bcu.test ≠ .idle → c.bcu.level = .normal) ∧ c.bcu.loadMs ≤ 30000

theorem loadTestSafe_iff (s : State) : loadTestSafe s ↔ s.care.testSafe True := by
  simp [loadTestSafe, Care.testSafe, State.care, TestState.inProgress]

/-- A suspension leaves no test in progress, and touches neither level nor load time. -/
theorem Bcu.suspend_test (b : Bcu) :
    b.suspend.test.inProgress = false ∧ (b.suspend.test ≠ .idle ↔ b.test ≠ .idle) ∧ b.suspend.loadMs = b.loadMs := by
  unfold Bcu.suspend
  split
  · rename_i h
    refine ⟨rfl, by simp; rintro h'; simp [h', TestState.inProgress] at h, rfl⟩
  · rename_i h
    exact ⟨by simpa using h, Iff.rfl, rfl⟩

theorem Bcu.settle_test (b : Bcu) :
    b.settle.test = .settling ∧ b.settle.settleMs = 0 ∧ b.settle.baseline = none ∧ b.settle.level = b.level ∧
    b.settle.loadMs = b.loadMs ∧ b.settle.charger = (if b.charger = .fault then .fault else .test) := by
  unfold Bcu.settle Bcu.chargerToTest
  split
  · rename_i h
    simp_all
  · rename_i h
    simp_all

theorem Care.testSafe.suspend {p q : Prop} {c : Care} (h : c.testSafe p) (x : SeqState) :
    Care.testSafe q { c.suspend with seq := x } := by
  obtain ⟨-, hlevel, hload⟩ := h
  obtain ⟨hnone, hidle, hms⟩ := c.bcu.suspend_test
  refine ⟨fun hin => absurd (hnone.symm.trans hin) (by decide), fun hne => ?_, hms.trans_le hload⟩
  exact c.bcu.suspend_level.trans (hlevel (hidle.1 hne))

theorem Care.testSafe.resume {p : Prop} {c : Care} (h : c.testSafe p) : c.resume.testSafe p := by
  unfold Care.resume
  split
  · rename_i hmay
    obtain ⟨htest, hcond⟩ := hmay
    obtain ⟨-, hlevel, hload⟩ := h
    obtain ⟨-, -, -, hsame, hms, hcharger⟩ := c.bcu.settle_test
    simp only [Bool.and_eq_true, Bool.not_eq_true', decide_eq_false_iff_not, SeqState.calm_iff, Nat.not_lt] at hcond
    obtain ⟨⟨hcalm, hcap⟩, -⟩ := hcond
    refine ⟨fun _ => ⟨hcalm, fun _ => hcap, ?_⟩, fun _ => hsame.trans (hlevel (by simp [htest])), hms.trans_le hload⟩
    change c.bcu.settle.charger = .test ∨ c.bcu.settle.charger = .fault
    rw [hcharger]
    split <;> simp
  · exact h

theorem Care.testSafe.move {p : Prop} {c d : Care} (h : c.testSafe p) (hmove : c.Move d) : d.testSafe p := by
  cases hmove with
  | entered x =>
    unfold Care.to
    split
    · rename_i hcalm
      obtain ⟨hin, hrest⟩ := h
      have hx : Care.testSafe p { c with seq := x } := ⟨fun ht => ⟨x.calm_iff.1 hcalm, (hin ht).2⟩, hrest⟩
      exact hx.resume
    · exact h.suspend x
  | suspend => exact h.suspend c.seq
  | shutdown x ms => exact h

theorem Care.Moves.cap {c d : Care} (h : c.Moves d) : d.cap = c.cap := by
  have hmove {c d : Care} (h : c.Move d) : d.cap = c.cap := by
    cases h with
    | entered x =>
      unfold Care.to
      split <;> rfl
    | suspend => rfl
    | shutdown x ms => rfl
  induction h with
  | refl => rfl
  | tail _ hlast ih => exact (hmove hlast).trans ih

theorem Care.testSafe.moves {p : Prop} {c d : Care} (h : c.testSafe p) (hmoves : c.Moves d) : d.testSafe p := by
  induction hmoves with
  | refl => exact h
  | tail _ hlast ih => exact ih.move hlast

/-- Without a test nothing is asked but the load time. -/
theorem Care.testSafe_of_idle {p : Prop} {c : Care} (h : c.bcu.test = .idle) (hload : c.bcu.loadMs ≤ 30000) : c.testSafe p :=
  ⟨fun ht => absurd ht (by simp [h, TestState.inProgress]), fun hne => absurd h hne, hload⟩

/-- Whatever the capacitor did to a test that was safe, its review puts right. -/
theorem Care.testSafe.review {c d : Care} {v : Nat} (h : c.testSafe True) (hmoves : Moves { c with cap := v } d) :
    (d.review (decide (c.cap < 250))).testSafe True := by
  obtain ⟨hin, hrest⟩ := h
  have hcap : d.cap = v := hmoves.cap
  unfold Care.review
  by_cases hbefore : c.cap < 250
  · have hnone : Care.testSafe True { c with cap := v } :=
      ⟨fun ht => absurd ((hin ht).2.1 trivial) (by omega), hrest⟩
    have hd := hnone.moves hmoves
    split_ifs
    · exact hd.suspend d.seq
    · exact hd.resume
    · exact hd
  · have hweak : Care.testSafe False { c with cap := v } := ⟨fun ht => ⟨(hin ht).1, False.elim, (hin ht).2.2⟩, hrest⟩
    have hd := hweak.moves hmoves
    by_cases hv : v < 250
    · rw [if_pos (by simp [hbefore, hcap, hv])]
      exact hd.suspend d.seq
    · have hstrong : Care.testSafe True d := ⟨fun ht => ⟨(hd.1 ht).1, fun _ => by omega, (hd.1 ht).2.2⟩, hd.2⟩
      rw [if_neg (by simp [hcap, hv]), if_neg (by simp [hbefore])]
      exact hstrong

theorem Care.testSafe.measured {p : Prop} {c : Care} (h : c.testSafe p) (m : BattMeas) :
    Care.testSafe p { c with bcu := c.bcu.afterMeasurement c.pages.inForce.capacity m } := by
  let x := (c.bcu.chargeStep c.pages.inForce.capacity m).formSetpoints
  have hx : Care.testSafe p { c with bcu := x } := h
  let y := if x.meas.supply then x else x.suspend
  have hy : Care.testSafe p { c with bcu := y } := by
    dsimp only [y]
    split
    · exact hx
    · exact hx.suspend c.seq
  obtain ⟨ch, a, f, n, r, hframe⟩ := y.chargerStep_frame c.pages.inForce.capacity
  have hcharger := y.chargerStep_inProgress c.pages.inForce.capacity
  have hafter : c.bcu.afterMeasurement c.pages.inForce.capacity m = y.chargerStep c.pages.inForce.capacity := rfl
  obtain ⟨hin, hrest⟩ := hy
  rw [hafter]
  refine ⟨fun ht => ?_, ?_⟩
  · have hyt : y.test.inProgress = true := by rw [hframe] at ht; exact ht
    obtain ⟨hcalm, hready, hch⟩ := hin hyt
    exact ⟨hcalm, hready, hcharger hyt hch⟩
  · rw [hframe]
    exact hrest

theorem Care.testSafe.counts {p : Prop} {c : Care} {b : Bcu} (h : c.testSafe p) (hb : c.bcu.counts b) :
    Care.testSafe p { c with bcu := b } := by
  obtain ⟨-, -, hlevel, hcharger, htest, hload⟩ := hb
  obtain ⟨hin, hnormal, hms⟩ := h
  unfold Care.testSafe
  dsimp only
  rw [hlevel, hcharger, htest]
  refine ⟨hin, hnormal, ?_⟩
  rcases hload with hsame | hle
  · exact hsame.trans_le hms
  · exact hle

theorem Care.testSafe.started {p : Prop} {c : Care} (o : TestOrigin) (h : c.mayStart) :
    Care.testSafe p { c with bcu := c.bcu.startTest o } := by
  obtain ⟨-, -, -, hlevel, hcalm, hcap⟩ := h
  obtain ⟨-, -, -, hsame, -, hcharger⟩ := c.bcu.settle_test
  refine ⟨fun _ => ⟨hcalm, fun _ => hcap, ?_⟩, fun _ => hsame.trans hlevel, Nat.zero_le _⟩
  change c.bcu.settle.charger = .test ∨ c.bcu.settle.charger = .fault
  rw [hcharger]
  split <;> simp

theorem Care.testSafe_step (c d : Care) (hstep : c.Step d) (h : c.testSafe True) : d.testSafe True := by
  cases hstep with
  | moves hmoves => exact h.moves hmoves
  | resume => exact h.resume
  | counted hb => exact h.counts hb
  | started o hmay => exact Care.testSafe.started o hmay
  | loaded x hsettling =>
    obtain ⟨hin, hlevel, hload⟩ := h
    exact ⟨fun _ => hin (by simp [hsettling, TestState.inProgress]), fun _ => hlevel (by simp [hsettling]), hload⟩
  | ended history countdown => exact testSafe_of_idle rfl (Nat.zero_le _)
  | measured m => exact h.measured m
  | levelled l hold =>
    obtain ⟨-, hlevel, hload⟩ := h
    have hidle : c.bcu.test = .idle := by
      rcases hold with hne | hidle
      · exact not_not.1 (mt hlevel hne)
      · exact hidle
    exact testSafe_of_idle hidle hload
  | levelEnded l history countdown => exact testSafe_of_idle rfl (Nat.zero_le _)
  | capacitor v hmoves => exact h.review hmoves
  | restart => exact h
  | commit => exact h
  | released => exact h
  | committed p hcommitting hb => exact (h.counts hb :)
  | fresh x cap p htest hload => exact testSafe_of_idle htest (hload.trans_le (Nat.zero_le _))

/-- Settles O38, by what every operation of a step does to SEQ, the capacitor and the test. -/
theorem loadTestStaysSafe : Obligations.LoadTestStaysSafe := fun s t h ht =>
  (loadTestSafe_iff t).2 (step_keeps_care (Care.testSafe True) Care.testSafe_step s t ((loadTestSafe_iff s).1 h) ht)

end Sys2Proof.Machine
end

section
/-! SUPPORT and PROOFS. Stops and losses of supply (spec/06 R122, R123; spec/09 R179); O34. -/

namespace Sys2Proof.Machine

/-- An event that can happen does (log 4). -/
theorem happens_of {can : Bool} (after s : State) (h : can = true) : happens can after s = .next after := by simp [happens, h]

/-- One that cannot changes nothing (log 4). -/
theorem happens_not {can : Bool} (after s : State) (h : can = false) : happens can after s = .next s := by simp [happens, h]

/-- A part that has stopped drives nothing. -/
theorem stopPart_leaves (s : State) :
    (stopPart s).stage = .stopped ∧ (stopPart s).bcu.connected = false ∧ (stopPart s).sst.store = s.sst.store ∧
    (stopPart s).tripDrive = false ∧ (stopPart s).closeDrive = false ∧ (stopPart s).chargerDrive = false ∧
    (stopPart s).testLoadDrive = false ∧ (stopPart s).converterDrive = false :=
  ⟨rfl, rfl, rfl, rfl, rfl, rfl, rfl, rfl⟩

theorem stopReady_of (s : State) (hstage : s.stage.started = true) (hwait : s.bcu.shutdown = some .writeWait) (hqueue : s.sst.queue = [])
    (hflight : s.sst.inFlight = none) (hcommit : s.sst.staging.isCommitting = false)
    (hrest : s.act.state = .idle ∨ s.act.state = .tripHeld) : stopReady s = true := by
  have hpulsing : s.act.state.pulsing = false := by
    rcases hrest with h | h <;> rw [h] <;> rfl
  simp [stopReady, Sst.drained, hstage, hwait, hqueue, hflight, hcommit, hpulsing]

/-- The hold-up may end 200 ms after the loss, in no pulse (R179). -/
theorem holdUpOver_iff (s : State) :
    holdUpOver s = true ↔ s.sst.lost = true ∧ 200 ≤ s.sst.lostMs ∧ s.act.state ≠ .tripPulse ∧ s.act.state ≠ .closePulse := by
  simp [holdUpOver, ActState.pulsing, and_assoc]

/-- A commit whose host has gone goes on without its reply; another buffer stays as it is (log 24). -/
theorem mute_eq (x : Staging) :
    (∀ b reply w, x = .committing b reply w → x.mute = .committing b false w) ∧ (x.isCommitting = false → x.mute = x) := by
  refine ⟨fun b reply w h => by rw [h]; rfl, fun h => ?_⟩
  cases x with
  | committing => cases h
  | empty => rfl
  | opened => rfl

/-- Settles O34: each event where it can happen, and the hold-up's end where it cannot. -/
theorem partStops : Obligations.PartStops := by
  intro s
  refine ⟨fun hwait => ?_, fun hstage hwait hqueue hflight hcommit hrest => ?_, fun hstage hlost => ?_, fun hover => ?_, fun hover => ?_⟩
  · exact ⟨_, happens_of _ s (beq_iff_eq.2 hwait), rfl, rfl, rfl⟩
  · exact ⟨_, happens_of _ s (stopReady_of s hstage hwait hqueue hflight hcommit hrest), stopPart_leaves s⟩
  · obtain ⟨hreply, hother⟩ := mute_eq s.sst.staging
    have hcan : (s.stage != .stopped && !s.sst.lost) = true := by simp [hstage, hlost]
    exact ⟨_, happens_of _ s hcan, rfl, rfl, rfl, rfl, rfl, rfl, rfl, hreply, hother⟩
  · exact ⟨_, happens_of _ s ((holdUpOver_iff s).2 hover), rfl, rfl⟩
  · exact happens_not _ s (Bool.eq_false_iff.2 (mt (holdUpOver_iff s).1 hover))

end Sys2Proof.Machine
end

section
/-! SUPPORT and PROOFS. A battery measurement: the count, the setpoints and the charger (spec/06 R110 to R118); O31, O32. -/

namespace Sys2Proof.Machine

/-! ### A measurement without a load test -/

theorem Bcu.suspend_of_idle (b : Bcu) (h : b.test = .idle) : b.suspend = b := by simp [Bcu.suspend, h, TestState.inProgress]

theorem resumeTest_of_idle (s : State) (h : s.bcu.test = .idle) : resumeTest s = s := by simp [resumeTest, h]

theorem endTestByLevel_of_idle (r : TestReading) (s : State) (h : s.bcu.test = .idle) : endTestByLevel r s = s := by
  unfold endTestByLevel
  rw [h]

theorem Bcu.leaveFault_of_idle (b : Bcu) (h : b.test = .idle) :
    b.leaveFault = { b with charger := if b.meas.supply then .bulk else .noSupply } := by
  unfold Bcu.leaveFault
  rw [h]
  dsimp only [TestState.inProgress]
  cases b.meas.supply <;> rfl

/-- Without a load test SEQ's operations move nothing of the BCU but the shutdown. -/
theorem Care.Moves.idle {c d : Care} (h : c.Moves d) (hidle : c.bcu.test = .idle) :
    ∃ x ms, d.bcu = { c.bcu with shutdown := x, tripWaitMs := ms } := by
  have hmove {c d : Care} (h : c.Move d) (hidle : c.bcu.test = .idle) : ∃ x ms, d.bcu = { c.bcu with shutdown := x, tripWaitMs := ms } := by
    cases h with
    | entered x =>
      refine ⟨c.bcu.shutdown, c.bcu.tripWaitMs, ?_⟩
      unfold Care.to
      split
      · exact if_neg (by simp [hidle])
      · exact c.bcu.suspend_of_idle hidle
    | suspend => exact ⟨c.bcu.shutdown, c.bcu.tripWaitMs, c.bcu.suspend_of_idle hidle⟩
    | shutdown x ms => exact ⟨x, ms, rfl⟩
  induction h with
  | refl => exact ⟨_, _, rfl⟩
  | tail _ hlast ih =>
    obtain ⟨x, ms, hx⟩ := ih
    obtain ⟨x', ms', hx'⟩ := hmove hlast (by rw [hx]; exact hidle)
    exact ⟨x', ms', by rw [hx', hx]⟩

/-- The BCU with the measurement's count and setpoints, before the charger moves (R111, R116). -/
def State.counted (m : BattMeas) (s : State) : Bcu := (s.bcu.chargeStep s.sst.globalPage.capacity (clampMeas m)).formSetpoints

/-- The BCU as the charger finds it: a test in progress is suspended when the supply is absent (R110). -/
def State.supplied (m : BattMeas) (s : State) : Bcu := if m.supply then s.counted m else (s.counted m).suspend

theorem charged_bcu (m : BattMeas) (s : State) :
    (s.charged m).bcu = Bcu.runs { (s.supplied m).chargerStep s.sst.globalPage.capacity with
      measCount := (((s.supplied m).chargerStep s.sst.globalPage.capacity).measCount + 1) % 600 } := by
  simp only [State.charged, countMeasurement_bcu]
  rfl

theorem supplied_idle (m : BattMeas) (s : State) (h : s.bcu.test = .idle) : s.supplied m = s.counted m := by
  have hsame : (s.counted m).suspend = s.counted m := Bcu.suspend_of_idle _ h
  rw [State.supplied, hsame, ite_self]

theorem charged_idle (m : BattMeas) (s : State) (h : s.bcu.test = .idle) :
    (s.charged m).bcu = Bcu.runs { (s.counted m).chargerStep s.sst.globalPage.capacity with
      measCount := (((s.counted m).chargerStep s.sst.globalPage.capacity).measCount + 1) % 600 } := by
  rw [charged_bcu, supplied_idle m s h]

theorem battMeasure_idle (m : BattMeas) (r : TestReading) (s : State) (h : s.bcu.test = .idle) :
    ∃ l c x ms, (battMeasure m r s).bcu = { (s.charged m).bcu with level := l, charge := c, shutdown := x, tripWaitMs := ms } := by
  let y := s.charged m
  have hy : y.bcu.test = .idle := by
    obtain ⟨_, _, _, _, _, hframe⟩ := (s.counted m).chargerStep_frame s.sst.globalPage.capacity
    simp only [y, charged_idle m s h, Bcu.runs, hframe]
    exact h
  have hchanged (l : Level) :
      ∃ x ms, (changeLevel l r y).bcu =
        { y.bcu with level := l, charge := if l = .exhausted then 0 else y.bcu.charge, shutdown := x, tripWaitMs := ms } := by
    obtain ⟨-, -, -, hbcu, -⟩ := levelTaken_keeps l y
    have htaken : (levelTaken l y).bcu.test = .idle := by rw [hbcu]; exact hy
    have hended : endTestByLevel r (levelTaken l y) = levelTaken l y := endTestByLevel_of_idle r _ htaken
    rw [changeLevel_eq, hended, ite_self]
    dsimp only
    split
    · obtain ⟨x, ms, hbegin⟩ := (beginShutdown_moves (levelTaken l y)).idle htaken
      refine ⟨x, ms, Eq.trans hbegin ?_⟩
      change ({ (levelTaken l y).bcu with shutdown := x, tripWaitMs := ms } : Bcu) = _
      simp_all
    · refine ⟨y.bcu.shutdown, y.bcu.tripWaitMs, hbcu.trans ?_⟩
      simp_all
  rw [battMeasure_eq]
  split
  · rw [resumeTest_of_idle _ hy]
    exact ⟨_, _, _, _, rfl⟩
  · obtain ⟨x, ms, hbcu⟩ := hchanged y.bcu.levelNow
    rw [resumeTest_of_idle _ (by rw [hbcu]; exact hy)]
    exact ⟨_, _, x, ms, hbcu⟩

/-! ### O31 -/

theorem Bcu.setpoints_congr {b c : Bcu} (h : b.reserve = c.reserve) : b.absorbSp = c.absorbSp ∧ b.floatSp = c.floatSp :=
  ⟨(congrArg Bcu.absorbSp h :), (congrArg Bcu.floatSp h :)⟩

/-- The setpoints stay those of the measurement, whatever its level leads to (R111). -/
theorem battMeasure_setpoints (m : BattMeas) (r : TestReading) (s : State) (hs : s.stage = .running) :
    (battMeasure m r s).bcu.meas = clampMeas m ∧ (battMeasure m r s).bcu.absorbSp = absorbSetpoint (clampMeas m).temp ∧
    (battMeasure m r s).bcu.floatSp = floatSetpoint (clampMeas m).temp := by
  obtain ⟨hmeas, -⟩ := charged_reserve m s
  have hset : (s.charged m).bcu.absorbSp = absorbSetpoint (clampMeas m).temp ∧
      (s.charged m).bcu.floatSp = floatSetpoint (clampMeas m).temp := by
    simp only [State.charged, countMeasurement_bcu]
    exact Bcu.setpoints_congr (measureCharge_reserve m s)
  by_cases hl : (s.charged m).bcu.levelNow = (s.charged m).bcu.level
  · have hreserve := (battMeasure_unchanged m r s hl).1.reserve
    obtain ⟨habsorb, hfloat⟩ := Bcu.setpoints_congr hreserve
    obtain ⟨hsame, -⟩ := Bcu.reserve_congr hreserve
    exact ⟨hsame.trans hmeas, habsorb.trans hset.1, hfloat.trans hset.2⟩
  · obtain ⟨a, ms, hkept⟩ := battMeasure_changed m r s _ hs rfl hl
    obtain ⟨habsorb, hfloat⟩ := Bcu.setpoints_congr hkept.reserve
    obtain ⟨hsame, -⟩ := Bcu.reserve_congr hkept.reserve
    simp only [State.inShutdown, levelTaken_keeps] at hsame habsorb hfloat
    exact ⟨hsame.trans hmeas, habsorb.trans hset.1, hfloat.trans hset.2⟩

theorem setpoint_eq (base t : Int) : setpoint base t = base - 36 * ((if t < -20 then -20 else if 50 < t then 50 else t) - 25) := by
  unfold setpoint clampInt
  split_ifs <;> omega

/-- Without a load test the charger leaves the resynchronisation run alone. -/
theorem Bcu.chargerStep_resync (capacity : Nat) (b : Bcu) (h : b.test = .idle) : (b.chargerStep capacity).resync = b.resync := by
  unfold Bcu.chargerStep
  split
  · rfl
  · unfold Bcu.chargerMove
    split
    case h_6 =>
      split
      · rw [Bcu.leaveFault_of_idle { b with faultClear := 600 } h]
      · rfl
    all_goals (repeat' split) <;> rfl

theorem battMeasure_resync (m : BattMeas) (r : TestReading) (s : State) (h : s.bcu.test = .idle) :
    (battMeasure m r s).bcu.resync = (countAfter s (clampMeas m).ma).2 := by
  obtain ⟨l, c, x, ms, hbcu⟩ := battMeasure_idle m r s h
  rw [hbcu, charged_idle m s h]
  exact (s.counted m).chargerStep_resync _ h

/-- Settles O31, by what a graded measurement leaves. -/
theorem batteryMeasurementMoves : Obligations.BatteryMeasurementMoves := by
  intro m r s hruns hmv hlow hhigh hcold hwarm _
  obtain ⟨hexec, hgraded⟩ := exec_batteryMeasurement_graded m r s hruns
  obtain ⟨hmeas, habsorb, hfloat⟩ := battMeasure_setpoints m r s hruns.1
  obtain ⟨-, -, -, hcharge, hsoc, -⟩ := charged_reserve m s
  have hresync := battMeasure_resync m r s
  rw [clampMeas_eq m hmv hlow hhigh hcold hwarm] at hmeas habsorb hfloat hcharge hsoc hresync
  refine ⟨_, hexec, hmeas, habsorb.trans (setpoint_eq _ _), hfloat.trans (setpoint_eq _ _), fun hl => ?_, hgraded.soc.trans hsoc,
    fun _ => hresync⟩
  have hne : ¬ ((s.charged m).bcu.levelNow ≠ (s.charged m).bcu.level ∧ (s.charged m).bcu.levelNow = .exhausted) :=
    fun hc => hl (hgraded.level.trans hc.2)
  exact (hgraded.charge.trans (if_neg hne)).trans hcharge

/-! ### The charger's moves (R112 to R114) -/

theorem faultCondition_iff (m : BattMeas) : faultCondition m = true ↔ 55 < m.temp ∨ m.temp < -30 ∨ 31000 < m.mv := by
  simp [faultCondition, or_assoc]

section
variable (capacity : Nat) (b : Bcu)

theorem Bcu.chargerStep_fault (h : faultCondition b.meas = true) : b.chargerStep capacity = { b with charger := .fault, faultClear := 0 } :=
  if_pos h

/-- Outside a fault condition a charger with supply goes where R113 sends it. -/
theorem Bcu.chargerStep_moves (h : faultCondition b.meas = false) : b.chargerStep capacity = b.chargerMove capacity := by
  simp [Bcu.chargerStep, h]

theorem Bcu.chargerMove_unsupplied (hsupply : b.meas.supply = false) (h : b.charger ∈ [Charger.noSupply, .bulk, .absorb, .float]) :
    (b.chargerMove capacity).charger = .noSupply := by
  unfold Bcu.chargerMove
  cases hc : b.charger <;> simp [hc, hsupply] at h ⊢

theorem Bcu.chargerMove_noSupply (hsupply : b.meas.supply = true) (h : b.charger = .noSupply) :
    (b.chargerMove capacity).charger = .bulk := by
  simp [Bcu.chargerMove, h, hsupply]

theorem Bcu.chargerMove_bulk (hsupply : b.meas.supply = true) (h : b.charger = .bulk) :
    (b.chargerMove capacity).charger = if b.absorbSp ≤ b.meas.mv then .absorb else .bulk := by
  simp only [Bcu.chargerMove, h, hsupply]
  split_ifs <;> simp_all

theorem Bcu.chargerMove_absorb_ends (hsupply : b.meas.supply = true) (h : b.charger = .absorb)
    (hend : b.meas.ma < capacity * 10 ∨ 14399 ≤ b.absorbTime) : (b.chargerMove capacity).charger = .float := by
  simp [Bcu.chargerMove, h, hsupply, hend]

theorem Bcu.chargerMove_absorb_goes (hsupply : b.meas.supply = true) (h : b.charger = .absorb) (hma : capacity * 10 ≤ b.meas.ma)
    (htime : b.absorbTime < 14399) :
    (b.chargerMove capacity).charger = .absorb ∧ (b.chargerMove capacity).absorbTime = b.absorbTime + 1 := by
  have hif : ¬ (b.meas.ma < capacity * 10 ∨ 14399 ≤ b.absorbTime) := by omega
  simp [Bcu.chargerMove, h, hsupply, hif]

theorem Bcu.chargerMove_float_ends (hsupply : b.meas.supply = true) (h : b.charger = .float)
    (hrun : 60 ≤ b.lowFloatRun) : (b.chargerMove capacity).charger = .bulk := by
  simp [Bcu.chargerMove, h, hsupply, hrun]

theorem Bcu.chargerMove_float_goes (hsupply : b.meas.supply = true) (h : b.charger = .float) (hrun : b.lowFloatRun < 60) :
    (b.chargerMove capacity).charger = .float ∧ (b.chargerMove capacity).floatLow = b.lowFloatRun := by
  simp [Bcu.chargerMove, h, hsupply, Nat.not_le.2 hrun]

theorem Bcu.chargerMove_clears (htest : b.test = .idle) (h : b.charger = .fault) (hrun : 600 ≤ b.clearRun) :
    (b.chargerMove capacity).charger = if b.meas.supply then .bulk else .noSupply := by
  simp only [Bcu.chargerMove, h, if_pos hrun]
  exact congrArg Bcu.charger (Bcu.leaveFault_of_idle { b with charger := .fault, faultClear := 600 } htest)

end

/-! ### The occasions (log 2) -/

theorem measureWhen_met {can : Bool} (m : BattMeas) (r : TestReading) (s : State) (h : can = true) :
    measureWhen can m r s = exec (.batteryMeasurement m r) s := by rw [h]; rfl

/-- A measurement in a part without a test: the charger and what it counts are those of its step. -/
theorem exec_batteryMeasurement_idle (m : BattMeas) (r : TestReading) (s : State) (hruns : s.runs) (h : s.bcu.test = .idle) :
    let b := (s.counted m).chargerStep s.sst.globalPage.capacity
    ∃ t, exec (.batteryMeasurement m r) s = .next t ∧ t.bcu.charger = b.charger ∧ t.bcu.absorbTime = b.absorbTime ∧
      t.bcu.floatLow = b.floatLow := by
  obtain ⟨hexec, -⟩ := exec_batteryMeasurement_graded m r s hruns
  obtain ⟨l, c, x, ms, hbcu⟩ := battMeasure_idle m r s h
  refine ⟨_, hexec, ?_⟩
  rw [hbcu, charged_idle m s h]
  exact ⟨rfl, rfl, rfl⟩

theorem exec_resyncRunComplete (m : BattMeas) (r : TestReading) (s : State) (hruns : s.runs)
    (hrun : (countAfter s (clampMeas m).ma).2 = 3600) : ∃ t, exec (.resyncRunComplete m r) s = .next t ∧
      (t.bcu.level = s.bcu.level ∨ t.bcu.level ≠ .exhausted → t.bcu.charge = s.sst.globalPage.field 6 * 3600000) := by
  obtain ⟨hexec, hgraded⟩ := exec_batteryMeasurement_graded m r s hruns
  obtain ⟨-, hlevel, -, hcharge, -⟩ := charged_reserve m s
  have hmet : (resyncRun s.sst.globalPage.capacity (clampMeas m) s.bcu == 3600) = true := beq_iff_eq.2 hrun
  refine ⟨_, (measureWhen_met m r s hmet).trans hexec, fun hl => ?_⟩
  have hfull : (countAfter s (clampMeas m).ma).1 = s.sst.globalPage.field 6 * 3600000 := if_pos hrun
  rw [hgraded.charge, if_neg, hcharge, hfull]
  rintro ⟨hne, hexh⟩
  rw [hgraded.level] at hl
  exact hl.elim (fun hsame => hne (hsame.trans hlevel.symm)) fun hn => hn hexh

/-- Every 600th measurement hands the SST the count as it stands (R118). -/
theorem charged_queued (m : BattMeas) (s : State) (h : s.bcu.measCount = 599) :
    writeQueued (.charge (s.charged m).bcu.charge) (s.charged m) := by
  have hcount : (measureCharge m s).bcu.measCount = s.bcu.measCount := (congrArg Bcu.measCount (measureCharge_reserve m s) :)
  have hzero : ((measureCharge m s).bcu.measCount + 1) % 600 = 0 := by rw [hcount, h]
  let x : State := { measureCharge m s with bcu := { (measureCharge m s).bcu with measCount := 0 } }
  have hcounted : countMeasurement (measureCharge m s) = queueWrite (.charge (measureCharge m s).bcu.charge) x := by
    simp [countMeasurement, hzero, x]
  have hqueued := queueWrite_queued (.charge (measureCharge m s).bcu.charge) x
  rw [← hcounted] at hqueued
  have hcharge : (s.charged m).bcu.charge = (measureCharge m s).bcu.charge := by
    simp [State.charged, Bcu.runs]
  rw [hcharge]
  exact writeQueued_congr _ _ (s.charged m) rfl hqueued

theorem exec_chargeCountWrite (m : BattMeas) (r : TestReading) (s : State) (hruns : s.runs) (hidle : s.bcu.test = .idle)
    (h : s.bcu.measCount = 599) : ∃ t, exec (.chargeCountWrite m r) s = .next t ∧ t.bcu.measCount = 0 ∧
      writeQueued (.charge t.bcu.charge) t := by
  obtain ⟨hexec, hgraded⟩ := exec_batteryMeasurement_graded m r s hruns
  obtain ⟨l, c, x, ms, hbcu⟩ := battMeasure_idle m r s hidle
  refine ⟨_, (measureWhen_met m r s (beq_iff_eq.2 h)).trans hexec, ?_, ?_⟩
  · obtain ⟨_, _, _, _, _, hframe⟩ := (s.counted m).chargerStep_frame s.sst.globalPage.capacity
    rw [hbcu, charged_idle m s hidle, hframe]
    change (s.bcu.measCount + 1) % 600 = 0
    rw [h]
  · by_cases hl : (s.charged m).bcu.levelNow = (s.charged m).bcu.level
    · obtain ⟨hkept, -⟩ := battMeasure_unchanged m r s hl
      rw [hgraded.charge, if_neg fun hc => hc.1 hl]
      exact hkept.queued _ (charged_queued m s h) (by simp [RetItem.item]) (by simp [RetItem.item])
    · exact (hgraded.changed hl).2.1

theorem chargerOutput_eq (s : State) :
    s.chargerOutput = (match s.bcu.charger with
      | .bulk => .current (s.sst.globalPage.field 6 * 100)
      | .absorb => .voltage s.bcu.absorbSp (s.sst.globalPage.field 6 * 100)
      | .float => .voltage s.bcu.floatSp (s.sst.globalPage.field 6 * 100)
      | _ => .off) := by
  unfold State.chargerOutput
  cases s.bcu.charger <;> rfl

/-- Settles O32, by the charger's moves one by one and the occasions that name them. -/
theorem chargerMoves : Obligations.ChargerMoves := by
  intro m r s
  refine ⟨⟨chargerOutput_eq s, s.chargerDrive_iff⟩, fun hruns hidle => ?_⟩
  intro x fault exit becomes
  obtain ⟨t, hexec, hcharger, habsorb, hfloat⟩ := exec_batteryMeasurement_idle m r s hruns hidle
  let y := s.counted m
  have hmeets {can : Bool} (h : can = true) : measureWhen can m r s = .next t := (measureWhen_met m r s h).trans hexec
  have hfault : faultCondition x = true ↔ fault := faultCondition_iff x
  have hmove (h : ¬ fault) : y.chargerStep s.sst.globalPage.capacity = y.chargerMove s.sst.globalPage.capacity :=
    y.chargerStep_moves _ (Bool.eq_false_iff.2 (mt hfault.1 h))
  refine ⟨fun hf => ?_, fun hf hsupply hc => ?_, fun hf hsupply hc => ?_, fun hf hsupply hc => ?_, fun hf hsupply hc => ?_,
    fun hf hsupply hc => ?_, fun hcold hwarm hmv hc hclear => ?_, exec_resyncRunComplete m r s hruns,
    exec_chargeCountWrite m r s hruns hidle⟩
  · exact ⟨t, hexec, hcharger.trans (congrArg Bcu.charger (y.chargerStep_fault _ (hfault.2 hf)))⟩
  · exact ⟨t, hexec, by rw [hcharger, hmove hf]; exact y.chargerMove_unsupplied _ hsupply hc⟩
  · exact ⟨t, hexec, by rw [hcharger, hmove hf]; exact y.chargerMove_noSupply _ hsupply hc⟩
  · exact ⟨t, hexec, by rw [hcharger, hmove hf]; exact y.chargerMove_bulk _ hsupply hc⟩
  · have hnone : faultCondition (clampMeas m) = false := Bool.eq_false_iff.2 (mt hfault.1 hf)
    have hm : m.supply = true := hsupply
    rw [hmove hf] at hcharger habsorb
    refine ⟨fun hma => ⟨t, hexec, ?_⟩, fun hma htime => ⟨t, hexec, ?_, ?_⟩, fun htime => ⟨t, hmeets ?_, ?_⟩⟩
    · exact hcharger.trans (y.chargerMove_absorb_ends _ hsupply hc (Or.inl hma))
    · exact hcharger.trans (y.chargerMove_absorb_goes _ hsupply hc hma htime).1
    · exact habsorb.trans (y.chargerMove_absorb_goes _ hsupply hc hma htime).2
    · simp [hc, htime, hnone, hm]
    · exact hcharger.trans (y.chargerMove_absorb_ends _ hsupply hc (Or.inr htime.ge))
  · have hnone : faultCondition (clampMeas m) = false := Bool.eq_false_iff.2 (mt hfault.1 hf)
    have hm : m.supply = true := hsupply
    rw [hmove hf] at hcharger hfloat
    refine ⟨fun hmv => ⟨fun hrun => ⟨t, hexec, ?_⟩, fun hrun => ⟨t, hmeets ?_, ?_⟩⟩, fun hmv => ⟨t, hexec, ?_⟩⟩
    · have hlow : y.lowFloatRun = s.bcu.floatLow + 1 := if_pos hmv
      obtain ⟨hstate, hcount⟩ := y.chargerMove_float_goes s.sst.globalPage.capacity hsupply hc (by omega)
      exact ⟨hcharger.trans hstate, hfloat.trans (hcount.trans hlow)⟩
    · have hlow : ((clampMeas m).mv : Int) < floatSetpoint (clampMeas m).temp - 600 := hmv
      simp [hc, hrun, hnone, hm, hlow]
    · have hlow : y.lowFloatRun = s.bcu.floatLow + 1 := if_pos hmv
      exact hcharger.trans (y.chargerMove_float_ends _ hsupply hc (by omega))
    · have hlow : y.lowFloatRun = 0 := if_neg (not_lt.2 hmv)
      obtain ⟨hstate, hcount⟩ := y.chargerMove_float_goes s.sst.globalPage.capacity hsupply hc (by omega)
      exact ⟨hcharger.trans hstate, hfloat.trans (hcount.trans hlow)⟩
  · have hf : ¬ fault := by omega
    have hmet : clearMeasurement x = true := by simp [clearMeasurement, hcold, hwarm, hmv]
    have hrun : y.clearRun = 600 := by
      change (if clearMeasurement x then s.bcu.faultClear + 1 else 0) = 600
      rw [hmet, hclear]
      rfl
    refine ⟨t, hmeets (by simp [hc, hclear, hmet, x]), ?_⟩
    rw [hcharger, hmove hf]
    exact y.chargerMove_clears _ hidle hc hrun.ge

end Sys2Proof.Machine
end

section
/-! SUPPORT and PROOFS. A load test begins and ends (spec/06 R125, R126, R131, R132); O35. -/

namespace Sys2Proof.Machine

/-! ### The start (R125, R126) -/

/-- A test that has started settles with its origin, its times at 0 and no countdown. -/
theorem Bcu.startTest_started (o : TestOrigin) (b : Bcu) :
    (b.startTest o).test = .settling ∧ (b.startTest o).origin = some o ∧ (b.startTest o).settleMs = 0 ∧ (b.startTest o).loadMs = 0 ∧
    (b.startTest o).countdown = none ∧ (b.startTest o).charger = (if b.charger = .fault then .fault else .test) := by
  obtain ⟨htest, hsettle, -, -, -, hcharger⟩ := b.settle_test
  exact ⟨htest, rfl, hsettle, rfl, rfl, hcharger⟩

/-- Whether a test may start is read off battery care's parts. -/
theorem testMayStart_congr {s t : State} (h : t.care = s.care) : testMayStart t ↔ testMayStart s := by
  change t.care.mayStart ↔ s.care.mayStart
  rw [h]

section
variable (s : State)

theorem testRefusal_running (h : s.bcu.test ≠ .idle) : testRefusal s = some .busy := by simp [testRefusal, h]

theorem testRefusal_conserve (hidle : s.bcu.test = .idle) (h : s.bcu.meas.supply = false ∨ s.bcu.soc < 80 ∨ s.bcu.level ≠ .normal) :
    testRefusal s = some .conserve := by simp [testRefusal, hidle, h]

variable (hidle : s.bcu.test = .idle) (hsupply : s.bcu.meas.supply = true) (hsoc : 80 ≤ s.bcu.soc) (hlevel : s.bcu.level = .normal)
include hidle hsupply hsoc hlevel

theorem testRefusal_unquiet (h : s.seq.state ∉ [SeqState.closed, .lockout]) : testRefusal s = some .busy := by
  have hcalm : s.seq.state.calm = false := by simpa [SeqState.calm] using h
  simp [testRefusal, hidle, hsupply, Nat.not_lt.2 hsoc, hlevel, hcalm]

theorem testRefusal_lowEnergy (h : s.seq.state ∈ [SeqState.closed, .lockout]) (hcap : s.act.cap < 250) :
    testRefusal s = some .lowEnergy := by
  have hcalm : s.seq.state.calm = true := by simpa [SeqState.calm] using h
  have hdemand : s.act.rechargeDemand = true := decide_eq_true hcap
  simp [testRefusal, hidle, hsupply, Nat.not_lt.2 hsoc, hlevel, hcalm, hdemand]

end

/-- The frames of the two test requests (spec/10 R185). -/
def testStartFrame (tag : Byte) : RxFrame := ⟨0x40#8, tag, .testStart⟩
def testCancelFrame (tag : Byte) : RxFrame := ⟨0x41#8, tag, .testCancel⟩

theorem exec_batteryTestStart_refused (tag : Byte) (s : State) (r : Res) (h : s.serving) (hr : testRefusal s = some r) :
    exec (.batteryTestStart tag) s = .next (s.replied 0x40#8 tag r []) := by
  have hserve (a : Authority) : serve a .testStart (s.taking (testStartFrame tag)) = hostReply r [] (s.taking (testStartFrame tag)) := by
    have hr' : testRefusal (s.taking (testStartFrame tag)) = some r := hr
    simp [serve, serveTestStart, hr']
  exact congrArg Host.Outcome.next (receive_answered (testStartFrame tag) r [] s h hserve)

theorem exec_batteryTestStart_started (tag : Byte) (s : State) (h : s.serving) (hmay : testMayStart s) :
    ∃ t, exec (.batteryTestStart tag) s = .next t ∧ t.bcu = s.bcu.startTest .request ∧ t.answered 0x40#8 tag .ok [] := by
  let f := testStartFrame tag
  let x : State := { s.taking f with bcu := s.bcu.startTest .request }
  have hserve : serve (keyAuthority s.hlc.key) f.req (s.taking f) = hostReply .ok [] x := by
    have hr : testRefusal (s.taking f) = none := (testRefusal_none_iff s).2 hmay
    simp only [f, testStartFrame] at hr ⊢
    simp only [serve, serveTestStart, hr]
    rfl
  refine ⟨hostReply .ok [] x, ?_, rfl, hostReply_answered .ok [] x f rfl⟩
  change Host.Outcome.next (receive f s) = _
  rw [receive_serving f s h, hserve, pumpFor_without_frames 4 _ rfl]

/-- The minute event at which the countdown reaches 0 (R126). -/
theorem exec_scheduledTestDue (s : State) (hs : s.stage.started = true) (h : s.bcu.countdown = some 1) :
    ∃ t, exec .scheduledTestDue s = .next t ∧
      (testMayStart s → t.bcu = Bcu.startTest { s.bcu with countdown := some 0 } .schedule) ∧
      (¬ testMayStart s → t.bcu = { s.bcu with countdown := some 60 }) := by
  let y := tagMinute s.minuteEnded
  have hcare : y.care = s.care := tagMinute_care s.minuteEnded
  have hbcu : y.bcu = s.bcu := congrArg Care.bcu hcare
  let z : State := { y with bcu := { y.bcu with countdown := some 0 } }
  have hz : testRefusal z = none ↔ testMayStart s := (testRefusal_none_iff z).trans (testMayStart_congr (s := s) (t := y) hcare)
  have hdue : bcuMinute y = scheduledTest z := by simp [bcuMinute, hbcu, h, z]
  have hlast : (completeMinute s).bcu = (scheduledTest z).bcu := by
    rw [← hdue]
    exact congrArg Care.bcu (rccMinute_care (bcuMinute y))
  refine ⟨completeMinute s, happens_of _ s (by simp [hs, h]), fun hmay => ?_, fun hmay => ?_⟩
  · rw [hlast, ← hbcu]
    simp only [scheduledTest, hz.2 hmay]
    rfl
  · obtain ⟨r, hr⟩ := Option.ne_none_iff_exists'.1 (mt hz.1 hmay)
    rw [hlast, ← hbcu]
    simp only [scheduledTest, hr]
    rfl

/-! ### The end (R131, R132) -/

theorem Bcu.testIdle_charger (b : Bcu) (h : b.charger = .test) : b.testIdle.charger = if b.meas.supply then .bulk else .noSupply := by
  simp [Bcu.testIdle, Bcu.chargerAfterTest, h]

/-- What the end of a test leaves at the BCU. -/
theorem endTest_bcu (o : TestOutcome) (r mv : Option Nat) (s : State) :
    (endTest o r mv s).bcu = { s.bcu.testIdle with
      history := lastN 4 (s.bcu.history ++ [⟨o, r, mv, s.bcu.loadMs, s.orl.time, s.orl.valid⟩]),
      countdown := testCountdown s.sst.globalPage } := by
  simp [endTest]
  rfl

theorem endTest_queued (o : TestOutcome) (r mv : Option Nat) (s : State) :
    writeQueued (.history (endTest o r mv s).bcu.history) (endTest o r mv s) := by
  have hhistory (h : List TestResult) (x : State) (hx : x.bcu.history = h) :
      writeQueued (.history (queueWrite (.history h) x).bcu.history) (queueWrite (.history h) x) := by
    simpa [hx] using queueWrite_queued (.history h) x
  exact hhistory _ _ rfl

theorem endTest_logs (o : TestOutcome) (r mv : Option Nat) (s : State) (hs : s.stage = .running) :
    logs [.test o r mv] s (endTest o r mv s) := by
  simpa [logs, endTest] using logs_complete (.test o r mv) { s with bcu := s.bcu.testIdle } hs

theorem endTest_ended (o : TestOutcome) (r mv : Option Nat) (s : State) (hs : s.stage = .running) :
    testEnded o r mv s.bcu.loadMs s (endTest o r mv s) := by
  have hbcu := endTest_bcu o r mv s
  refine ⟨?_, ?_, ?_, (endTest_logs o r mv s hs).recorded, ?_, endTest_queued o r mv s, ?_, fun h => ?_⟩
  · rw [hbcu]; rfl
  · rw [hbcu]; rfl
  · rw [hbcu]; rfl
  · rw [hbcu]
  · rw [hbcu]
    exact testCountdown_eq _
  · rw [hbcu]
    exact s.bcu.testIdle_charger h

theorem exec_batteryTestCancel_ends (tag : Byte) (s : State) (h : s.serving) (hrun : s.bcu.test ≠ .idle) :
    ∃ t, exec (.batteryTestCancel tag) s = .next t ∧ testEnded .cancelled none none s.bcu.loadMs s t ∧ t.answered 0x41#8 tag .ok [0#8] := by
  let f := testCancelFrame tag
  let x := endTest .cancelled none none (s.taking f)
  have hserve : serve (keyAuthority s.hlc.key) f.req (s.taking f) = hostReply .ok [0#8] x := by
    have hflag : (s.bcu.test == .idle) = false := by simpa using hrun
    have hcancel : cancelTest (s.taking f) = x := if_neg hrun
    change hostReply .ok (flag (s.bcu.test == .idle)) (cancelTest (s.taking f)) = _
    rw [hflag, hcancel]
    rfl
  have hqueue : x.hlc.queue = [] := by simp [x, endTest, State.taking]
  have hcurrent : x.hlc.current = some f := by simp [x, endTest, State.taking]
  refine ⟨hostReply .ok [0#8] x, ?_, endTest_ended .cancelled none none (s.taking f) h.1.1, hostReply_answered .ok [0#8] x f hcurrent⟩
  change Host.Outcome.next (receive f s) = _
  rw [receive_serving f s h, hserve, pumpFor_without_frames 4 _ (by simpa using hqueue)]

theorem exec_batteryTestCancel_idle (tag : Byte) (s : State) (h : s.serving) (hidle : s.bcu.test = .idle) :
    exec (.batteryTestCancel tag) s = .next (s.replied 0x41#8 tag .ok [1#8]) := by
  let f := testCancelFrame tag
  have hserve (a : Authority) : serve a f.req (s.taking f) = hostReply .ok [1#8] (s.taking f) := by
    have hflag : (s.bcu.test == .idle) = true := beq_iff_eq.2 hidle
    have hcancel : cancelTest (s.taking f) = s.taking f := if_pos hidle
    change hostReply .ok (flag (s.bcu.test == .idle)) (cancelTest (s.taking f)) = _
    rw [hflag, hcancel]
    rfl
  exact congrArg Host.Outcome.next (receive_answered f .ok [1#8] s h hserve)

/-- Settles O35, by the checks of a start in their order, the scheduled start, and the cancellation. -/
theorem loadTestStarts : Obligations.LoadTestStarts := by
  intro tag s h
  have refused (r : Res) (hr : testRefusal s = some r) := exec_batteryTestStart_refused tag s r h hr
  refine ⟨fun hmay => ?_, fun hrun => refused _ (testRefusal_running s hrun),
    fun hidle hlow => refused _ (testRefusal_conserve s hidle hlow),
    fun hidle hsupply hsoc hlevel => ⟨fun hseq => refused _ (testRefusal_unquiet s hidle hsupply hsoc hlevel hseq),
      fun hseq hcap => refused _ (testRefusal_lowEnergy s hidle hsupply hsoc hlevel hseq hcap)⟩,
    fun hdue => ?_, exec_batteryTestCancel_ends tag s h, exec_batteryTestCancel_idle tag s h⟩
  · obtain ⟨t, ht, hbcu, hanswered⟩ := exec_batteryTestStart_started tag s h hmay
    obtain ⟨htest, horigin, hsettle, hload, hcount, hcharger⟩ := s.bcu.startTest_started .request
    rw [← hbcu] at htest horigin hsettle hload hcount hcharger
    exact ⟨t, ht, htest, horigin, hsettle, hload, hcount, hcharger, hanswered⟩
  · have hstarted : s.stage.started = true := by rw [h.1.1]; rfl
    obtain ⟨t, ht, hstart, hwait⟩ := exec_scheduledTestDue s hstarted hdue
    refine ⟨t, ht, fun hmay => ?_, fun hmay => ?_⟩
    · obtain ⟨htest, horigin, -, -, hcount, -⟩ := Bcu.startTest_started .schedule { s.bcu with countdown := some 0 }
      rw [hstart hmay]
      exact ⟨htest, horigin, hcount⟩
    · rw [hwait hmay]
      exact ⟨rfl, rfl⟩

end Sys2Proof.Machine
end

section
/-! SUPPORT and PROOFS. A load test runs, is suspended, settles afresh and ends by itself or by the reserve level (spec/06 R120, R127 to
R132); O36. -/

namespace Sys2Proof.Machine

/-! ### A test suspended and a test that settles afresh -/

theorem Bcu.chargerAfterTest_ne_test (b : Bcu) : b.chargerAfterTest ≠ .test := by
  unfold Bcu.chargerAfterTest
  cases hc : b.charger <;> simp
  split <;> simp

/-- A test in progress that is suspended has its charger out of TEST. -/
theorem Bcu.suspend_charger (b : Bcu) (h : b.test.inProgress = true) : b.suspend.charger ≠ .test := by
  simpa [Bcu.suspend, h] using b.chargerAfterTest_ne_test

/-- A suspension leaves a test that runs SUSPENDED, as it may have been before. -/
theorem Bcu.suspend_of_running (b : Bcu) (h : b.test ≠ .idle) : b.suspend.test = .suspended := by
  unfold Bcu.suspend
  cases hb : b.test <;> simp [hb, TestState.inProgress] at h ⊢

theorem testSuspended_of_bcu {s t : State} (h : s.bcu.test.inProgress = true) (ht : t.bcu = s.bcu.suspend) : testSuspended s t := by
  obtain ⟨htest, hms, hload⟩ := s.bcu.suspend_inProgress h
  have hcharger := s.bcu.suspend_charger h
  rw [← ht] at htest hms hload hcharger
  exact ⟨htest, hms, hload, by simp [State.testLoadDrive, htest], hcharger⟩

theorem testResumed_of_bcu {s t : State} {b : Bcu} (hload : b.loadMs = s.bcu.loadMs) (ht : t.bcu = b.settle) : testResumed s t := by
  obtain ⟨htest, hms, hbase, -, hsame, hcharger⟩ := b.settle_test
  rw [← ht] at htest hms hbase hsame hcharger
  refine ⟨htest, hms, hbase, hsame.trans hload, ?_⟩
  rw [hcharger]
  split <;> simp

theorem resumeTest_settles (s : State) (htest : s.bcu.test = .suspended) (hcalm : s.seq.state = .closed ∨ s.seq.state = .lockout)
    (hcap : 250 ≤ s.act.cap) (hsupply : s.bcu.meas.supply = true) : (resumeTest s).bcu = s.bcu.settle := by
  have hdemand : s.act.rechargeDemand = false := decide_eq_false (Nat.not_lt.2 hcap)
  have hmay : mayResume s = true := by simp [mayResume, s.seq.state.calm_iff.2 hcalm, hdemand, hsupply]
  simp [resumeTest, htest, hmay]

/-! ### The test's own events (R127, R128, R130) -/

theorem clampReading_eq (x : TestReading) (hmv : x.mv ≤ 40000) (hlow : -30000 ≤ x.ma) (hhigh : x.ma ≤ 30000) : clampReading x = x := by
  have hma : clampInt (-30000) 30000 x.ma = x.ma := by simp [clampInt]; omega
  simp [clampReading, hma, hmv]

theorem exec_settlingComplete (x : TestReading) (s : State) (h : s.bcu.test = .settling) :
    exec (.settlingComplete x) s = .next (applyLoad x s) := happens_of _ s (beq_iff_eq.2 h)

theorem exec_testAbandonTimeout (s : State) (h : s.bcu.test = .suspended) :
    exec .testAbandonTimeout s = .next (endTest .abandoned none none s) := happens_of _ s (beq_iff_eq.2 h)

/-- A completed test ends with its outcome, its R and 30,000 ms of load time. -/
theorem exec_loadTestComplete (x base : TestReading) (s : State) (hs : s.stage = .running) (h : s.bcu.test = .loaded)
    (hbase : s.bcu.baseline = some base) (hx : clampReading x = x) : ∃ t, exec (.loadTestComplete x) s = .next t ∧
      testEnded (testOutcome s.sst.globalPage.rLimit base x) (resistance base x) (some x.mv) 30000 s t := by
  let y : State := { s with bcu := { s.bcu with loadMs := 30000 } }
  have hcomplete : completeTest x s = endTest (testOutcome s.sst.globalPage.rLimit base x) (resistance base x) (some x.mv) y := by
    simp only [completeTest, endLoaded, hx, hbase, Option.getD_some]
    rfl
  exact ⟨_, happens_of _ s (beq_iff_eq.2 h), hcomplete ▸ endTest_ended _ _ _ y hs⟩

theorem testOutcome_undrawn (limit : Nat) (base x : TestReading) (h : resistance base x = none) : testOutcome limit base x = .fail := by
  simp [testOutcome, h]

theorem testOutcome_passes (limit : Nat) (base x : TestReading) (r : Nat) (h : resistance base x = some r) (hheld : 24000 ≤ x.mv)
    (hr : r ≤ limit) : testOutcome limit base x = .pass := by
  simp [testOutcome, h, hheld, hr]

theorem testOutcome_fails (limit : Nat) (base x : TestReading) (r : Nat) (h : resistance base x = some r)
    (hnot : ¬ (24000 ≤ x.mv ∧ r ≤ limit)) : testOutcome limit base x = .fail := by
  simp only [testOutcome, h, if_neg hnot]

/-! ### Suspensions and resumptions outside a measurement of the battery (R129, R130) -/

/-- An OPEN that trips, or begins a fresh attempt, suspends the test. -/
theorem exec_hostOpen_suspends (tag : Byte) (s : State) (h : s.serving) (hd : s.seq.decided = true)
    (hs : s.seq.state = .closed ∨ (s.seq.state = .lockout ∧ s.act.position ≠ .isOpen ∧ s.seq.trip = none)) :
    ∃ t, exec (.hostOpen tag) s = .next t ∧ t.bcu = s.bcu.suspend := by
  let x := s.taking (openFrame tag)
  let r : TripReq := .command (keyAuthority s.hlc.key)
  have hopen : seqOpen (keyAuthority s.hlc.key) .host x = hostReply .ok [] (seqTrip r x) := by
    refine seqOpen_trips _ x (hs.imp (fun hc => ?_) fun ⟨hl, hp, _⟩ => ⟨hl, hp⟩)
    have hx : x.seq.state = .closed := hc
    simp [hx]
  have htrip : (seqTrip r x).care.bcu = s.bcu.suspend := by
    rcases hs with hc | ⟨hl, -, hnone⟩
    · have hx : x.seq.state = .closed := hc
      rw [seqTrip_now r x (by simp [hx]), tripNow_care]
      rfl
    · have hlockout : x.seq.state = .lockout := hl
      have hfree : x.seq.trip = none := hnone
      have hx : seqTrip r x = tripAttempt r x := by simp [seqTrip, hlockout]
      have hattempt : tripAttempt r x = actTrip { x with seq := { x.seq with trip := some [r] }, bcu := x.bcu.suspend } := by
        simp [tripAttempt, hfree]
      rw [hx, hattempt, actTrip_care]
      rfl
  exact ⟨_, exec_hostOpen tag s _ h hd hopen (by simp [x, State.taking]), htrip⟩

/-- A capacitor measurement that ends no trip pulse leaves to the BCU its review. -/
theorem measureCap_review (volts : Nat) (s : State) (hspent : s.act.spent = false) :
    (rechargeReview s.act.rechargeDemand (releaseHeld (endSpent (clampVolts volts) (s.measured volts)))).care =
      Care.review (decide (s.act.cap < 250)) { s.care with cap := clampVolts volts } := by
  have hsame : endSpent (clampVolts volts) (s.measured volts) = s.measured volts := endSpent_of_not_spent _ _ hspent
  rw [hsame, rechargeReview_care, releaseHeld_care]
  rfl

theorem spent_false_of (s : State) (h : ¬ (s.act.state = .tripPulse ∧ s.act.pulseMs = some 120)) : s.act.spent = false := by
  rw [Bool.eq_false_iff]
  simpa [Act.spent, tripPulseMs] using h

theorem measureCap_suspends (volts : Nat) (s : State) (hspent : s.act.spent = false) (hcap : 250 ≤ s.act.cap) (hv : volts < 250) :
    (measureCap volts s).bcu = s.bcu.suspend := by
  have hbefore : s.act.rechargeDemand = false := decide_eq_false (Nat.not_lt.2 hcap)
  have hclamp : clampVolts volts = volts := by simp [clampVolts]; omega
  have hreview := congrArg Care.bcu (measureCap_review volts s hspent)
  rw [measureCap_eq]
  dsimp only
  rw [if_neg (by simp [hbefore])]
  refine hreview.trans ?_
  simp [Care.review, hclamp, hv, Nat.not_lt.2 hcap]
  rfl

theorem measureCap_resumes (volts : Nat) (s : State) (hspent : s.act.spent = false) (hcap : s.act.cap < 250) (hv : 250 ≤ volts)
    (htest : s.bcu.test = .suspended) (hcalm : s.seq.state = .closed ∨ s.seq.state = .lockout) (hsupply : s.bcu.meas.supply = true) :
    (measureCap volts s).bcu = s.bcu.settle := by
  let x := rechargeReview s.act.rechargeDemand (releaseHeld (endSpent (clampVolts volts) (s.measured volts)))
  have hclamp : 250 ≤ clampVolts volts := by simp [clampVolts]; omega
  have hx : x.care = Care.resume { s.care with cap := clampVolts volts } := by
    refine (measureCap_review volts s hspent).trans ?_
    simp [Care.review, hcap, Nat.not_lt.2 hclamp]
  have hbcu : x.bcu = s.bcu.settle := by
    have hmay : s.bcu.test = .suspended ∧ (s.seq.state.calm && !decide (clampVolts volts < 250) && s.bcu.meas.supply) = true := by
      simp [htest, s.seq.state.calm_iff.2 hcalm, Nat.not_lt.2 hclamp, hsupply]
    exact (congrArg Care.bcu hx).trans (if_pos hmay)
  have hstate : x.seq.state ≠ .recloseHold := by
    have hseq : x.seq.state = s.seq.state := by
      refine (congrArg Care.seq hx).trans ?_
      rfl
    rw [hseq]
    rcases hcalm with h | h <;> simp [h]
  have hready : ∃ events, seqEvent .energyReady x = { x with seq := { x.seq with events := events } } := energyReady_unheld x hstate
  rw [measureCap_eq]
  dsimp only
  split
  · obtain ⟨events, he⟩ := hready
    exact (congrArg State.bcu he).trans hbcu
  · exact hbcu

theorem enterClosed_resumes (s : State) (htest : s.bcu.test = .suspended) (hsupply : s.bcu.meas.supply = true) (hcap : 250 ≤ s.act.cap) :
    (enterClosed s).bcu = s.bcu.settle := by
  have hmay : s.bcu.test = .suspended ∧ (SeqState.closed.calm && !decide (s.act.cap < 250) && s.bcu.meas.supply) = true := by
    simp [htest, hsupply, Nat.not_lt.2 hcap, SeqState.calm]
  exact (congrArg Care.bcu (enterClosed_care s)).trans (if_pos hmay)

/-! ### At a battery measurement (R110, R129 to R131) -/

/-- A charger out of TEST does not enter it at a measurement without a test in progress. -/
theorem Bcu.chargerStep_ne_test (capacity : Nat) (b : Bcu) (htest : b.test.inProgress = false) (h : b.charger ≠ .test) :
    (b.chargerStep capacity).charger ≠ .test := by
  unfold Bcu.chargerStep
  split
  · simp
  · unfold Bcu.chargerMove
    split
    case h_5 hc => exact absurd hc h
    case h_6 =>
      split
      · simp only [Bcu.leaveFault, htest]
        (repeat' split) <;> simp_all
      · simp_all
    all_goals (repeat' split) <;> simp_all

/-- What a measurement leaves of the test before its level is formed. -/
structure testCarried (supply : Bool) (b d : Bcu) : Prop where
  test : d.test = if supply then b.test else b.suspend.test
  suspMs : d.suspMs = if supply then b.suspMs else b.suspend.suspMs
  loadMs : d.loadMs = b.loadMs
  baseline : d.baseline = b.baseline
  history : d.history = b.history

theorem supplied_carried (m : BattMeas) (s : State) : testCarried m.supply s.bcu (s.supplied m) := by
  unfold State.supplied
  cases m.supply with
  | true => exact ⟨rfl, rfl, rfl, rfl, rfl⟩
  | false =>
    have htest : (s.counted m).test = s.bcu.test := rfl
    by_cases h : s.bcu.test.inProgress = true
    · simp only [Bcu.suspend, htest, h]
      exact ⟨by simp [Bcu.suspend, h], by simp [Bcu.suspend, h], rfl, rfl, rfl⟩
    · simp only [Bcu.suspend, htest, h]
      exact ⟨by simp [Bcu.suspend, h]; rfl, by simp [Bcu.suspend, h]; rfl, rfl, rfl, rfl⟩

theorem charged_carried (m : BattMeas) (s : State) : testCarried m.supply s.bcu (s.charged m).bcu := by
  obtain ⟨_, _, _, _, _, hframe⟩ := (s.supplied m).chargerStep_frame s.sst.globalPage.capacity
  obtain ⟨htest, hsusp, hload, hbase, hhistory⟩ := supplied_carried m s
  rw [charged_bcu, hframe]
  exact ⟨htest, hsusp, hload, hbase, hhistory⟩

/-- A measurement without supply that leaves the level suspends a test in progress. -/
theorem battMeasure_suspends (m : BattMeas) (r : TestReading) (s : State) (hl : (s.charged m).bcu.levelNow = (s.charged m).bcu.level)
    (h : s.bcu.test.inProgress = true) (hsupply : m.supply = false) : testSuspended s (battMeasure m r s) := by
  have hcarried := charged_carried m s
  obtain ⟨hmeas, -⟩ := charged_reserve m s
  rw [hsupply] at hcarried
  obtain ⟨htest, hms, -⟩ := s.bcu.suspend_inProgress h
  have hbatt : (battMeasure m r s).bcu = (s.charged m).bcu := by
    have hno : mayResume (s.charged m) = false := by simp [mayResume, hmeas, clampMeas, hsupply]
    rw [battMeasure_eq, if_pos hl]
    simp [resumeTest, hno]
  have hcharger : (s.charged m).bcu.charger ≠ .test := by
    have hsupplied : s.supplied m = (s.counted m).suspend := by simp [State.supplied, hsupply]
    obtain ⟨hnone, -⟩ := (s.counted m).suspend_test
    rw [charged_bcu, hsupplied]
    exact Bcu.chargerStep_ne_test _ _ hnone ((s.counted m).suspend_charger h)
  have hnow : (s.charged m).bcu.test = .suspended := hcarried.test.trans htest
  unfold testSuspended State.testLoadDrive
  rw [hbatt]
  exact ⟨hnow, hcarried.suspMs.trans hms, hcarried.loadMs, by simp [hnow], hcharger⟩

/-- One with supply resumes a suspended test when SEQ and the capacitor allow it. -/
theorem battMeasure_resumes (m : BattMeas) (r : TestReading) (s : State) (hl : (s.charged m).bcu.levelNow = (s.charged m).bcu.level)
    (h : s.bcu.test = .suspended) (hsupply : m.supply = true) (hcalm : s.seq.state = .closed ∨ s.seq.state = .lockout)
    (hcap : 250 ≤ s.act.cap) : testResumed s (battMeasure m r s) := by
  have hcarried := charged_carried m s
  obtain ⟨hmeas, -⟩ := charged_reserve m s
  rw [hsupply] at hcarried
  refine testResumed_of_bcu (b := (s.charged m).bcu) hcarried.loadMs ?_
  rw [battMeasure_eq, if_pos hl]
  exact resumeTest_settles _ (hcarried.test.trans h) (by simpa using hcalm) (by simpa using hcap) (by simp [hmeas, clampMeas, hsupply])

/-! ### At a level change (R120, R131) -/

theorem logs.stamp {bodies : List RecBody} {s t : State} (h : logs bodies s t) : t.orl.time = s.orl.time ∧ t.orl.valid = s.orl.valid := by
  obtain ⟨-, -, htime, hvalid⟩ := foldl_enter_keeps bodies s.orl.log
  exact ⟨(congrArg Orl.time h :).trans htime, (congrArg Orl.valid h :).trans hvalid⟩

theorem actTrip_keeps_queued (i : RetItem) (s : State) (h : writeQueued i s) (hring : i.item ≠ 5) : writeQueued i (actTrip s) := by
  have started (x : State) (hx : writeQueued i x) : writeQueued i (startTrip x) := writeQueued_congr i x _ (by simp) hx
  have cut : writeQueued i (cutClose s) := by
    let x : State := { s with act := { s.act.toIdle with converter := .paused } }
    have hrecord := complete_keeps_queued i (closeRecord s.act .cut (s.act.pulseMs.getD 0) s.act.cap) x h hring
    refine writeQueued_congr i _ _ ?_ hrecord
    rw [cutClose, seqCloseCompletion_cut]
    split <;> simp [x, handCloseRecord]
  unfold actTrip
  split
  · exact started _ h
  · exact started _ cut
  · exact h
  · exact h

theorem seqTrip_keeps_queued (i : RetItem) (r : TripReq) (s : State) (h : writeQueued i s) (hring : i.item ≠ 5) :
    writeQueued i (seqTrip r s) := by
  have now : writeQueued i (tripNow r s) := by
    let x : State := seqTo .tripping { s with seq := { s.seq.stopTimers with trip := some [r] } }
    exact actTrip_keeps_queued i x (writeQueued_congr i s x (by simp [x]) h) hring
  have attempt : writeQueued i (tripAttempt r s) := by
    unfold tripAttempt
    split
    · exact actTrip_keeps_queued i { s with seq := { s.seq with trip := some [r] }, bcu := s.bcu.suspend } h hring
    · exact h
  unfold seqTrip
  split
  case h_7 => exact h
  case h_8 | h_9 => exact attempt
  all_goals exact now

theorem beginShutdown_keeps_queued (i : RetItem) (s : State) (h : writeQueued i s) (hring : i.item ≠ 5) :
    writeQueued i (beginShutdown s) := by
  by_cases htrips : tripsOnExhaustion s
  · rw [beginShutdown_trips s htrips]
    unfold seqEvent
    split
    · exact seqTrip_keeps_queued i _ (s.inShutdown (some .tripWait) 0) h hring
    · exact h
  · rw [beginShutdown_writes s htrips]
    exact h

/-- The shutdown begins without a test: at most a cut CLOSE is recorded, and the history and what waits to be written stay. -/
theorem beginShutdown_leaves (s : State) (hs : s.stage = .running) (hidle : s.bcu.test = .idle) :
    (∃ bodies, bodies.length ≤ 1 ∧ logs bodies s (beginShutdown s)) ∧ (beginShutdown s).bcu.test = .idle ∧
    (beginShutdown s).bcu.history = s.bcu.history := by
  obtain ⟨a, ms, hkept⟩ := beginShutdown_reserveKept s hs
  obtain ⟨bodies, hlen, hlogs⟩ := hkept.logs
  obtain ⟨x, ms', hbcu⟩ := (beginShutdown_moves s).idle hidle
  have hframe : (beginShutdown s).bcu = { s.bcu with shutdown := x, tripWaitMs := ms' } := hbcu
  exact ⟨⟨bodies, hlen, hlogs⟩, by rw [hframe]; exact hidle, by rw [hframe]⟩

/-- A change of level away from NORMAL that ends a test: the test's record follows the level's, and no later part of the event touches the
test or its history. -/
theorem battMeasure_endsTest (m : BattMeas) (r : TestReading) (s : State) (o : TestOutcome) (x mv : Option Nat) (hs : s.stage = .running)
    (hnormal : s.bcu.level = .normal) (hchanged : (s.charged m).bcu.levelNow ≠ (s.charged m).bcu.level)
    (hended : ∀ z : State, z.bcu.test = (s.charged m).bcu.test → z.bcu.baseline = (s.charged m).bcu.baseline →
      endTestByLevel r z = endTest o x mv z) :
    testEndedByLevel o x mv s (battMeasure m r s) := by
  let y := s.charged m
  let l := y.bcu.levelNow
  let z := levelTaken l y
  let v := endTest o x mv z
  let u := if l = .exhausted then beginShutdown v else v
  have hrun : y.stage = .running := by simpa [y] using hs
  obtain ⟨hzstage, -, -, hzbcu, -⟩ : z.stage = y.stage ∧ z.seq = y.seq ∧ z.act = y.act ∧
      z.bcu = { y.bcu with level := l, charge := if l = .exhausted then 0 else y.bcu.charge } ∧ z.hlc.queue = y.hlc.queue ∧
      z.sst.globalPage = y.sst.globalPage := levelTaken_keeps l y
  have hbatt : battMeasure m r s = resumeTest u := by
    have hz : endTestByLevel r z = v := hended z (by rw [hzbcu]) (by rw [hzbcu])
    have hylevel : y.bcu.level = .normal := (charged_reserve m s).2.1.trans hnormal
    rw [battMeasure_eq, if_neg hchanged, changeLevel_eq, if_pos hylevel]
    exact congrArg (fun w => resumeTest (if l = .exhausted then beginShutdown w else w)) hz
  obtain ⟨hzlogs, -, -⟩ := levelTaken_records l y hrun
  obtain ⟨htime, hvalid⟩ := hzlogs.stamp
  have hvlogs := hzlogs.trans (endTest_logs o x mv z (hzstage.trans hrun))
  have hvbcu := endTest_bcu o x mv z
  have hvtest : v.bcu.test = .idle := by rw [hvbcu]; rfl
  have hhistory : v.bcu.history = lastN 4 (s.bcu.history ++ [⟨o, x, mv, s.bcu.loadMs, s.orl.time, s.orl.valid⟩]) := by
    obtain ⟨-, -, hload, -, hkept⟩ := charged_carried m s
    have horl : y.orl = s.orl := by simp [y]
    rw [hvbcu]
    dsimp only
    rw [htime, hvalid, horl, hzbcu]
    dsimp only
    rw [hkept, hload]
  have hu : ∃ bodies, bodies.length ≤ 1 ∧ logs bodies v u ∧ u.bcu.test = .idle ∧ u.bcu.history = v.bcu.history ∧
      writeQueued (.history v.bcu.history) u := by
    have hqueued : writeQueued (.history v.bcu.history) v := endTest_queued o x mv z
    by_cases hexh : l = .exhausted
    · have hbegin : u = beginShutdown v := if_pos hexh
      have hvrun : v.stage = .running := by simpa [v, hzstage] using hrun
      obtain ⟨⟨bodies, hlen, hlogs⟩, hidle, hsame⟩ := beginShutdown_leaves v hvrun hvtest
      rw [hbegin]
      exact ⟨bodies, hlen, hlogs, hidle, hsame, beginShutdown_keeps_queued _ v hqueued (by simp [RetItem.item])⟩
    · have hsame : u = v := if_neg hexh
      rw [hsame]
      exact ⟨[], Nat.zero_le 1, rfl, hvtest, rfl, hqueued⟩
  obtain ⟨bodies, hlen, hulogs, hutest, huhistory, hqueued⟩ := hu
  rw [hbatt, resumeTest_of_idle u hutest]
  refine ⟨hutest, by simp [State.testLoadDrive, hutest], ?_, huhistory.trans hhistory, huhistory ▸ hqueued⟩
  have hall := hvlogs.trans hulogs
  have horl : y.orl = s.orl := by simp [y]
  have hring := hall.mem_ring (i := 1) (by simp; omega) rfl
  rwa [horl] at hring

theorem endTestByLevel_loaded (r base : TestReading) (s : State) (h : s.bcu.test = .loaded) (hbase : s.bcu.baseline = some base)
    (hr : clampReading r = r) : endTestByLevel r s = endTest .fail (resistance base r) (some r.mv) s := by
  unfold endTestByLevel
  rw [h]
  simp only [endLoaded, hr, hbase, Option.getD_some]

theorem endTestByLevel_abandons (r : TestReading) (s : State) (h : s.bcu.test = .settling ∨ s.bcu.test = .suspended) :
    endTestByLevel r s = endTest .abandoned none none s := by
  unfold endTestByLevel
  rcases h with h | h <;> rw [h]

/-- Settles O36, by the test's own events, what suspends and resumes it, and the level change that ends it. -/
theorem loadTestRuns : Obligations.LoadTestRuns := by
  intro x base m volts tag s hmv hlow hhigh hrun inProgress calm spent r
  have hx : clampReading x = x := clampReading_eq x hmv hlow hhigh
  have hprogress : inProgress → s.bcu.test.inProgress = true := s.bcu.test.inProgress_iff.2
  have hundrawn (h : base.ma - x.ma < 1000) : resistance base x = none := if_pos h
  have hdrawn (h : 1000 ≤ base.ma - x.ma) : resistance base x = some r := if_neg (not_lt.2 h)
  have hunspent : ¬ spent → s.act.spent = false := spent_false_of s
  refine ⟨fun h => ?_, fun h hbase => ?_, fun h => ?_, fun h hserving hd hseq => ?_, fun h hd hcap hv hs => ?_,
    fun h hd hc hsupply hcap hv hs => ?_, fun h hseq htiming hsupply hcap => ?_, fun hruns => ?_⟩
  · exact ⟨_, exec_settlingComplete x s h, rfl, congrArg some hx, rfl, rfl⟩
  · obtain ⟨t, ht, hended⟩ := exec_loadTestComplete x base s hrun h hbase hx
    refine ⟨t, ht, fun hun => ?_, fun hd hheld hr => ?_, fun hd hnot => ?_⟩
    · rwa [testOutcome_undrawn _ base x (hundrawn hun), hundrawn hun] at hended
    · rwa [testOutcome_passes s.sst.globalPage.rLimit base x r (hdrawn hd) hheld hr, hdrawn hd] at hended
    · rwa [testOutcome_fails s.sst.globalPage.rLimit base x r (hdrawn hd) hnot, hdrawn hd] at hended
  · exact ⟨_, exec_testAbandonTimeout s h, endTest_ended .abandoned none none s hrun⟩
  · obtain ⟨t, ht, hbcu⟩ := exec_hostOpen_suspends tag s hserving hd hseq
    exact ⟨t, ht, testSuspended_of_bcu (hprogress h) hbcu⟩
  · exact ⟨_, exec_capacitorMeasurement volts s hrun,
      testSuspended_of_bcu (hprogress h) (measureCap_suspends volts s (hunspent hs) hcap hv)⟩
  · exact ⟨_, exec_capacitorMeasurement volts s hrun,
      testResumed_of_bcu rfl (measureCap_resumes volts s (hunspent hs) hcap hv h hc hsupply)⟩
  · refine ⟨enterClosed s, ?_, testResumed_of_bcu rfl (enterClosed_resumes s h hsupply hcap)⟩
    rw [exec_reclaimTimerExpiry s hseq, htiming]
    rfl
  · obtain ⟨hexec, hgraded⟩ := exec_batteryMeasurement_graded m x s hruns
    obtain ⟨-, hlevel, -⟩ := charged_reserve m s
    have hcarried := charged_carried m s
    refine ⟨_, hexec, fun hsame => ?_, fun hnormal hleft => ?_⟩
    · have hl : (s.charged m).bcu.levelNow = (s.charged m).bcu.level := (hgraded.level.symm.trans hsame).trans hlevel.symm
      exact ⟨fun h hsupply => battMeasure_suspends m x s hl (hprogress h) hsupply,
        fun h hsupply hc hcap => battMeasure_resumes m x s hl h hsupply hc hcap⟩
    · have hl : (s.charged m).bcu.levelNow ≠ (s.charged m).bcu.level :=
        fun hc => hleft (hgraded.level.trans (hc.trans (hlevel.trans hnormal)))
      refine ⟨fun h hsupply hbase => ?_, fun h => ?_⟩
      · refine battMeasure_endsTest m x s .fail _ _ hrun hnormal hl fun z htest hz => ?_
        refine endTestByLevel_loaded x base z ?_ (hz.trans (hcarried.baseline.trans hbase)) hx
        rw [htest, hcarried.test, hsupply]
        exact h
      · refine battMeasure_endsTest m x s .abandoned _ _ hrun hnormal hl fun z htest _ => endTestByLevel_abandons x z ?_
        rw [htest, hcarried.test]
        cases hsupply : m.supply with
        | false => exact Or.inr (s.bcu.suspend_of_running (by rcases h with h | h | ⟨h, -⟩ <;> simp [h]))
        | true =>
          rcases h with h | h | ⟨-, hno⟩
          · exact Or.inl h
          · exact Or.inr h
          · exact absurd (hsupply.symm.trans hno) (by decide)

end Sys2Proof.Machine
end

section
/-! SUPPORT. The operation log as a run of record numbers (spec/07 R136): a record entered at the end of a sound log leaves it sound, and so
do SEQ, ACT and ORL, whose every record enters there. -/

namespace Sys2Proof.Machine

/-! ### One log (R136) -/

theorem logSound_empty : logSound [] 1 := by simp [logSound, realNumber]

/-- The newest record ends the run, and of 64 the oldest goes. -/
theorem logSound.enter {ring : List Record} {next : Nat} (h : logSound ring next) (r : Record) (hr : r.number = next) :
    logSound (lastN 64 (ring ++ [r])) (recordAfter next) := by
  obtain ⟨-, hrun, hend, hreal, hnext⟩ := h
  have hrun' : (ring ++ [r]).IsChain fun x y => y.number = recordAfter x.number :=
    List.isChain_append.2 ⟨hrun, List.isChain_singleton r, fun x hx y hy => by
      obtain rfl : r = y := by simpa using hy
      exact hr.trans (hend x hx)⟩
  refine ⟨lastN_length_le 64 _, hrun'.drop _, fun x hx => ?_, fun x hx => ?_, recordAfter_real next hnext.1⟩
  · rw [lastN_getLast? 64 ring r (by decide)] at hx
    cases hx
    rw [hr]
  · rcases List.mem_append.1 (List.mem_of_mem_drop hx) with hx | hx
    · exact hreal x hx
    · obtain rfl : x = r := by simpa using hx
      exact hr ▸ hnext

/-! ### The logs of a state (R136, R140) -/

/-- What moves neither ORL's log nor the SST leaves the logs sound. -/
theorem logsSound.same {s t : State} (h : logsSound s)
    (hsame : t.orl.ring = s.orl.ring ∧ t.orl.next = s.orl.next ∧ t.sst = s.sst) : logsSound t := by
  obtain ⟨hring, hnext, hsst⟩ := hsame
  simpa only [logsSound, writeQueued, hring, hnext, hsst] using h

theorem logsSound.of_queued {s t : State} (h : logsSound s) (hlog : logSound t.orl.ring t.orl.next) (hstore : t.sst.store = s.sst.store)
    (hqueued : ∀ r n, writeQueued (.ring r n) t → writeQueued (.ring r n) s ∨ logSound r n) : logsSound t :=
  ⟨hlog, hstore ▸ h.2.1, fun r n hq => (hqueued r n hq).elim (h.2.2 r n) id⟩

theorem writeQueued_of_queueWrite {i j : RetItem} {s : State} (h : writeQueued j (queueWrite i s)) : j = i ∨ writeQueued j s := by
  rcases (kick_queued _ j).1 h with hf | hq
  · exact Or.inr (Or.inl hf)
  · exact (mem_insertWrite i j s.sst.queue hq).imp id Or.inr

/-- A blank part holds the retained log and an empty one. -/
theorem blank_logsSound (stage : Stage) (store : Store) (connected : Bool) (cap pulses : Nat) (pending : List Instr)
    (h : logSound store.ring store.next) : logsSound (.blank stage store connected cap pulses pending) :=
  ⟨logSound_empty, h, fun r n hq => by simp [writeQueued] at hq⟩

section
variable {s : State} (h : logsSound s)
include h

/-- The next write starts in an SST with the logs of this one. -/
theorem logsSound.kicked {x : Sst} (hstore : x.store = s.sst.store) (hflight : x.inFlight = s.sst.inFlight)
    (hqueue : x.queue = s.sst.queue) : logsSound { s with sst := x.kick } :=
  h.of_queued h.1 (by simpa using hstore) fun r n hq => by
    have hx := (kick_queued x _).1 hq
    rw [hflight, hqueue] at hx
    exact Or.inl hx

theorem queueLog_logsSound : logsSound (queueWrite (.ring s.orl.ring s.orl.next) s) :=
  h.of_queued (by simpa using h.1) (by simp) fun r n hq => by
    rcases writeQueued_of_queueWrite hq with hnew | hq
    · cases hnew
      exact Or.inr h.1
    · exact Or.inl hq

/-- A write of another item than the log. -/
theorem queueWrite_logsSound (i : RetItem) (hi : i.item ≠ 5) : logsSound (queueWrite i s) :=
  h.of_queued (by simpa using h.1) (by simp) fun r n hq => by
    rcases writeQueued_of_queueWrite hq with rfl | hq
    · exact absurd rfl hi
    · exact Or.inl hq

theorem enterRecord_logsSound (r : Record) (hr : r.number = s.orl.next) : logsSound (enterRecord r s) := by
  have hadded : logsSound (addToRing r s) := ⟨h.1.enter r hr, h.2⟩
  exact (queueLog_logsSound hadded).same (by simp [enterRecord])

theorem complete_logsSound (body : RecBody) : logsSound (complete body s) := by
  unfold complete
  split
  · exact h
  · exact enterRecord_logsSound h _ rfl

theorem completeAll_logsSound (bodies : List RecBody) : logsSound (completeAll bodies s) :=
  List.foldlRecOn bodies _ h fun _ ht b _ => complete_logsSound ht b

theorem endTest_logsSound (o : TestOutcome) (r mv : Option Nat) : logsSound (endTest o r mv s) := by
  have hended : logsSound (complete (.test o r mv) { s with bcu := s.bcu.testIdle }) := complete_logsSound (h.same (by simp)) _
  exact queueWrite_logsSound (hended.same (by simp)) _ (by simp [RetItem.item])

/-! ### SEQ's entries (spec/03 R43 to R65) -/

theorem answer_logsSound (src : Src) (res : Res) (detail : Nat) (body : Bytes) : logsSound (answer src res detail body s) :=
  h.same (by simp)

theorem answerHeldClose_logsSound (res : Res) : logsSound (answerHeldClose res s) := h.same (by simp)

theorem lockoutWrite_logsSound (u : State) : logsSound (queueWrite (lockoutItem u) s) :=
  queueWrite_logsSound h _ (by simp [lockoutItem, RetItem.item])

theorem takeHeld_logsSound : logsSound (takeHeld s) := by
  unfold takeHeld
  split <;> exact h

theorem applyGroup_logsSound (g : Nat) : logsSound (applyGroup g s) := by
  have hgroup : logsSound (applyToElements
      { s with sst := { s.sst with active := g, group := s.sst.store.groups.getD g deliveredGroup, held := none } }) := h
  have hqueued := queueWrite_logsSound (complete_logsSound hgroup (.groupChange s.sst.active g)) (.activeGroup g) (by simp [RetItem.item])
  exact hqueued.same (by simp [applyGroup])

theorem applyPending_logsSound : logsSound (applyPending s) := by
  unfold applyPending
  split
  · exact applyGroup_logsSound h _
  · exact takeHeld_logsSound h

theorem enterLockout_logsSound (c : Cause) : logsSound (enterLockout c s) := 
  applyPending_logsSound (lockoutWrite_logsSound (complete_logsSound (h.same (by simp)) _) _)

theorem enterMechFail_logsSound : logsSound (enterMechFail s) := by
  have hto : logsSound (seqTo .mechFail { s with seq := { s.seq.stopTimers with cause := none } }) := h.same (by simp)
  unfold enterMechFail
  refine applyPending_logsSound ?_
  split
  · exact lockoutWrite_logsSound hto _
  · exact hto

theorem enterReclaimByHand_logsSound : logsSound (enterReclaimByHand s) := h.same (by simp)

theorem enterClosed_logsSound : logsSound (enterClosed s) := by
  have hto : logsSound (seqTo .closed { s with seq := { s.seq.stopTimers with shots := 0, manual := false, cause := none } }) :=
    h.same (by simp)
  unfold enterClosed
  dsimp only
  split
  · exact applyPending_logsSound hto
  · exact hto

theorem setMech_logsSound (f : Bool) : logsSound (setMech f s) := by
  unfold setMech
  split
  · exact h
  · exact queueWrite_logsSound (h.same (by simp)) _ (by simp [RetItem.item])

/-! ### Pulses and their completions (spec/03 R48 to R58, spec/04 R72 to R80) -/

theorem countOperation_logsSound : logsSound (countOperation s) := by
  unfold countOperation
  split
  · exact h
  · exact queueWrite_logsSound (h.same (by simp)) _ (by simp [RetItem.item])

theorem takeInterruption_logsSound (p : PulsePart) : logsSound (takeInterruption p s) := by
  have hworn : logsSound (queueWrite (.wear ((s.orl.addWear p).form s.sst.globalPage.wearBudget).counts)
      { s with orl := (s.orl.addWear p).form s.sst.globalPage.wearBudget }) := by
    refine queueWrite_logsSound (h.same ?_) _ (by simp [RetItem.item])
    unfold Orl.addWear
    split <;> simp [Orl.form]
  unfold takeInterruption
  dsimp only
  (repeat' split)
  · exact countOperation_logsSound hworn
  · exact hworn
  · exact h

theorem handPart_logsSound (p : TripPart) : logsSound (handPart p s) := by
  have hcompleted (sp : SeqPart) (pp : PulsePart) : logsSound (completeTrip sp pp s) := complete_logsSound (h.same (by simp)) _
  unfold handPart
  split
  · exact hcompleted _ _
  · exact hcompleted _ _
  · exact h

theorem handSeqPart_logsSound : logsSound (handSeqPart s) := by
  unfold handSeqPart
  split
  · exact h
  · exact handPart_logsSound h _

theorem seqCloseCompletion_logsSound (o : PulseOutcome) : logsSound (seqCloseCompletion o s) := by
  have hfailed := complete_logsSound h (.mechFail .close)
  have hlocked := enterLockout_logsSound hfailed .mechCleared
  unfold seqCloseCompletion
  cases s.seq.state with
  | reclosing =>
    cases o with
    | done => exact h.same (by simp)
    | noMove => exact hlocked
    | cut => exact h
  | closing =>
    cases o with
    | done => exact answerHeldClose_logsSound (enterReclaimByHand_logsSound h) .ok
    | noMove => exact answerHeldClose_logsSound hlocked .mechFail
    | cut => exact h
  | tripping =>
    cases o with
    | done => exact answerHeldClose_logsSound h .ok
    | noMove => exact answerHeldClose_logsSound hfailed .mechFail
    | cut => exact answerHeldClose_logsSound h .ok
  | _ => exact h

theorem carryOut_logsSound (d : AfterTrip) : logsSound (carryOut d s) := by
  have hfailed := complete_logsSound h (.mechFail .trip)
  cases d with
  | lockout c => exact enterLockout_logsSound h c
  | dead => exact h.same (by simp [carryOut])
  | mechFail => exact enterMechFail_logsSound hfailed
  | failedAgain => exact hfailed
  | stay => exact h

theorem tripCompletion_logsSound (o : PulseOutcome) (pp : PulsePart) (partFirst : Bool) : logsSound (tripCompletion o pp partFirst s) := by
  have hpart (x : State) (hx : logsSound x) : logsSound (handPart (.pulse pp) (takeInterruption pp x)) :=
    handPart_logsSound (takeInterruption_logsSound hx pp) _
  have hseq (x : State) (hx : logsSound x) : logsSound (handSeqPart (countTrip o x)) := handSeqPart_logsSound (hx.same (by simp))
  have hdecided (d : AfterTrip) (wear : List RecBody) (x : State) (hx : logsSound x) :
      logsSound (carryOut d { completeAll wear x with seq := { (completeAll wear x).seq with trip := none } }) :=
    carryOut_logsSound ((completeAll_logsSound hx wear).same (by simp)) d
  have hended (x : State) (hx : logsSound x) : logsSound (exhaustionTripEnded x) := hx.same (by simp)
  cases partFirst <;> unfold tripCompletion <;> dsimp only <;> split
  · exact hended _ (hdecided _ _ _ (hpart _ (hseq _ h)))
  · exact hdecided _ _ _ (hpart _ (hseq _ h))
  · exact hended _ (hdecided _ _ _ (hseq _ (hpart _ h)))
  · exact hdecided _ _ _ (hseq _ (hpart _ h))

theorem endTrip_logsSound (o : PulseOutcome) (pulse : Nat) (fin : PulseEnd) : logsSound (endTrip o pulse fin s) := by
  have hidle : logsSound { s with act := s.act.toIdle } := h
  unfold endTrip
  refine tripCompletion_logsSound ?_ _ _ _
  split
  · exact setMech_logsSound hidle true
  · exact hidle

theorem endHeldTrip_logsSound (fin : PulseEnd) : logsSound (endHeldTrip fin s) := tripCompletion_logsSound (h.same (by simp)) _ _ _

theorem handCloseRecord_logsSound (b : RecBody) (o : PulseOutcome) : logsSound (handCloseRecord b o s) := by
  have hdone := complete_logsSound h b
  unfold handCloseRecord
  dsimp only
  split
  · exact countOperation_logsSound hdone
  · exact hdone

theorem endClose_logsSound (o : PulseOutcome) (pulse : Nat) (fin : PulseEnd) : logsSound (endClose o pulse fin s) := by
  have hidle : logsSound (if o = .noMove then setMech true { s with act := s.act.toIdle } else { s with act := s.act.toIdle }) := by
    split
    · exact setMech_logsSound (h.same (by simp)) true
    · exact h
  unfold endClose
  dsimp only
  split
  · exact seqCloseCompletion_logsSound (handCloseRecord_logsSound hidle _ o) o
  · exact handCloseRecord_logsSound (seqCloseCompletion_logsSound hidle o) _ o

theorem actTrip_logsSound : logsSound (actTrip s) := by
  have hcut : logsSound (cutClose s) := seqCloseCompletion_logsSound (handCloseRecord_logsSound (h.same (by simp)) _ _) _
  unfold actTrip
  split
  · exact h.same (by simp)
  · exact hcut.same (by simp)
  · exact h
  · exact h

/-! ### SEQ (spec/03 R44 to R66) -/

theorem seqTrip_logsSound (r : TripReq) : logsSound (seqTrip r s) := by
  have hnow : logsSound (tripNow r s) := actTrip_logsSound (h.same (by simp))
  have hattempt : logsSound (tripAttempt r s) := by
    unfold tripAttempt
    split
    · exact actTrip_logsSound (h.same (by simp))
    · exact h
  unfold seqTrip
  cases s.seq.state with
  | tripping => exact h
  | lockout => exact hattempt
  | mechFail => exact hattempt
  | _ => exact hnow

theorem seqOpen_logsSound (a : Authority) (src : Src) : logsSound (seqOpen a src s) := by
  have htrip := seqTrip_logsSound h (.command a)
  have hlock := enterLockout_logsSound h .commandOpen
  unfold seqOpen
  cases s.seq.state with
  | deadTime => exact answer_logsSound hlock _ _ _ _
  | recloseHold => exact answer_logsSound hlock _ _ _ _
  | lockout =>
    dsimp only
    split
    · exact answer_logsSound h _ _ _ _
    · exact answer_logsSound htrip _ _ _ _
  | _ => exact answer_logsSound htrip _ _ _ _

theorem seqClose_logsSound (a : Authority) (src : Src) : logsSound (seqClose a src s) := by
  rcases seqClose_cases a src s with ⟨res, hrefused⟩ | ⟨-, hclose⟩
  · exact hrefused ▸ h.same (by simp)
  · exact hclose ▸ lockoutWrite_logsSound (h.same (by simp)) _

theorem autoRefused_logsSound (r : Res) : logsSound (autoRefused r s) := by
  unfold autoRefused
  split
  · split
    · exact h
    · exact h.same (by simp)
  · exact enterLockout_logsSound h _
  · exact enterLockout_logsSound h _
  · exact enterLockout_logsSound h _
  · exact enterLockout_logsSound h _
  · exact enterLockout_logsSound h _
  · exact enterReclaimByHand_logsSound h
  · exact h

theorem deadEnd_logsSound (d : DeadEnd) : logsSound (deadEnd d s) := by
  cases d with
  | lockout c => exact enterLockout_logsSound h c
  | holdSource => exact h.same (by simp [deadEnd])
  | close =>
    change logsSound (autoClose s)
    unfold autoClose
    split
    · exact h.same (by simp)
    · exact autoRefused_logsSound h _

theorem seqSourceLive_logsSound : logsSound (seqSourceLive s) := by
  unfold seqSourceLive
  split
  · exact deadEnd_logsSound h _
  · exact h

theorem seqEnergyReady_logsSound : logsSound (seqEnergyReady s) := by
  unfold seqEnergyReady
  split
  · exact deadEnd_logsSound h _
  · exact h

theorem holdEnd_logsSound : logsSound (holdEnd s) := by
  unfold holdEnd
  split
  · exact enterLockout_logsSound h _
  · exact enterLockout_logsSound h _
  · exact h

theorem seqDeparture_logsSound : logsSound (seqDeparture s) := by
  unfold seqDeparture
  split
  · exact complete_logsSound (h.same (by simp)) _
  · exact h

theorem seqTagAccepted_logsSound : logsSound (seqTagAccepted s) := by
  unfold seqTagAccepted
  split
  · exact enterLockout_logsSound h _
  · exact h

theorem seqPosition_logsSound (p : Position) : logsSound (seqPosition p s) := by
  have hopened := enterLockout_logsSound h .externalOpen
  have hunasked : logsSound (if s.seq.trip = none then enterLockout .externalOpen s else s) := by
    split
    · exact hopened
    · exact h
  unfold seqPosition
  split
  · exact hunasked
  · exact hunasked
  · exact enterReclaimByHand_logsSound h
  · exact enterReclaimByHand_logsSound h
  · exact hopened
  · exact hopened
  · split
    · exact lockoutWrite_logsSound (h.same (by simp)) _
    · exact h
  · exact h

theorem seqSelect_logsSound (g : Nat) (src : Src) : logsSound (seqSelect g src s) := by
  unfold seqSelect
  (repeat' split)
  · exact answer_logsSound (h.same (by simp)) _ _ _ _
  · exact answer_logsSound (applyGroup_logsSound h g) _ _ _ _
  · exact answer_logsSound (h.same (by simp)) _ _ _ _

theorem takeEvent_logsSound (e : SeqEvent) : logsSound (takeEvent e s) := by
  cases e with
  | trip r => exact seqTrip_logsSound h r
  | departure => exact seqDeparture_logsSound h
  | tagAccepted => exact seqTagAccepted_logsSound h
  | energyReady => exact seqEnergyReady_logsSound h
  | position p => exact seqPosition_logsSound h p
  | openCmd a src => exact seqOpen_logsSound h a src
  | closeCmd a src => exact seqClose_logsSound h a src
  | select g src => exact seqSelect_logsSound h g src

theorem seqEvent_logsSound (e : SeqEvent) : logsSound (seqEvent e s) := by
  unfold seqEvent
  split
  · exact takeEvent_logsSound h e
  · exact h

theorem mechFailCleared_logsSound : logsSound (mechFailCleared s).1 := by
  have hclear := setMech_logsSound h false
  unfold mechFailCleared
  (repeat' split)
  · exact h
  · exact enterClosed_logsSound (hclear.same (by simp))
  · exact enterLockout_logsSound hclear _
  · exact hclear

end
end Sys2Proof.Machine
end

section
/-! SUPPORT and PROOFS. The operation log stays a run of record numbers through every command (spec/07 R136, R140; spec/09 R178 to R180);
O42. -/

namespace Sys2Proof.Machine

section
variable {s : State} (h : logsSound s)
include h

/-! ### The update, tags and the battery (spec/02, spec/05, spec/06) -/

theorem magnitudeUpdate_logsSound (block : List SampleSet) : logsSound (magnitudeUpdate block s) := by
  have captured (x : State) (hx : logsSound x) : logsSound (captureFault x) := by
    unfold captureFault
    split <;> exact hx
  have requested (cause : Option Element) (x : State) (hx : logsSound x) : logsSound (requestTrip cause x) := by
    unfold requestTrip
    split
    · exact seqEvent_logsSound (captured x hx) _
    · exact hx
  have updated (x : State) (hx : logsSound x) : logsSound (peuUpdate x) := by
    have htrip := requested ((peuInputs x).cause x.peu) { x with peu := (peuInputs x).update x.peu } hx
    unfold peuUpdate
    dsimp only
    split
    · exact seqEvent_logsSound htrip _
    · exact htrip
  have applied (x : State) (hx : logsSound x) : logsSound (applyWhenQuiet x) := by
    unfold applyWhenQuiet
    split
    · exact applyPending_logsSound hx
    · exact hx
  have recorded (old new : LineState) (x : State) (hx : logsSound x) : logsSound (sourceRecord old new x) := by
    unfold sourceRecord
    split
    · exact complete_logsSound hx _
    · exact complete_logsSound hx _
    · exact hx
  have lined (x : State) (hx : logsSound x) : logsSound (lineUpdate x) := by
    have hrecord := recorded x.lsu.source.line x.lsu.qualifySides.source.line { x with lsu := x.lsu.qualifySides } hx
    unfold lineUpdate
    dsimp only
    split
    · exact seqSourceLive_logsSound hrecord
    · exact hrecord
  exact lined _ (applied _ (updated _ (h.same (by simp))))

theorem acceptTag_logsSound (t : TagTable) (x : Tag) : logsSound (acceptTag t x s) :=
  queueWrite_logsSound (complete_logsSound (seqEvent_logsSound (h.same (by simp)) _) _) _ (by simp [RetItem.item])

theorem placeTag_logsSound (a : Authority) (crew mode expiry : Nat) : logsSound (placeTag a crew mode expiry s).1 := by
  rcases placeTag_cases a crew mode expiry s with hsame | ⟨-, x, -, hrefreshed⟩ | ⟨-, -, -, hstored⟩
  · exact hsame.symm ▸ h
  · exact hrefreshed ▸ acceptTag_logsSound h _ _
  · exact hstored ▸ acceptTag_logsSound h _ _

theorem removeTag_logsSound (x : Tag) (c : RemovalCause) (a : Option Authority) : logsSound (removeTag x c a s) :=
  queueWrite_logsSound (complete_logsSound (h.same (by simp)) _) _ (by simp [RetItem.item])

theorem tagRemove_logsSound (a : Authority) (number crew : Nat) : logsSound (tagRemove a number crew s).1 := by
  unfold tagRemove
  (repeat' split)
  · exact h
  · exact h
  · exact h
  · exact h
  · exact removeTag_logsSound h _ _ _

theorem tagClear_logsSound (a : Authority) (number : Nat) : logsSound (tagClear a number s).1 := by
  unfold tagClear
  (repeat' split)
  · exact h
  · exact h
  · exact h
  · exact removeTag_logsSound h _ _ _

theorem tagMinute_logsSound : logsSound (tagMinute s) := by
  have hexpired (x : State) (hx : logsSound x) : logsSound (expireTags x) :=
    List.foldlRecOn _ _ hx fun _ ht y _ => removeTag_logsSound ht y .expired none
  have htaken := hexpired { s with tag := { table := s.tag.table.minute, minutes := (s.tag.minutes + 1) % 60 } } h
  unfold tagMinute
  dsimp only
  split
  · exact queueWrite_logsSound htaken _ (by simp [RetItem.item])
  · exact htaken

theorem makeStatus_logsSound : logsSound (makeStatus s) := by
  unfold makeStatus
  split <;> exact h

theorem statusRequest_logsSound : logsSound (statusRequest s) := by
  unfold statusRequest
  split
  · exact h
  · exact makeStatus_logsSound h

theorem completeMinute_logsSound : logsSound (completeMinute s) := by
  have hbcu (x : State) (hx : logsSound x) : logsSound (bcuMinute x) := hx.same (by simp)
  have hrcc (x : State) (hx : logsSound x) : logsSound (rccMinute x) := by
    unfold rccMinute
    (repeat' split)
    · exact hx
    · exact statusRequest_logsSound (hx.same (by simp))
    · exact hx
  exact hrcc _ (hbcu _ (tagMinute_logsSound (h.same (by simp [advanceTime]))))

theorem runSecond_logsSound : logsSound (runSecond s) := by
  unfold runSecond
  split
  · exact completeMinute_logsSound h
  · exact h

theorem endTestByLevel_logsSound (r : TestReading) : logsSound (endTestByLevel r s) := by
  unfold endTestByLevel
  split
  · exact endTest_logsSound h _ _ _
  · exact endTest_logsSound h _ _ _
  · exact endTest_logsSound h _ _ _
  · exact h

theorem levelTaken_logsSound (l : Level) : logsSound (levelTaken l s) := by
  have silenced (x : State) (hx : logsSound x) : logsSound (if l = .exhausted then goSilent x else x) := by
    split
    · exact hx.same (by simp)
    · exact hx
  exact silenced _ (queueWrite_logsSound (complete_logsSound (h.same (by simp)) _) _ (by simp [RetItem.item]))

theorem battMeasure_logsSound (m : BattMeas) (r : TestReading) : logsSound (battMeasure m r s) := by
  have counted (x : State) (hx : logsSound x) : logsSound (countMeasurement x) := by
    unfold countMeasurement
    dsimp only
    split
    · exact queueWrite_logsSound (hx.same (by simp)) _ (by simp [RetItem.item])
    · exact hx
  have shut (x : State) (hx : logsSound x) : logsSound (beginShutdown x) := by
    unfold beginShutdown
    split
    · exact seqEvent_logsSound (hx.same (by simp)) _
    · exact hx
  have levelled (l : Level) (x : State) (hx : logsSound x) : logsSound (changeLevel l r x) := by
    have htaken := levelTaken_logsSound hx l
    have htested : logsSound (if x.bcu.level = .normal then endTestByLevel r (levelTaken l x) else levelTaken l x) := by
      split
      · exact endTestByLevel_logsSound htaken r
      · exact htaken
    rw [changeLevel_eq]
    dsimp only
    split
    · exact shut _ htested
    · exact htested
  have hcharged : logsSound (s.charged m) := (counted (measureCharge m s) h).same (by simp [State.charged])
  have hgraded : logsSound (if (s.charged m).bcu.levelNow = (s.charged m).bcu.level then s.charged m
      else changeLevel (s.charged m).bcu.levelNow r (s.charged m)) := by
    split
    · exact hcharged
    · exact levelled _ _ hcharged
  rw [battMeasure_eq]
  exact hgraded.same (by simp)

theorem cancelTest_logsSound : logsSound (cancelTest s) := by
  unfold cancelTest
  split
  · exact h
  · exact endTest_logsSound h _ _ _

/-! ### Settings (spec/09 R173 to R178) -/

theorem formWear_logsSound : logsSound (formWear s) := completeAll_logsSound (h.same (by simp [Orl.form])) _

theorem resetWear_logsSound (p : Phase) : logsSound (resetWear p s) := by
  have hreset : logsSound { s with orl := s.orl.resetPhase p } := by cases p <;> exact h
  exact formWear_logsSound (queueWrite_logsSound hreset _ (by simp [RetItem.item]))

theorem stageOpen_logsSound (kind number : Nat) : logsSound (stageOpen kind number s).1 := by
  unfold stageOpen
  split <;> exact h

theorem stageLoad_logsSound (value : Int) (advance : Nat) : logsSound (stageLoad value advance s).1 := by
  unfold stageLoad
  (repeat' split) <;> exact h

theorem stageSeek_logsSound (f : Nat) : logsSound (stageSeek f s).1 := by
  unfold stageSeek
  (repeat' split) <;> exact h

theorem serveCommit_logsSound : logsSound (serveCommit s) := by
  unfold serveCommit beginCommit
  (repeat' split) <;> exact h

theorem replaceWorking_logsSound (t : Target) (p : Page) : logsSound (replaceWorking t p s) := by
  have hglobal (old : Page) (x : State) (hx : logsSound x) : logsSound (globalEffects old p x) := by
    have hcapacity (y : State) (hy : logsSound y) : logsSound (capacityEffect old p y) := by
      unfold capacityEffect rescaleCharge
      split
      · exact queueWrite_logsSound (hy.same (by simp)) _ (by simp [RetItem.item])
      · exact hy
    have hwear (y : State) (hy : logsSound y) : logsSound (wearBudgetEffect old p y) := by
      unfold wearBudgetEffect
      split
      · exact formWear_logsSound hy
      · exact hy
    have hrescaled := hcapacity { x with lsu := lsuGlobal old p x.lsu } hx
    have hworn := hwear (testIntervalEffect old p (capacityEffect old p { x with lsu := lsuGlobal old p x.lsu }))
      (hrescaled.same (by simp))
    exact hworn.same (by simp [globalEffects_eq])
  cases t with
  | group n =>
    unfold replaceWorking
    dsimp only
    (repeat' split) <;> exact h
  | global => exact hglobal _ { s with sst := { s.sst with globalPage := p } } h
  | curve n => exact h

theorem completeCommit_logsSound (b : StageBuf) (reply : Bool) : logsSound (completeCommit b reply s) := by
  have hstored (p : Page) : logsSound { s with sst := { s.sst with store := s.sst.store.withPage b.target p } } := by
    cases b.target <;> exact h
  have hworking := replaceWorking_logsSound (hstored (storedPage b.target b.page)) b.target (storedPage b.target b.page)
  have hended : logsSound (commitEnded b reply s) := by
    unfold commitEnded
    dsimp only
    split <;> exact hworking.kicked rfl rfl rfl
  change logsSound (releaseSelections b.target s.sst.waiting (commitEnded b reply s))
  unfold releaseSelections
  split
  · exact List.foldlRecOn _ _ hended fun _ ht src _ => seqEvent_logsSound ht _
  · exact hended

theorem selectGroup_logsSound (g : Nat) (src : Src) : logsSound (selectGroup g src s) := by
  unfold selectGroup
  (repeat' split)
  · exact answer_logsSound h _ _ _ _
  · exact h
  · exact seqEvent_logsSound h _

/-! ### Radio commands and host requests (spec/08 R151, R162; spec/10 R183, R184) -/

theorem hostReply_logsSound (res : Res) (body : Bytes) : logsSound (hostReply res body s) := h

theorem radioResult_logsSound (id : Nat) (res : Res) (detail : Nat) : logsSound (radioResult id res detail s) := h

theorem ownCommand_logsSound (c : RadioCmd) : logsSound (ownCommand c s) := by
  unfold ownCommand
  split
  · exact seqEvent_logsSound h _
  · exact seqEvent_logsSound h _
  · exact radioResult_logsSound (placeTag_logsSound h _ _ _ _) _ _ _
  · exact radioResult_logsSound (tagRemove_logsSound h _ _ _) _ _ _
  · exact selectGroup_logsSound h _ _
  · exact radioResult_logsSound (statusRequest_logsSound h) _ _ _
  · exact h

theorem takeBeacon_logsSound (b : Beacon) : logsSound (takeBeacon b s) := by
  have taken (c : RadioCmd) (x : State) (hx : logsSound x) : logsSound (takeCommand c x) := by
    unfold takeCommand
    (repeat' split)
    · exact hx
    · exact hx.same (by simp)
    · exact hx
    · exact ownCommand_logsSound (s := { x with rcc := { x.rcc with lastId := some c.id, stored := none } }) hx c
  have timed (x : State) (hx : logsSound x) : logsSound (beaconTime b.time x) := by
    unfold beaconTime
    split <;> exact hx
  have hresolved := timed { s with rcc := s.rcc.sync b.frame } h
  unfold takeBeacon takeCommands
  dsimp only
  split
  · exact taken _ _ hresolved
  · exact hresolved

theorem serve_logsSound (a : Authority) (r : Request) : logsSound (serve a r s) := by
  cases r with
  | readState sect start =>
    change logsSound (serveReadState sect start s)
    unfold serveReadState
    split <;> exact h
  | openBreaker => exact seqEvent_logsSound h _
  | closeBreaker => exact seqEvent_logsSound h _
  | mechFailClear =>
    change logsSound (serveMechFailClear a s)
    unfold serveMechFailClear
    split
    · exact h
    · exact hostReply_logsSound (mechFailCleared_logsSound h) _ _
  | tagPlace crew mode expiry => exact hostReply_logsSound (placeTag_logsSound h a crew mode expiry) _ _
  | tagRemove number crew => exact hostReply_logsSound (tagRemove_logsSound h a number crew) _ _
  | tagClear number => exact hostReply_logsSound (tagClear_logsSound h a number) _ _
  | wearReset phase =>
    change logsSound (serveWearReset a phase s)
    unfold serveWearReset
    (repeat' split)
    · exact h
    · exact h
    · exact hostReply_logsSound (resetWear_logsSound h _) _ _
  | testStart =>
    change logsSound (serveTestStart s)
    unfold serveTestStart
    split <;> exact h
  | testCancel => exact hostReply_logsSound (cancelTest_logsSound h) _ _
  | stageOpen kind number => exact hostReply_logsSound (stageOpen_logsSound h kind number) _ _
  | stageLoad value advance => exact hostReply_logsSound (stageLoad_logsSound h value advance) _ _
  | stageSeek f => exact hostReply_logsSound (stageSeek_logsSound h f) _ _
  | commit => exact serveCommit_logsSound h
  | groupSelect g => exact selectGroup_logsSound h g .host
  | restart =>
    change logsSound (serveRestart s)
    unfold serveRestart
    split <;> exact h
  | _ => exact h

theorem pumpFor_logsSound (n : Nat) : logsSound (pumpFor n s) := by
  have served (x : State) (hx : logsSound x) : logsSound (serveNext x) := by
    unfold serveNext
    split
    · exact hx
    · exact serve_logsSound (hx.same (by simp)) _ _
  induction n generalizing s with
  | zero => exact h
  | succ n ih =>
    unfold pumpFor
    split
    · exact ih (served s h)
    · exact h

theorem pump_logsSound : logsSound (pump s) := pumpFor_logsSound h 5

theorem receive_logsSound (f : RxFrame) : logsSound (receive f s) := by
  unfold receive
  split
  · exact h
  · exact pump_logsSound (h.same (by simp))

theorem feed_logsSound (bytes : Bytes) : logsSound (feed bytes s) := by
  have received (n : Nat) (bs : Bytes) (x : State) (hx : logsSound x) : logsSound (receiveBytes n bs x) := by
    induction n generalizing bs x with
    | zero => exact hx
    | succ n ih =>
      unfold receiveBytes
      split
      · exact ih _ x hx
      · exact hx
      · exact ih _ _ (receive_logsSound hx _)
  unfold feed
  split
  · exact h
  · exact received _ _ s h

/-! ### Contacts, the capacitor and the start reading (spec/04 R69, R82; spec/07 R140) -/

theorem startReading_logsSound (k : StartKind) (p : Position) : logsSound (startReading k p s) := by
  have decided (x : State) (hx : logsSound x) : logsSound (decideStart p x) := lockoutWrite_logsSound (hx.same (by simp)) _
  have released (w : Held) (x : State) (hx : logsSound x) : logsSound (release w x) := by
    cases w with
    | record body time valid => exact enterRecord_logsSound hx _ rfl
    | status => exact makeStatus_logsSound hx
  have announced (x : State) (hx : logsSound x) : logsSound (announceStart k x) := by
    refine List.foldlRecOn _ _ (enterRecord_logsSound ?_ _ rfl) fun _ ht w _ => released w _ ht
    exact hx
  have taken (x : State) (hx : logsSound x) : logsSound (takeHeldEvents x) := by
    refine List.foldlRecOn _ _ ?_ fun _ ht e _ => takeEvent_logsSound ht e
    exact hx
  exact pump_logsSound (taken _ (announced _ (decided { s with act := { s.act with position := p, startRead := true } } h)))

theorem changePosition_logsSound (p : Position) (fin : PulseEnd) : logsSound (changePosition p fin s) := by
  have ended (x : State) (hx : logsSound x) : logsSound (endByPosition p fin x) := by
    unfold endByPosition
    split
    · exact endTrip_logsSound hx _ _ _
    · exact endHeldTrip_logsSound hx _
    · exact endClose_logsSound hx _ _ _
    · exact hx
  exact seqEvent_logsSound (ended { s with act := { s.act with position := p } } h) _

theorem contactRead_logsSound (c : Contact) (x : ContactState) (ms : Nat) (fin : PulseEnd) : logsSound (contactRead c x ms fin s) := by
  have taken (p : Position) (y : State) (hy : logsSound y) : logsSound (takePosition p fin y) := by
    unfold takePosition
    (repeat' split)
    · exact startReading_logsSound hy _ _
    · exact hy
    · exact pump_logsSound (changePosition_logsSound hy _ _)
  unfold contactRead
  dsimp only
  split
  · exact taken _ _ (h.same (by simp))
  · exact h

theorem measureCap_logsSound (volts : Nat) : logsSound (measureCap volts s) := by
  have spent (x : State) (hx : logsSound x) : logsSound (endSpent (clampVolts volts) x) := by
    unfold endSpent
    split
    · exact endTrip_logsSound hx _ _ _
    · exact hx
  have released (x : State) (hx : logsSound x) : logsSound (releaseHeld x) := by
    unfold releaseHeld
    split <;> exact hx
  have reviewed (before : Bool) (x : State) (hx : logsSound x) : logsSound (rechargeReview before x) := by
    unfold rechargeReview
    (repeat' split)
    · exact hx
    · exact hx.same (by simp)
    · exact hx
  have hreviewed := reviewed s.act.rechargeDemand _ (released _ (spent (s.measured volts) h))
  rw [measureCap_eq]
  dsimp only
  split
  · exact seqEvent_logsSound hreviewed _
  · exact hreviewed

/-! ### Starts, stops and writes (spec/09 R178 to R180) -/

/-- The store with an item of the queue written holds a sound log. -/
theorem withItem_logSound (i : RetItem) (hi : writeQueued i s) : logSound (s.sst.store.withItem i).ring (s.sst.store.withItem i).next := by
  cases i with
  | ring r n => exact h.2.2 r n hi
  | _ => exact h.2.1

theorem written_logSound : logSound s.sst.written.ring s.sst.written.next := by
  unfold Sst.written
  split
  · exact withItem_logSound h _ (Or.inl ‹_›)
  · exact h.2.1

theorem completeWrite_logsSound (i : RetItem) (hi : s.sst.inFlight = some i) : logsSound (completeWrite i s) := by
  have hwritten : logsSound
      { s with sst := { s.sst with store := s.sst.store.withItem i, inFlight := none, staging := s.sst.staging.begun } } :=
    ⟨h.1, withItem_logSound h i (Or.inl hi), fun r n hq => h.2.2 r n (Or.inr (hq.resolve_left (by simp)))⟩
  exact hwritten.kicked rfl rfl rfl

theorem coldStart_logsSound (land : Bool) : logsSound (coldStart land s) := by
  have hrun : logsSound (if s.sst.lost then runOutPulse s else s) := by
    unfold runOutPulse
    (repeat' split)
    · exact endTrip_logsSound h _ _ _
    · exact endClose_logsSound h _ _ _
    · exact h
    · exact h
    · exact h
  have paged (x : Sst) (st : Store) (hst : logSound st.ring st.next) : logSound (x.paged st).ring (x.paged st).next := by
    unfold Sst.paged
    split
    · rename_i b _ _
      cases b.target <;> exact hst
    · exact hst
  have landed (x : State) (hx : logsSound x) : logSound (x.sst.landed land).ring (x.sst.landed land).next := by
    have hst : logSound (if land || x.sst.lost then x.sst.written else x.sst.store).ring
        (if land || x.sst.lost then x.sst.written else x.sst.store).next := by
      split
      · exact written_logSound hx
      · exact hx.2.1
    unfold Sst.landed
    dsimp only
    split
    · exact paged _ _ hst
    · exact hst
  exact blank_logsSound _ _ _ _ _ _ (landed _ hrun)

theorem warmStart_logsSound : logsSound (warmStart s) := 
  ⟨h.1, h.2.1, fun r n hq => by simp [writeQueued, warmStart] at hq⟩

theorem startBlocks_logsSound (k : StartKind) (inp : StartInputs) : logsSound (startBlocks k inp s) := by
  refine ⟨?_, h.2.1, fun r n hq => by simp [writeQueued, startBlocks] at hq⟩
  cases k with
  | cold => exact h.2.1
  | warm => exact h.1

/-! ### The commands -/

theorem exec_logsSound (c : Instr) (t : State) (ht : exec c s = .next t) : logsSound t := by
  have happened {can : Bool} {after : State} (hx : happens can after s = .next t) (ha : logsSound after) : logsSound t :=
    happens_keeps h hx fun _ => ha
  have updated {can : Bool} {block : List SampleSet} (hx : updateWhen can block s = .next t) : logsSound t := by
    unfold updateWhen at hx
    split at hx
    · refine happened hx ?_
      split
      · exact pump_logsSound (magnitudeUpdate_logsSound h block)
      · exact h
    · cases hx
  have measured {can : Bool} {m : BattMeas} {r : TestReading} (hx : measureWhen can m r s = .next t) : logsSound t := by
    refine happened hx ?_
    split
    · exact pump_logsSound (battMeasure_logsSound h m r)
    · exact h
  have minute {can : Bool} (hx : happens can (completeMinute s) s = .next t) : logsSound t :=
    happened hx (completeMinute_logsSound h)
  have received {f : RxFrame} (hx : (Host.Outcome.next (receive f s) : Result) = .next t) : logsSound t := by
    cases hx
    exact receive_logsSound h f
  cases c with
  | coldStart => cases ht; exact coldStart_logsSound h _
  | startDelayEnd =>
    change execStartDelayEnd _ s = _ at ht
    unfold execStartDelayEnd at ht
    split at ht <;> cases ht
    · exact startBlocks_logsSound h _ _
    all_goals exact h
  | warmStart => exact happened ht (warmStart_logsSound h)
  | supplyLoss => exact happened ht h
  | holdUpEnd => exact happened ht (blank_logsSound _ _ _ _ _ _ (written_logSound h))
  | magnitudeUpdate => exact updated ht
  | liveQualified => exact updated ht
  | deadQualified => exact updated ht
  | elementOperate => exact updated ht
  | deadTimerExpiry => exact happened ht (deadEnd_logsSound (h.same (by simp)) _)
  | holdTimerExpiry => exact happened ht (holdEnd_logsSound h)
  | reclaimTimerExpiry => exact happened ht (enterClosed_logsSound h)
  | contactDebounced => exact happened ht (contactRead_logsSound h _ _ _ _)
  | startReadingTimeout =>
    change execStartReadingTimeout s = _ at ht
    unfold execStartReadingTimeout at ht
    split at ht <;> cases ht
    · exact startReading_logsSound h _ _
    all_goals exact h
  | capacitorMeasurement => exact happened ht (measureCap_logsSound h _)
  | tripPulseTimeout => exact happened ht (pump_logsSound (endTrip_logsSound h _ _ _))
  | closePulseTimeout => exact happened ht (pump_logsSound (endClose_logsSound h _ _ _))
  | minuteEvent => exact minute ht
  | tagExpiry => exact minute ht
  | tagHourlyWrite => exact minute ht
  | batteryMeasurement => exact measured ht
  | absorbTimeLimit => exact measured ht
  | floatLowRunLimit => exact measured ht
  | faultClearRunComplete => exact measured ht
  | resyncRunComplete => exact measured ht
  | chargeCountWrite => exact measured ht
  | tripWaitTimeout => exact happened ht h
  | partStop => exact happened ht (blank_logsSound _ _ _ _ _ _ h.2.1)
  | scheduledTestDue => exact minute ht
  | settlingComplete => exact happened ht h
  | loadTestComplete => exact happened ht (endTest_logsSound (h.same (by simp)) _ _ _)
  | testAbandonTimeout => exact happened ht (endTest_logsSound h _ _ _)
  | radioPacketReceived bytes =>
    change execRadioPacketReceived bytes s = _ at ht
    unfold execRadioPacketReceived at ht
    split at ht
    · exact happened ht (pump_logsSound (takeBeacon_logsSound h _))
    · cases ht; exact h
  | beaconMissCheck => exact happened ht h
  | ownSlotStart => exact happened ht (h.same (by simp))
  | radioTransmitEnd => cases ht; exact h
  | statusIntervalDue => exact minute ht
  | commitComplete =>
    change execCommitComplete s = _ at ht
    unfold execCommitComplete at ht
    split at ht <;> cases ht
    · exact pump_logsSound (completeCommit_logsSound h _ _)
    all_goals exact h
  | retainedWriteComplete =>
    change execRetainedWriteComplete s = _ at ht
    unfold execRetainedWriteComplete at ht
    split at ht <;> cases ht
    · exact completeWrite_logsSound h _ ‹_›
    · exact h
  | hostFrameReceived => cases ht; exact feed_logsSound h _
  | frameByteTimeout => cases ht; exact h
  | keySwitchDebounced => exact happened ht h
  | hostFrameTransmitted =>
    change execHostFrameTransmitted s = _ at ht
    unfold execHostFrameTransmitted at ht
    split at ht <;> cases ht <;> exact h
  | timeBaseSecond =>
    change execTimeBaseSecond s = _ at ht
    unfold execTimeBaseSecond at ht
    split at ht <;> cases ht
    · exact runSecond_logsSound h
    · exact runSecond_logsSound h
    all_goals exact h
  | _ => exact received ht

theorem tick_logsSound : logsSound (tick s) := by
  unfold tick
  dsimp only
  split <;> exact h

end

/-- Settles O42: every record of a step enters at the end of the running log and the log is queued as it then stands, and a start takes a
log from the store. -/
theorem operationLogStaysARun : Obligations.OperationLogStaysARun := by
  intro s t h ht
  unfold step at ht
  split at ht
  · rename_i c rest _
    exact exec_logsSound (s := s.withPending rest) h c t ht
  · unfold idle at ht
    split at ht
    · exact exec_logsSound h _ t ht
    · cases ht
      exact tick_logsSound h

end Sys2Proof.Machine
end

section
/-! SUPPORT and PROOFS. The time base (spec/07 R145, R146): a second of running time, a setting of the time, and the second count through
every command; O39. -/

namespace Sys2Proof.Machine

/-! ### The time and its flag beside records (R134, R145) -/

/-- A record reads the time base and leaves it alone. -/
@[simp] theorem complete_clock (body : RecBody) (s : State) :
    (complete body s).orl.time = s.orl.time ∧ (complete body s).orl.valid = s.orl.valid := by
  unfold complete
  split
  · simp
  · simp [completeNow, enterRecord, addToRing]

@[simp] theorem tagMinute_clock (s : State) : (tagMinute s).orl.time = s.orl.time ∧ (tagMinute s).orl.valid = s.orl.valid := by
  have hexpired (x : State) : (expireTags x).orl.time = x.orl.time ∧ (expireTags x).orl.valid = x.orl.valid :=
    List.foldlRecOn (motive := fun y : State => y.orl.time = x.orl.time ∧ y.orl.valid = x.orl.valid) _ _ ⟨rfl, rfl⟩
      fun y hy z _ => by simpa [removeTag] using hy
  simp only [tagMinute]
  split <;> simp [hexpired]

@[simp] theorem rccMinute_clock (s : State) : (rccMinute s).orl.time = s.orl.time ∧ (rccMinute s).orl.valid = s.orl.valid := by
  unfold rccMinute statusRequest
  (repeat' split) <;> simp

/-! ### A second of running time (R145) -/

theorem advanceTime_time (n : Nat) (s : State) (h : s.orl.time ≤ 4294967295) :
    (advanceTime n s).orl.time = min 4294967295 (s.orl.time + n) := by
  have hmax : max s.orl.time 4294967295 = 4294967295 := max_eq_right h
  simp only [advanceTime, timeTop, hmax]
  split_ifs <;> omega

theorem completeMinute_clock (s : State) :
    (completeMinute s).orl.time = (advanceTime (60 - s.orl.sec) s).orl.time ∧ (completeMinute s).orl.valid = s.orl.valid := by
  have heq : completeMinute s = rccMinute (bcuMinute (tagMinute s.minuteEnded)) := rfl
  simp [heq, State.minuteEnded, advanceTime]

/-- A schedule countdown above 1 loses the minute (spec/06 R126). -/
theorem completeMinute_countdown (s : State) (n : Nat) (h : s.bcu.countdown = some (n + 2)) :
    (completeMinute s).bcu.countdown = some (n + 1) := by
  have heq : completeMinute s = rccMinute (bcuMinute (tagMinute s.minuteEnded)) := rfl
  simp [heq, bcuMinute, State.minuteEnded, h]

theorem exec_timeBaseSecond (s : State) (hs : s.stage.started = true) : exec .timeBaseSecond s = .next (runSecond s) := by
  change execTimeBaseSecond s = _
  unfold execTimeBaseSecond
  cases hstage : s.stage with
  | starting k => rfl
  | running => rfl
  | stopped => simp [hstage, Stage.started] at hs
  | startDelay k => simp [hstage, Stage.started] at hs

/-- Before the 60th second the time and the second count move alone. -/
theorem runSecond_short (s : State) (h : s.orl.sec < 59) :
    runSecond s = { s with orl := { s.orl with time := (advanceTime 1 s).orl.time, sec := s.orl.sec + 1 } } :=
  if_neg (by omega)

theorem runSecond_full (s : State) (h : s.orl.sec = 59) : runSecond s = completeMinute s := if_pos h.ge

theorem secondPasses (s : State) (hs : s.stage.started = true) (hsec : s.orl.sec ≤ 59) (htime : s.orl.time ≤ 4294967295) :
    ∃ t, exec .timeBaseSecond s = .next t ∧ t.orl.time = min 4294967295 (s.orl.time + 1) ∧ t.orl.valid = s.orl.valid ∧
      (s.orl.sec < 59 → t.orl.sec = s.orl.sec + 1 ∧ t.tag = s.tag ∧ t.bcu = s.bcu ∧ t.rcc = s.rcc) ∧
      (s.orl.sec = 59 → t.orl.sec = 0 ∧ ∀ n, s.bcu.countdown = some (n + 2) → t.bcu.countdown = some (n + 1)) := by
  refine ⟨runSecond s, exec_timeBaseSecond s hs, ?_⟩
  rcases Nat.lt_or_eq_of_le hsec with hshort | hfull
  · rw [runSecond_short s hshort]
    exact ⟨advanceTime_time 1 s htime, rfl, fun _ => ⟨rfl, rfl, rfl, rfl⟩, fun h => absurd h hshort.ne⟩
  · rw [runSecond_full s hfull]
    obtain ⟨ht, hvalid⟩ := completeMinute_clock s
    refine ⟨?_, hvalid, fun h => absurd hfull h.ne, fun _ => ⟨completeMinute_sec s, completeMinute_countdown s⟩⟩
    rw [ht, hfull, advanceTime_time _ s htime]

/-- In a warm start's start delay a second moves the time alone (log 34). -/
theorem exec_timeBaseSecond_delayed (s : State) (hs : s.stage = .startDelay .warm) :
    exec .timeBaseSecond s = .next (advanceTime 1 s) := by
  change execTimeBaseSecond s = _
  simp [execTimeBaseSecond, hs]

/-! ### A setting of the time (R146) -/

/-- A request whose owner acts and answers at once. -/
theorem receive_served (f : RxFrame) (res : Res) (body : Bytes) (s u : State) (h : s.serving)
    (hserve : serve (keyAuthority s.hlc.key) f.req (s.taking f) = hostReply res body u) (hqueue : u.hlc.queue = []) :
    receive f s = hostReply res body u := by
  rw [receive_serving f s h, hserve]
  exact pumpFor_without_frames 4 _ hqueue

theorem exec_timeSet (tag : Byte) (time : BitVec 32) (s : State) (h : s.serving) :
    exec (.timeSet tag time) s =
      .next ({ s with orl := { s.orl with time := time.toNat, valid := true } }.replied 0x32#8 tag .ok []) := by
  let f : RxFrame := ⟨0x32#8, tag, .timeSet time.toNat⟩
  let u : State := { s with orl := { s.orl with time := time.toNat, valid := true } }
  have hreceive : receive f s = hostReply .ok [] (u.taking f) := receive_served f .ok [] s _ h rfl rfl
  exact congrArg Host.Outcome.next (hreceive.trans (hostReply_taking f .ok [] u h))

/-! ### The second count through the commands -/

theorem exec_sec (c : Instr) (s t : State) (h : s.orl.sec ≤ 59) (ht : exec c s = .next t) : t.orl.sec ≤ 59 := by
  have happened {can : Bool} {after : State} (hx : happens can after s = .next t) (ha : after.orl.sec ≤ 59) : t.orl.sec ≤ 59 :=
    happens_keeps (I := fun x => x.orl.sec ≤ 59) h hx fun _ => ha
  have same {can : Bool} {after : State} (hx : happens can after s = .next t) (ha : after.orl.sec = s.orl.sec) : t.orl.sec ≤ 59 :=
    happened hx (ha ▸ h)
  have fresh {can : Bool} {after : State} (hx : happens can after s = .next t) (ha : after.orl.sec = 0) : t.orl.sec ≤ 59 :=
    happened hx (ha ▸ Nat.zero_le _)
  have updated {can : Bool} {block : List SampleSet} (hx : updateWhen can block s = .next t) : t.orl.sec ≤ 59 := by
    unfold updateWhen at hx
    split at hx
    · exact same hx (by split <;> simp)
    · cases hx
  have measured {can : Bool} {m : BattMeas} {r : TestReading} (hx : measureWhen can m r s = .next t) : t.orl.sec ≤ 59 :=
    same hx (by split <;> simp)
  have received {f : RxFrame} (hx : (Host.Outcome.next (receive f s) : Result) = .next t) : t.orl.sec ≤ 59 := by
    cases hx
    simpa using h
  cases c with
  | coldStart => cases ht; exact Nat.zero_le _
  | startDelayEnd =>
    change execStartDelayEnd _ s = _ at ht
    unfold execStartDelayEnd at ht
    split at ht <;> cases ht
    · simp
    all_goals exact h
  | warmStart => exact fresh ht (by simp)
  | supplyLoss => exact same ht (by simp)
  | holdUpEnd => exact fresh ht (by simp)
  | magnitudeUpdate => exact updated ht
  | liveQualified => exact updated ht
  | deadQualified => exact updated ht
  | elementOperate => exact updated ht
  | deadTimerExpiry => exact same ht (by simp)
  | holdTimerExpiry => exact same ht (by simp)
  | reclaimTimerExpiry => exact same ht (by simp)
  | contactDebounced => exact same ht (by simp)
  | startReadingTimeout =>
    change execStartReadingTimeout s = _ at ht
    unfold execStartReadingTimeout at ht
    split at ht <;> cases ht
    · simpa using h
    all_goals exact h
  | capacitorMeasurement => exact same ht (by simp)
  | tripPulseTimeout => exact same ht (by simp)
  | closePulseTimeout => exact same ht (by simp)
  | minuteEvent => exact fresh ht (by simp)
  | tagExpiry => exact fresh ht (by simp)
  | tagHourlyWrite => exact fresh ht (by simp)
  | batteryMeasurement => exact measured ht
  | absorbTimeLimit => exact measured ht
  | floatLowRunLimit => exact measured ht
  | faultClearRunComplete => exact measured ht
  | resyncRunComplete => exact measured ht
  | chargeCountWrite => exact measured ht
  | tripWaitTimeout => exact same ht rfl
  | partStop => exact fresh ht (by simp)
  | scheduledTestDue => exact fresh ht (by simp)
  | settlingComplete => exact same ht (by simp)
  | loadTestComplete => exact same ht (by simp)
  | testAbandonTimeout => exact same ht (by simp)
  | radioPacketReceived bytes =>
    change execRadioPacketReceived bytes s = _ at ht
    unfold execRadioPacketReceived at ht
    split at ht
    · exact same ht (by simp)
    · cases ht; exact h
  | beaconMissCheck => exact same ht rfl
  | ownSlotStart => exact same ht (by simp)
  | radioTransmitEnd => cases ht; exact h
  | statusIntervalDue => exact fresh ht (by simp)
  | commitComplete =>
    change execCommitComplete s = _ at ht
    unfold execCommitComplete at ht
    split at ht <;> cases ht
    · simpa using h
    all_goals exact h
  | retainedWriteComplete =>
    change execRetainedWriteComplete s = _ at ht
    unfold execRetainedWriteComplete at ht
    split at ht <;> cases ht
    · simpa using h
    · exact h
  | hostFrameReceived => cases ht; simpa using h
  | frameByteTimeout => cases ht; exact h
  | keySwitchDebounced => exact same ht rfl
  | hostFrameTransmitted =>
    change execHostFrameTransmitted s = _ at ht
    unfold execHostFrameTransmitted at ht
    split at ht <;> cases ht <;> exact h
  | timeBaseSecond =>
    change execTimeBaseSecond s = _ at ht
    unfold execTimeBaseSecond at ht
    split at ht <;> cases ht
    · exact runSecond_sec s h
    · exact runSecond_sec s h
    all_goals exact h
  | _ => exact received ht

theorem step_sec (s t : State) (h : s.orl.sec ≤ 59) (ht : step s = .next t) : t.orl.sec ≤ 59 := by
  unfold step at ht
  split at ht
  · rename_i c rest _
    exact exec_sec c (s.withPending rest) t h ht
  · unfold idle at ht
    split at ht
    · exact exec_sec _ s t h ht
    · cases ht
      simpa using h

/-- Settles O39: a second adds to the time and to the second count, or completes the minute, and no other operation moves the second
count but a start, which takes it to 0. -/
theorem timeBaseCounts : Obligations.TimeBaseCounts := by
  refine fun s tag time => ⟨secondPasses s, fun hs htime => ?_, exec_timeSet tag time s, fun h t => step_sec s t h, rfl⟩
  refine ⟨advanceTime 1 s, exec_timeBaseSecond_delayed s hs, ?_, rfl⟩
  rw [advanceTime_time 1 s htime.le]
  omega

end Sys2Proof.Machine
end

section
/-! SUPPORT and PROOFS. A reset of one phase's wear (spec/07 R142, R143); O41. -/

namespace Sys2Proof.Machine

/-! ### A formed phase (R142) -/

theorem PhaseWear.form_of_formed {budget : Nat} {w : PhaseWear} (h : w.formed budget) : w.form budget = w := by
  obtain ⟨hpercent, hmark⟩ := h
  cases w
  simp only [PhaseWear.form, markAfter_eq, wearPercent] at *
  rw [hmark, hpercent]

/-- A formed phase stands at the threshold of its percent: no WEAR record is due. -/
theorem wearRecords_of_formed {budget : Nat} {w : PhaseWear} (q : Phase) (h : w.formed budget) :
    wearRecords q (wearPercent budget w.count) w.mark = [] := by
  obtain ⟨hpercent, hmark⟩ := h
  have hcount : wearPercent budget w.count = w.percent := hpercent.symm
  rw [hcount, hmark]
  generalize w.percent = percent
  unfold wearRecords
  split_ifs <;> simp_all

@[simp] theorem wearPercent_zero (budget : Nat) : wearPercent budget 0 = 0 := by simp [wearPercent]

theorem Orl.formRecords_eq_nil {budget : Nat} {o : Orl}
    (h : ∀ q, wearRecords q (wearPercent budget (o.phase q).count) (o.phase q).mark = []) : o.formRecords budget = [] := by
  have ha := h .a
  have hb := h .b
  have hc := h .c
  simp only [Orl.phase] at ha hb hc
  simp [Orl.formRecords, ha, hb, hc]

/-! ### The reset (R143) -/

theorem Orl.resetPhase_phase (o : Orl) (p q : Phase) :
    (o.resetPhase p).phase q = if q = p then { o.phase p with count := 0 } else o.phase q := by
  cases p <;> cases q <;> rfl

@[simp] theorem Orl.resetPhase_ring (o : Orl) (p : Phase) : (o.resetPhase p).ring = o.ring := by cases p <;> rfl

/-- A reset phase, formed again, is as new; the other phases keep their form. -/
theorem Orl.resetPhase_form_phase {budget : Nat} {o : Orl} (h : ∀ q, (o.phase q).formed budget) (p q : Phase) :
    ((o.resetPhase p).form budget).phase q = if q = p then ⟨0, 0, .none⟩ else o.phase q := by
  rw [Orl.form_phase, Orl.resetPhase_phase]
  split
  · simp [PhaseWear.form, markAfter]
  · exact PhaseWear.form_of_formed (h q)

theorem Orl.resetPhase_formRecords {budget : Nat} {o : Orl} (h : ∀ q, (o.phase q).formed budget) (p : Phase) :
    (o.resetPhase p).formRecords budget = [] :=
  Orl.formRecords_eq_nil fun q => by
    rw [Orl.resetPhase_phase]
    split
    · simp [wearRecords]
    · exact wearRecords_of_formed q (h q)

@[simp] theorem Orl.form_counts (budget : Nat) (o : Orl) : (o.form budget).counts = o.counts := rfl

theorem resetWear_formed (p : Phase) (s : State) (h : ∀ q, (s.orl.phase q).formed s.sst.globalPage.wearBudget) :
    resetWear p s =
      { queueWrite (.wear (s.orl.resetPhase p).counts) s with orl := (s.orl.resetPhase p).form s.sst.globalPage.wearBudget } := by
  have hpage : (queueWrite (.wear (s.orl.resetPhase p).counts) { s with orl := s.orl.resetPhase p }).sst.globalPage = s.sst.globalPage :=
    by simp
  unfold resetWear formWear
  simp only [hpage]
  rw [show (queueWrite (.wear (s.orl.resetPhase p).counts) { s with orl := s.orl.resetPhase p }).orl = s.orl.resetPhase p from rfl,
    Orl.resetPhase_formRecords h p]
  rfl

theorem Orl.resetPhase_limit {budget : Nat} {o : Orl} (h : ∀ q, (o.phase q).formed budget) (p : Phase) :
    ((o.resetPhase p).form budget).limit = true ↔ ∃ q, q ≠ p ∧ (o.phase q).percent = 100 := by
  rw [show ((o.resetPhase p).form budget).limit = ((o.resetPhase p).form budget).anyWorn from rfl, Orl.anyWorn_iff]
  refine exists_congr fun q => ?_
  rw [Orl.resetPhase_form_phase h]
  by_cases hq : q = p <;> simp [hq]

/-! ### The request (R143) -/

def wearResetFrame (tag phase : Byte) : RxFrame := ⟨0x31#8, tag, .wearReset phase.toNat⟩

theorem exec_wearReset_refused (tag phase : Byte) (res : Res) (s : State) (h : s.serving)
    (hserve : serveWearReset (keyAuthority s.hlc.key) phase.toNat (s.taking (wearResetFrame tag phase)) =
      hostReply res [] (s.taking (wearResetFrame tag phase))) :
    exec (.wearReset tag phase) s = .next (s.replied 0x31#8 tag res []) :=
  congrArg Host.Outcome.next
    ((receive_served (wearResetFrame tag phase) res [] s _ h hserve rfl).trans (hostReply_taking (wearResetFrame tag phase) res [] s h))

theorem phaseOf_above (n : Nat) (h : 2 < n) : phaseOf n = none :=
  match n, h with
  | _ + 3, _ => rfl

/-- An owner that leaves the link alone is answered behind the frames that stood there. -/
theorem hostReply_tx {f : RxFrame} {s u : State} (res : Res) (body : Bytes) (h : u.hlc = (s.taking f).hlc) :
    (hostReply res body u).hlc.tx = s.hlc.tx ++ [replyFrame f res body] := by
  unfold hostReply
  rw [h]
  rfl

theorem exec_wearReset_accepted (tag phase : Byte) (s : State) (h : s.serving) (hkey : s.hlc.key = .loc) (p : Phase)
    (hp : phaseOf phase.toNat = some p) :
    exec (.wearReset tag phase) s =
      .next (hostReply .ok (be4 (s.orl.phase p).count) (resetWear p (s.taking (wearResetFrame tag phase)))) := by
  refine congrArg Host.Outcome.next (receive_served (wearResetFrame tag phase) .ok _ s _ h ?_ (by simp [resetWear, State.taking]))
  change serveWearReset (keyAuthority s.hlc.key) phase.toNat (s.taking (wearResetFrame tag phase)) = _
  simp [serveWearReset, hkey, keyAuthority_eq, hp, State.taking]

/-- Settles O41: the reset forms every phase again, and a formed phase is its own form and owes no record. -/
theorem wearIsReset : Obligations.WearIsReset := by
  refine fun tag phase s h => ⟨fun hkey => ?_, fun hkey habove => ?_, fun hkey p hp hformed => ?_⟩
  · refine exec_wearReset_refused tag phase .authority s h ?_
    simp [serveWearReset, hkey, keyAuthority_eq]
  · refine exec_wearReset_refused tag phase .badField s h ?_
    simp [serveWearReset, hkey, keyAuthority_eq, phaseOf_above _ habove]
  · let f := wearResetFrame tag phase
    have hreset := resetWear_formed p (s.taking f) hformed
    have hcurrent : (resetWear p (s.taking f)).hlc = (s.taking f).hlc := by
      rw [hreset]
      rfl
    have horl : (resetWear p (s.taking f)).orl = (s.orl.resetPhase p).form s.sst.globalPage.wearBudget := by
      rw [hreset]
      rfl
    have hwrite : writeQueued (.wear (resetWear p (s.taking f)).orl.counts) (resetWear p (s.taking f)) := by
      rw [hreset]
      exact queueWrite_queued _ (s.taking f)
    refine ⟨_, exec_wearReset_accepted tag phase s h hkey p hp, ?_, fun q hq => ?_, ?_, hwrite, ?_, ?_⟩
    · exact (congrArg (Orl.phase · p) horl).trans ((Orl.resetPhase_form_phase hformed p p).trans (if_pos rfl))
    · exact (congrArg (Orl.phase · q) horl).trans ((Orl.resetPhase_form_phase hformed p q).trans (if_neg hq))
    · change (resetWear p (s.taking f)).orl.limit = true ↔ _
      rw [horl]
      exact Orl.resetPhase_limit hformed p
    · change (resetWear p (s.taking f)).orl.ring = _
      rw [horl]
      exact Orl.resetPhase_ring s.orl p
    · exact hostReply_tx .ok _ hcurrent

end Sys2Proof.Machine
end

section
/-! SUPPORT and PROOFS. The arrival of a record's report at the outbox (spec/08 R153, R154, R156, R160); O49. -/

namespace Sys2Proof.Machine

/-! ### The order of the outbox (R153) -/

theorem Entry.ahead_asymm {x y : Entry} (h : x.ahead y) : ¬ y.ahead x := by
  unfold Entry.ahead at *
  omega

theorem mem_insertEntry (x y : Entry) (l : List Entry) : y ∈ insertEntry x l ↔ y = x ∨ y ∈ l := by
  induction l with
  | nil => simp [insertEntry]
  | cons z rest ih =>
    rw [insertEntry]
    split
    · exact List.mem_cons
    · rw [List.mem_cons, ih, List.mem_cons]
      exact or_left_comm

/-- The youngest entry of all goes behind the last that is as urgent. -/
theorem insertEntry_pairwise (x : Entry) (l : List Entry) (h : l.Pairwise Entry.ahead) (hx : ∀ y ∈ l, y.order < x.order) :
    (insertEntry x l).Pairwise Entry.ahead := by
  induction l with
  | nil => simp [insertEntry]
  | cons z rest ih =>
    obtain ⟨hz, hrest⟩ := List.pairwise_cons.1 h
    obtain ⟨hxz, hxrest⟩ := List.forall_mem_cons.1 hx
    rw [insertEntry]
    split
    · rename_i hurgent
      refine List.pairwise_cons.2 ⟨List.forall_mem_cons.2 ⟨Or.inl hurgent, fun y hy => Or.inl ?_⟩, h⟩
      have hzy := hz y hy
      unfold Entry.ahead at hzy
      omega
    · rename_i hbehind
      refine List.pairwise_cons.2 ⟨fun y hy => ?_, ih hrest hxrest⟩
      rcases (mem_insertEntry x y rest).1 hy with rfl | hy
      · unfold Entry.ahead
        omega
      · exact hz y hy

/-! ### The victim (R156) -/

/-- Of a list in order an erasure takes the first element that satisfies p, and no other. -/
theorem mem_eraseP_first {α : Type} {R : α → α → Prop} (hasymm : ∀ x y, R x y → ¬ R y x) (p : α → Bool) (l : List α)
    (h : l.Pairwise R) (v : α) (hv : v ∈ l) (hp : p v = true) (hfirst : ∀ x ∈ l, p x = true → x = v ∨ R v x) (x : α) :
    x ∈ l.eraseP p ↔ x ∈ l ∧ x ≠ v := by
  obtain ⟨a, before, after, hbefore, ha, rfl, herase⟩ := List.exists_of_eraseP hv hp
  obtain ⟨-, hafter, -⟩ := List.pairwise_append.1 h
  obtain ⟨hahead, -⟩ := List.pairwise_cons.1 hafter
  have hav : a = v := by
    refine (hfirst a (by simp) ha).resolve_right fun hva => ?_
    rcases List.mem_append.1 hv with hv | hv
    · exact hbefore v hv hp
    · rcases List.mem_cons.1 hv with rfl | hv
      · exact hasymm _ _ hva hva
      · exact hasymm _ _ hva (hahead v hv)
  subst hav
  have hnb : a ∉ before := fun hm => hbefore a hm hp
  have hna : a ∉ after := fun hm => hasymm _ _ (hahead a hm) (hahead a hm)
  rw [herase, List.mem_append, List.mem_append, List.mem_cons]
  constructor
  · rintro (hx | hx)
    · exact ⟨Or.inl hx, fun he => hnb (he ▸ hx)⟩
    · exact ⟨Or.inr (Or.inr hx), fun he => hna (he ▸ hx)⟩
  · rintro ⟨hx | hx | hx, hne⟩
    · exact Or.inl hx
    · exact absurd hx hne
    · exact Or.inr hx

theorem mem_eraseLast_last (p : Entry → Bool) (l : List Entry) (h : l.Pairwise Entry.ahead) (v : Entry) (hv : v ∈ l) (hp : p v = true)
    (hlast : ∀ x ∈ l, p x = true → x = v ∨ x.ahead v) (x : Entry) : x ∈ eraseLast p l ↔ x ∈ l ∧ x ≠ v := by
  have hfirst := mem_eraseP_first (fun _ _ hxy => Entry.ahead_asymm hxy) p l.reverse (List.pairwise_reverse.2 h) v
    (List.mem_reverse.2 hv) hp (fun y hy => hlast y (List.mem_reverse.1 hy)) x
  rwa [eraseLast, List.mem_reverse, ← List.mem_reverse (as := l)]

theorem eraseLast_sublist (p : Entry → Bool) (l : List Entry) : (eraseLast p l).Sublist l := by
  simpa [eraseLast] using (List.eraseP_sublist (p := p) (l := l.reverse)).reverse

/-- Where an entry waits, one waits last. -/
theorem exists_last_waiting (l : List Entry) (v : Entry) (hv : v ∈ l ∧ v.await = false) :
    ∃ y, (l.filter (!·.await)).getLast? = some y ∧ y ∈ l ∧ y.await = false := by
  have hmem : v ∈ l.filter (!·.await) := by simpa using hv
  obtain ⟨y, hy⟩ := Option.isSome_iff_exists.1 (List.getLast?_isSome.2 (List.ne_nil_of_mem hmem))
  exact ⟨y, hy, by simpa using List.mem_of_getLast? hy⟩

/-- The last WAITING entry of an outbox in order is behind every other. -/
theorem getLast?_waiting (l : List Entry) (h : l.Pairwise Entry.ahead) (v : Entry) (hv : v ∈ l ∧ v.await = false)
    (hlast : ∀ x, x ∈ l ∧ x.await = false → x = v ∨ x.ahead v) : (l.filter (!·.await)).getLast? = some v := by
  have hmem : v ∈ l.filter (!·.await) := by simpa using hv
  obtain ⟨y, hy, hyl⟩ := exists_last_waiting l v hv
  obtain ⟨before, hbefore⟩ := List.getLast?_eq_some_iff.1 hy
  have hahead := h.filter (!·.await)
  rw [hbefore] at hmem hahead
  have hyv : y = v := by
    refine (hlast y hyl).resolve_right fun hyv => ?_
    rcases List.mem_append.1 hmem with hvb | hvy
    · exact Entry.ahead_asymm hyv ((List.pairwise_append.1 hahead).2.2 v hvb y (by simp))
    · obtain rfl := List.mem_singleton.1 hvy
      exact Entry.ahead_asymm hyv hyv
  rw [hy, hyv]

/-! ### An arrival (R156, R160) -/

section
variable (x : Entry) (l : List Entry)

theorem arrive_room (h : l.length < 32) : arrive x l = (insertEntry x l, false) := if_pos h

section
variable (hfull : l.length = 32)
include hfull

theorem arrive_full : arrive x l =
    match (l.filter (!·.await)).getLast? with
    | none => (l, true)
    | some y =>
      if x.cls.priority < y.cls.priority then (insertEntry x (eraseLast (!·.await) l), true)
      else if x.cls.priority = 0 then (insertEntry x (l.eraseP (!·.await)), true)
      else (l, true) :=
  if_neg (by simp [hfull, outboxTop])

theorem arrive_urgent (y : Entry) (hy : (l.filter (!·.await)).getLast? = some y) (hurgent : x.cls.priority < y.cls.priority) :
    arrive x l = (insertEntry x (eraseLast (!·.await) l), true) := by
  rw [arrive_full x l hfull, hy]
  exact if_pos hurgent

theorem arrive_first (y : Entry) (hy : (l.filter (!·.await)).getLast? = some y) (hequal : x.cls.priority = 0 ∧ y.cls.priority = 0) :
    arrive x l = (insertEntry x (l.eraseP (!·.await)), true) := by
  rw [arrive_full x l hfull, hy]
  simp [hequal]

theorem arrive_dropped (h : ∀ y, y ∈ l ∧ y.await = false → y.cls.priority ≤ x.cls.priority) (hx : 0 < x.cls.priority) :
    arrive x l = (l, true) := by
  rw [arrive_full x l hfull]
  split
  · rfl
  · rename_i y hy
    have hyl : y ∈ l ∧ y.await = false := by simpa using List.mem_of_getLast? hy
    rw [if_neg (Nat.not_lt.2 (h y hyl)), if_neg hx.ne']

end

/-- Every arrival leaves the outbox in order. -/
theorem arrive_pairwise (h : l.Pairwise Entry.ahead) (hx : ∀ y ∈ l, y.order < x.order) : (arrive x l).1.Pairwise Entry.ahead := by
  have insert (l' : List Entry) (hl : l'.Sublist l) : (insertEntry x l').Pairwise Entry.ahead :=
    insertEntry_pairwise x l' (h.sublist hl) fun y hy => hx y (hl.subset hy)
  unfold arrive
  split
  · exact insert l (List.Sublist.refl l)
  · split
    · exact h
    · split
      · exact insert _ (eraseLast_sublist _ l)
      · split
        · exact insert _ List.eraseP_sublist
        · exact h

end

/-! ### A report (R138, R154) -/

theorem entersOutbox_of_report (cls : Class) (s t : State) (h : s.rcc.sound) (ht : t.rcc = (report cls (some s.orl.next) s).rcc) :
    entersOutbox cls s t := by
  obtain ⟨-, hahead, hentries, -⟩ := h
  let e : Entry := ⟨cls, some s.orl.next, false, 0, none, none, s.rcc.nextOrder⟩
  have hout : t.rcc.outbox = (arrive e s.rcc.outbox).1 := congrArg Rcc.outbox ht
  have hlost : t.rcc.lost = lostUp s.rcc.lost (arrive e s.rcc.outbox).2 := congrArg Rcc.lost ht
  refine ⟨congrArg Rcc.nextOrder ht, ?_, fun hroom => ?_, fun hfull => ⟨fun v hv hurgent hlast => ?_, fun v hv hzero hall hfirst => ?_,
    fun hall hpos => ?_⟩⟩
  · rw [hout]
    exact arrive_pairwise e _ hahead fun y hy => (hentries y hy).2
  · rw [hout, hlost, arrive_room e _ hroom]
    exact ⟨rfl, fun x => mem_insertEntry e x _⟩
  · rw [hout, hlost, arrive_urgent e _ hfull v (getLast?_waiting _ hahead v hv hlast) hurgent]
    refine ⟨rfl, fun x => ?_⟩
    rw [mem_insertEntry, mem_eraseLast_last _ _ hahead v hv.1 (by simp [hv.2]) fun y hy hw => hlast y ⟨hy, by simpa using hw⟩]
  · obtain ⟨y, hy, hyw⟩ := exists_last_waiting _ v hv
    rw [hout, hlost, arrive_first e _ hfull y hy ⟨hzero, hall y hyw⟩]
    refine ⟨rfl, fun x => ?_⟩
    rw [mem_insertEntry, mem_eraseP_first (fun _ _ => Entry.ahead_asymm) _ _ hahead v hv.1 (by simp [hv.2]) fun y hy hw =>
      hfirst y ⟨hy, by simpa using hw⟩]
  · rw [hout, hlost, arrive_dropped e _ hfull hall hpos]
    exact ⟨rfl, rfl⟩

/-- A record of a running part is reported under its number. -/
theorem complete_rcc_of_reported (body : RecBody) (cls : Class) (s : State) (hs : s.stage = .running) (hcls : body.reportClass = some cls) :
    (complete body s).rcc = (report cls (some s.orl.next) s).rcc := by
  simp [complete_running body s hs, completeNow, enterRecord, reportRecord, stamp, hcls, report, placeNotice, queueWrite, addToRing]

/-! ### The three records -/

theorem enterLockout_rcc (c : Cause) (s : State) (hs : s.stage = .running) (hgroup : s.seq.pendingGroup = none) :
    (enterLockout c s).rcc = (report .lockout (some s.orl.next) s).rcc := by
  have hpending : (lockedUngrouped c s).seq.pendingGroup = none := by
    obtain ⟨-, -, -, -, hkept, -⟩ := lockedUngrouped_leaves c s hs
    exact hkept.trans hgroup
  have htake : (enterLockout c s).rcc = (lockedUngrouped c s).rcc := by
    rw [enterLockout_eq, applyPending, hpending]
    unfold takeHeld
    dsimp only
    split <;> rfl
  let x := seqTo .lockout { clearElements (stopTimers s) with seq := { s.seq.stopTimers with manual := false, cause := some c } }
  exact htake.trans (complete_rcc_of_reported (.lockout c x.seq.shots) .lockout x hs rfl)

theorem removeTag_rcc (x : Tag) (c : RemovalCause) (a : Option Authority) (s : State) (hs : s.stage = .running) :
    (removeTag x c a s).rcc = (report .tag (some s.orl.next) s).rcc :=
  complete_rcc_of_reported _ .tag _ hs rfl

theorem endTest_rcc (o : TestOutcome) (r mv : Option Nat) (s : State) (hs : s.stage = .running) :
    (endTest o r mv s).rcc = (report .test (some s.orl.next) s).rcc :=
  complete_rcc_of_reported _ .test _ hs rfl

theorem exec_tagClear_reports (tag : Byte) (number : BitVec 16) (s : State) (h : s.serving) (hkey : s.hlc.key = .loc)
    (hnumber : number ≠ 0) (hholds : s.tag.table.holds number.toNat = true) :
    ∃ t, exec (.tagClear tag number) s = .next t ∧ t.rcc = (report .tag (some s.orl.next) s).rcc := by
  let f := tagClearFrame tag number
  obtain ⟨x, hx⟩ : ∃ x, s.tag.table.find number.toNat = some x :=
    Option.isSome_iff_exists.1 (by simpa [TagTable.find, TagTable.holds] using hholds)
  let u := removeTag x .forced (some .loc) (s.taking f)
  have hserve : serve (keyAuthority s.hlc.key) f.req (s.taking f) = hostReply .ok [] u := by
    have hclear : tagClear .loc number.toNat (s.taking f) = (u, .ok) := by
      have hx' : (s.taking f).tag.table.find number.toNat = some x := hx
      simp [tagClear, mt (toNat_eq_zero_iff number).1 hnumber, hx', u]
    change hostReply (tagClear (keyAuthority s.hlc.key) number.toNat (s.taking f)).2 []
      (tagClear (keyAuthority s.hlc.key) number.toNat (s.taking f)).1 = _
    rw [keyAuthority_eq, if_pos hkey, hclear]
  have hqueue : u.hlc.queue = [] := (removeTag_hlc_line x .forced (some .loc) (s.taking f)).2
  exact ⟨_, congrArg Host.Outcome.next (receive_served f .ok [] s u h hserve hqueue),
    removeTag_rcc x .forced (some .loc) (s.taking f) h.1.1⟩

theorem exec_batteryTestCancel_reports (tag : Byte) (s : State) (h : s.serving) (htest : s.bcu.test ≠ .idle) :
    ∃ t, exec (.batteryTestCancel tag) s = .next t ∧ t.rcc = (report .test (some s.orl.next) s).rcc := by
  let f := testCancelFrame tag
  let u := endTest .cancelled none none (s.taking f)
  have hserve : serve (keyAuthority s.hlc.key) f.req (s.taking f) = hostReply .ok (flag (s.bcu.test == .idle)) u := by
    have hcancel : cancelTest (s.taking f) = u := if_neg htest
    change hostReply .ok (flag (s.bcu.test == .idle)) (cancelTest (s.taking f)) = _
    rw [hcancel]
  have hqueue : u.hlc.queue = [] := by simp [u, endTest, State.taking]
  exact ⟨_, congrArg Host.Outcome.next (receive_served f .ok _ s u h hserve hqueue),
    endTest_rcc .cancelled none none (s.taking f) h.1.1⟩

/-- Settles O49: each of the three events leaves at the RCC its record's report and nothing else. -/
theorem reportsEnterTheOutbox : Obligations.ReportsEnterTheOutbox := by
  intro tag number s hsound
  have enters {c : Instr} {cls : Class} (h : ∃ t, exec c s = .next t ∧ t.rcc = (report cls (some s.orl.next) s).rcc) :
      ∃ t, exec c s = .next t ∧ entersOutbox cls s t :=
    h.imp fun t ⟨hexec, hrcc⟩ => ⟨hexec, entersOutbox_of_report cls s t hsound hrcc⟩
  refine ⟨fun hrun hstate hreason hgroup => enters ⟨_, exec_holdTimerExpiry s hstate, ?_⟩, fun h hkey hn hholds =>
    enters (exec_tagClear_reports tag number s h hkey hn hholds), fun h htest => enters (exec_batteryTestCancel_reports tag s h htest)⟩
  have hend : holdEnd s = enterLockout .energy s := by simp [holdEnd, hreason]
  rw [hend, enterLockout_rcc .energy s hrun hgroup]

end Sys2Proof.Machine
end

section
/-! SUPPORT. The beacon's layout: what the receiver reads from a packet's bytes, and back (spec/08 R168). -/

namespace Sys2Proof.Machine

/-! ### Numbers in bytes -/

theorem toNat_ofNat_of_lt {n : Nat} (h : n < 256) : (BitVec.ofNat 8 n).toNat = n := by
  simp [BitVec.toNat_ofNat, Nat.mod_eq_of_lt h]

theorem be2_beNat (a b : Byte) : be2 (beNat [a, b]) = [a, b] := by
  have ha := a.isLt
  have hb := b.isLt
  simp only [be2, beNat, List.length_cons, List.length_nil, List.cons.injEq, and_true]
  constructor <;> refine BitVec.eq_of_toNat_eq ?_ <;> rw [BitVec.toNat_ofNat] <;> omega

theorem beNat_be2 {n : Nat} (h : n < 65536) : beNat (be2 n) = n := by
  simp only [be2, beNat, BitVec.toNat_ofNat, List.length_cons, List.length_nil]
  omega

theorem beNat_two_lt (a b : Byte) : beNat [a, b] < 65536 := by
  have ha := a.isLt
  have hb := b.isLt
  simp only [beNat, List.length_cons, List.length_nil]
  omega

/-- Four bytes are two numbers of two. -/
theorem beNat_four (a b c d : Byte) : beNat [a, b, c, d] = beNat [a, b] * 65536 + beNat [c, d] := by
  simp only [beNat, List.length_cons, List.length_nil]
  omega

theorem be4_beNat (a b c d : Byte) : be4 (beNat [a, b, c, d]) = [a, b, c, d] := by
  have hlow := beNat_two_lt c d
  have hdiv : beNat [a, b, c, d] / 65536 = beNat [a, b] := by rw [beNat_four]; omega
  have hmod : be2 (beNat [a, b, c, d]) = be2 (beNat [c, d]) := by
    simp only [beNat_four, be2, List.cons.injEq, and_true]
    constructor <;> refine BitVec.eq_of_toNat_eq ?_ <;> rw [BitVec.toNat_ofNat, BitVec.toNat_ofNat] <;> omega
  rw [be4, hdiv, hmod, be2_beNat, be2_beNat]
  rfl

theorem beNat_be4 {n : Nat} (h : n < 4294967296) : beNat (be4 n) = n := by
  simp only [be4, be2, List.cons_append, List.nil_append, beNat, BitVec.toNat_ofNat, List.length_cons, List.length_nil]
  omega

theorem beNat_four_lt (a b c d : Byte) : beNat [a, b, c, d] < 4294967296 := by
  have hhigh := beNat_two_lt a b
  have hlow := beNat_two_lt c d
  rw [beNat_four]
  omega

/-! ### Acknowledgements -/

/-- An acknowledgement pair as a beacon carries it. -/
def ackBytes (x : Nat × Nat) : Bytes := be1 x.1 ++ be1 x.2

theorem parseAcks_bytes (acks : List (Nat × Nat)) (more : Bytes) (h : ∀ x ∈ acks, x.1 < 256 ∧ x.2 < 256) :
    parseAcks acks.length (acks.flatMap ackBytes ++ more) = some (acks, more) := by
  induction acks with
  | nil => rfl
  | cons x rest ih =>
    obtain ⟨⟨hx1, hx2⟩, hrest⟩ := List.forall_mem_cons.1 h
    simp only [List.flatMap_cons, ackBytes, be1, List.cons_append, List.nil_append, List.length_cons, parseAcks]
    rw [ih hrest]
    simp only [toNat_ofNat_of_lt hx1, toNat_ofNat_of_lt hx2]

theorem parseAcks_reads (n : Nat) (bs more : Bytes) (acks : List (Nat × Nat)) (h : parseAcks n bs = some (acks, more)) :
    acks.length = n ∧ (∀ x ∈ acks, x.1 < 256 ∧ x.2 < 256) ∧ bs = acks.flatMap ackBytes ++ more := by
  induction n generalizing bs acks with
  | zero =>
    obtain ⟨rfl, rfl⟩ : [] = acks ∧ bs = more := by simpa [parseAcks] using h
    simp
  | succ n ih =>
    unfold parseAcks at h
    split at h
    · exact absurd ‹n + 1 = 0› n.succ_ne_zero
    · rename_i a b rest heq
      cases heq
      split at h
      · rename_i pairs left hrest
        obtain ⟨rfl, rfl⟩ : (a.toNat, b.toNat) :: pairs = acks ∧ left = more := by simpa using h
        obtain ⟨hlen, hfit, rfl⟩ := ih rest pairs hrest
        refine ⟨by simp [hlen], List.forall_mem_cons.2 ⟨⟨a.isLt, b.isLt⟩, hfit⟩, by simp [ackBytes, be1_toNat]⟩
      · cases h
    · cases h

/-! ### Commands -/

theorem parseCmds_bytes (cmds : List RadioCmd) (more : Bytes)
    (h : ∀ c ∈ cmds, c.station < 256 ∧ c.id < 256 ∧ c.kind < 256 ∧ c.fields.length < 256) :
    parseCmds cmds.length (cmds.flatMap RadioCmd.bytes ++ more) = some (cmds, more) := by
  induction cmds with
  | nil => rfl
  | cons c rest ih =>
    obtain ⟨⟨hstation, hid, hkind, hlen⟩, hrest⟩ := List.forall_mem_cons.1 h
    simp only [List.flatMap_cons, RadioCmd.bytes, be1, List.cons_append, List.nil_append, List.append_assoc, List.length_cons, parseCmds,
      toNat_ofNat_of_lt hstation, toNat_ofNat_of_lt hid, toNat_ofNat_of_lt hkind, toNat_ofNat_of_lt hlen, List.drop_left, List.take_left]
    rw [if_neg (by simp), ih hrest]

theorem parseCmds_reads (n : Nat) (bs more : Bytes) (cmds : List RadioCmd) (h : parseCmds n bs = some (cmds, more)) :
    cmds.length = n ∧ (∀ c ∈ cmds, c.station < 256 ∧ c.id < 256 ∧ c.kind < 256) ∧ bs = cmds.flatMap RadioCmd.bytes ++ more := by
  induction n generalizing bs cmds with
  | zero =>
    obtain ⟨rfl, rfl⟩ : [] = cmds ∧ bs = more := by simpa [parseCmds] using h
    simp
  | succ n ih =>
    unfold parseCmds at h
    split at h
    · exact absurd ‹n + 1 = 0› n.succ_ne_zero
    · rename_i st id kind len rest heq
      cases heq
      split at h
      · cases h
      · rename_i hroom
        split at h
        · rename_i read left hrest
          obtain ⟨rfl, rfl⟩ : ⟨st.toNat, id.toNat, kind.toNat, rest.take len.toNat⟩ :: read = cmds ∧ left = more := by
            simpa using h
          obtain ⟨hlen, hfit, hbytes⟩ := ih (rest.drop len.toNat) read hrest
          have htake : (rest.take len.toNat).length = len.toNat := by simpa using hroom
          refine ⟨by simp [hlen], List.forall_mem_cons.2 ⟨⟨st.isLt, id.isLt, kind.isLt⟩, hfit⟩, ?_⟩
          simp [RadioCmd.bytes, htake, ← hbytes, be1_toNat]
        · cases h
    · cases h

theorem RadioCmd.fields_length_le {b : Beacon} {c : RadioCmd} (hc : c ∈ b.cmds) : c.fields.length ≤ b.body.length := by
  have hbytes : c.bytes.length = 4 + c.fields.length := by
    simp only [RadioCmd.bytes, List.length_append, be1_length]
  have hall : c.bytes.length ≤ (b.cmds.flatMap RadioCmd.bytes).length := by
    rw [List.length_flatMap]
    exact List.le_sum_of_mem (List.mem_map_of_mem hc)
  simp only [Beacon.body, List.length_append]
  omega

/-! ### The body and the packet -/

theorem Beacon.body_eq (b : Beacon) :
    b.body = 0x20#8 :: be2 b.frame ++ be4 b.time ++ be1 b.acks.length ++
      (b.acks.flatMap ackBytes ++ (be1 b.cmds.length ++ (b.cmds.flatMap RadioCmd.bytes ++ []))) := by
  simp [Beacon.body]
  rfl

theorem parseBody_body (b : Beacon) (h : b.fits) : parseBody b.body = some b := by
  obtain ⟨hframe, htime, hacks, hpairs, hcmds, hheads, hbody⟩ := h
  have hparsed := parseCmds_bytes b.cmds [] fun c hc =>
    ⟨(hheads c hc).1, (hheads c hc).2.1, (hheads c hc).2.2, (RadioCmd.fields_length_le hc).trans_lt (by omega)⟩
  have htail (frame time : Nat) (acks : List (Nat × Nat)) :
      parseTail frame time acks (be1 b.cmds.length ++ (b.cmds.flatMap RadioCmd.bytes ++ [])) = some ⟨frame, time, acks, b.cmds⟩ := by
    simp only [be1, List.cons_append, List.nil_append, parseTail, toNat_ofNat_of_lt (n := b.cmds.length) (by omega), hparsed]
    rw [if_neg (by omega)]
  have hf := beNat_be2 hframe
  have ht := beNat_be4 htime
  simp only [be4, be2, List.cons_append, List.nil_append] at hf ht
  rw [Beacon.body_eq]
  simp only [be4, be2, be1, List.cons_append, List.nil_append] at htail ⊢
  simp only [parseBody]
  rw [if_neg (by simp [toNat_ofNat_of_lt (n := b.acks.length) (by omega)]; omega)]
  rw [toNat_ofNat_of_lt (n := b.acks.length) (by omega), parseAcks_bytes b.acks _ hpairs]
  simp only [hf, ht, htail]

theorem parseTail_reads (frame time : Nat) (acks : List (Nat × Nat)) (bs : Bytes) (b : Beacon)
    (h : parseTail frame time acks bs = some b) :
    b.frame = frame ∧ b.time = time ∧ b.acks = acks ∧ b.cmds.length ≤ 2 ∧
    (∀ c ∈ b.cmds, c.station < 256 ∧ c.id < 256 ∧ c.kind < 256) ∧ bs = be1 b.cmds.length ++ b.cmds.flatMap RadioCmd.bytes := by
  unfold parseTail at h
  split at h
  · rename_i count rest
    split at h
    · cases h
    · rename_i hcount
      split at h
      · rename_i cmds hread
        cases h
        obtain ⟨hlen, hheads, rfl⟩ := parseCmds_reads _ rest [] cmds hread
        exact ⟨rfl, rfl, rfl, hlen.trans_le (by omega), hheads, by simp [hlen, be1_toNat]⟩
      · cases h
  · cases h

theorem parseBody_reads (bs : Bytes) (b : Beacon) (h : parseBody bs = some b) (hlen : bs.length ≤ 255) : b.fits ∧ bs = b.body := by
  unfold parseBody at h
  split at h
  · rename_i type f1 f2 t1 t2 t3 t4 count rest
    split at h
    · cases h
    · rename_i hhead
      rw [not_or, not_not, Nat.not_lt] at hhead
      obtain ⟨htype, hcount⟩ := hhead
      split at h
      · rename_i pairs more hpairs
        obtain ⟨hacks, hfit, rfl⟩ := parseAcks_reads _ rest more pairs hpairs
        obtain ⟨hframe, htime, rfl, hcmds, hheads, rfl⟩ := parseTail_reads _ _ pairs more b h
        have hbytes : type :: f1 :: f2 :: t1 :: t2 :: t3 :: t4 :: count ::
            (b.acks.flatMap ackBytes ++ (be1 b.cmds.length ++ b.cmds.flatMap RadioCmd.bytes)) = b.body := by
          have htype' : type = 0x20#8 := BitVec.eq_of_toNat_eq htype
          rw [Beacon.body_eq, hframe, htime, hacks, be2_beNat, be4_beNat, be1_toNat, htype', List.append_nil]
          rfl
        refine ⟨⟨?_, ?_, ?_, hfit, hcmds, hheads, ?_⟩, hbytes⟩
        · rw [hframe]; exact beNat_two_lt f1 f2
        · rw [htime]; exact beNat_four_lt t1 t2 t3 t4
        · omega
        · rwa [← hbytes]
      · cases h
  · cases h

@[simp] theorem crcBytes_length (bs : Bytes) : (crcBytes bs).length = 2 := rfl

/-- The receiver reads a beacon's content from its packet, and from no other bytes (R168). -/
theorem parseBeacon_iff (bytes : Bytes) (b : Beacon) : parseBeacon bytes = some b ↔ b.fits ∧ bytes = b.bytes := by
  constructor
  · intro h
    unfold parseBeacon at h
    split at h
    · rename_i start len rest
      dsimp only at h
      split at h
      · rename_i hpacket
        obtain ⟨rfl, hlen, hcheck⟩ := hpacket
        have htake : (rest.take len.toNat).length = len.toNat := by simp [hlen]
        have hle : (rest.take len.toNat).length ≤ 255 := by
          have := len.isLt
          omega
        obtain ⟨hfits, hbody⟩ := parseBody_reads _ b h hle
        refine ⟨hfits, ?_⟩
        have hlenb : be1 b.body.length = [len] := by rw [← hbody, htake, be1_toNat]
        rw [Beacon.bytes, hlenb, ← hbody]
        simp only [List.cons_append, List.nil_append]
        rw [← hcheck, List.take_append_drop]
      · cases h
    · cases h
  · rintro ⟨hfits, rfl⟩
    obtain ⟨-, -, -, -, -, -, hlen⟩ := id hfits
    simp only [Beacon.bytes, be1, List.cons_append, List.nil_append, parseBeacon, toNat_ofNat_of_lt (n := b.body.length) (by omega),
      List.take_left, List.drop_left, List.length_append, crcBytes_length, and_self, if_true]
    exact parseBody_body b hfits

end Sys2Proof.Machine
end

section
/-! SUPPORT and PROOFS. A beacon at a part: the frame timing, the time, and the report that awaits its answer (spec/08 R147, R151, R159);
O44. -/

namespace Sys2Proof.Machine

/-! ### The entry that awaits an answer (R152, R159) -/

section
variable {α : Type} (p : α → Bool) (before : List α) (e : α) (after : List α)

theorem find?_between (hbefore : ∀ x ∈ before, p x = false) (he : p e = true) : (before ++ e :: after).find? p = some e := by
  rw [List.find?_append, List.find?_eq_none.2 (by simpa using hbefore), List.find?_cons_of_pos he]
  rfl

theorem eraseP_between (hbefore : ∀ x ∈ before, p x = false) (he : p e = true) :
    (before ++ e :: after).eraseP p = before ++ after := by
  rw [List.eraseP_append_right _ (by simpa using hbefore), List.eraseP_cons_of_pos he]

end

theorem eraseLast_between (p : Entry → Bool) (before : List Entry) (x : Entry) (after : List Entry) (hx : p x = true)
    (hafter : ∀ y ∈ after, p y = false) : eraseLast p (before ++ x :: after) = before ++ after := by
  have hrev : (before ++ x :: after).reverse = after.reverse ++ x :: before.reverse := by simp
  rw [eraseLast, hrev, eraseP_between p _ x _ (by simpa using hafter) hx]
  simp

/-! ### A return (R152, R159) -/

theorem returnAwait_keeps_all (countTry : Bool) (l : List Entry)
    (h : (∀ x ∈ l, x.await = true → x.cls ≠ .status) ∨ (l.map (Entry.returned countTry)).countP (·.cls == .status) ≤ 1) :
    returnAwait countTry l = l.map (Entry.returned countTry) := by
  refine if_neg fun hboth => ?_
  obtain ⟨hreturns, hcount⟩ := (Bool.and_eq_true _ _).mp hboth
  rcases h with h | h
  · obtain ⟨x, hx, hxs⟩ := List.any_eq_true.1 hreturns
    obtain ⟨hawait, hstatus⟩ := (Bool.and_eq_true _ _).mp hxs
    exact h x hx hawait (beq_iff_eq.1 hstatus)
  · exact absurd (of_decide_eq_true hcount) (Nat.not_lt.2 h)

theorem returnAwait_gives_up (countTry : Bool) (l : List Entry) (x : Entry) (hx : x ∈ l ∧ x.await = true ∧ x.cls = .status)
    (h : 1 < (l.map (Entry.returned countTry)).countP (·.cls == .status)) :
    returnAwait countTry l = eraseLast (·.cls == .status) (l.map (Entry.returned countTry)) := by
  obtain ⟨hmem, hawait, hstatus⟩ := hx
  exact if_pos ((Bool.and_eq_true _ _).mpr ⟨List.any_eq_true.2 ⟨x, hmem, by simp [hawait, hstatus]⟩, decide_eq_true h⟩)

@[simp] theorem Entry.returned_cls (countTry : Bool) (e : Entry) : (e.returned countTry).cls = e.cls := by
  unfold Entry.returned
  split <;> rfl

theorem Entry.returned_of_awaiting (e : Entry) (h : e.await = true) :
    e.returned true = { e with await := false, tries := min 4 (e.tries + 1) } := by
  simp [Entry.returned, h]

theorem countP_status_eq_zero (l : List Entry) (h : ∀ x ∈ l, x.cls ≠ .status) : l.countP (·.cls == .status) = 0 :=
  List.countP_eq_zero.2 fun x hx => by simpa using h x hx

section
variable (before : List Entry) (e : Entry) (after : List Entry) (he : e.await = true) (hothers : ∀ x ∈ before ++ after, x.await = false)
include hothers

theorem map_returned (countTry : Bool) :
    (before ++ e :: after).map (Entry.returned countTry) = before ++ e.returned countTry :: after := by
  have hkept (l : List Entry) (hl : ∀ x ∈ l, x.await = false) : l.map (Entry.returned countTry) = l := by
    rw [List.map_congr_left fun x hx => Entry.returned_of_waiting countTry x (hl x hx), List.map_id']
  obtain ⟨hbefore, hafter⟩ := List.forall_mem_append.1 hothers
  rw [List.map_append, List.map_cons, hkept before hbefore, hkept after hafter]

/-- Without a second STATUS entry beside a returning one every entry stays. -/
theorem returnAwait_alone (countTry : Bool) (h : e.cls ≠ .status ∨ ∀ x ∈ before ++ after, x.cls ≠ .status) :
    returnAwait countTry (before ++ e :: after) = before ++ e.returned countTry :: after := by
  rw [returnAwait_keeps_all, map_returned before e after hothers]
  refine h.imp (fun hcls x hx hawait => ?_) fun hnone => ?_
  · have hxe : x = e := by
      by_contra hne
      have hx' : x ∈ before ++ after := by simpa [hne] using hx
      exact absurd (hothers x hx') (by simp [hawait])
    exact hxe ▸ hcls
  · obtain ⟨hbefore, hafter⟩ := List.forall_mem_append.1 hnone
    rw [map_returned before e after hothers, List.countP_append, List.countP_cons, countP_status_eq_zero before hbefore,
      countP_status_eq_zero after hafter]
    split <;> omega

include he

/-- Of a returning STATUS entry and a younger one the younger goes. -/
theorem returnAwait_younger (countTry : Bool) (hcls : e.cls = .status) (mid : List Entry) (x : Entry) (rest : List Entry)
    (hafter : after = mid ++ x :: rest) (hx : x.cls = .status) (hrest : ∀ y ∈ rest, y.cls ≠ .status) :
    returnAwait countTry (before ++ e :: after) = before ++ e.returned countTry :: mid ++ rest := by
  have hmap : (before ++ e :: after).map (Entry.returned countTry) = (before ++ e.returned countTry :: mid) ++ x :: rest := by
    rw [map_returned before e after hothers, hafter]
    simp
  rw [returnAwait_gives_up countTry _ e ⟨by simp, he, hcls⟩, hmap, eraseLast_between]
  · simp [hx]
  · simpa using hrest
  · rw [hmap]
    simp [List.countP_append, hcls, hx]
    omega

end

/-! ### The answer to a report (R159, R160) -/

/-- A resolution moves the outbox and the lost count alone. -/
theorem Rcc.resolve_eq (station : Nat) (acks : List (Nat × Nat)) (r : Rcc) :
    r.resolve station acks = { r with outbox := (r.resolve station acks).outbox, lost := (r.resolve station acks).lost } := by
  unfold Rcc.resolve Rcc.acknowledged Rcc.unacknowledged
  split
  · rfl
  · split_ifs <;> rfl

theorem Rcc.resolve_nothing (station : Nat) (acks : List (Nat × Nat)) (r : Rcc) (h : ∀ e ∈ r.outbox, e.await = false) :
    r.resolve station acks = r := by
  have hnone : r.awaiting = none := List.find?_eq_none.2 (by simpa using h)
  simp [Rcc.resolve, hnone]

section
variable (station : Nat) (acks : List (Nat × Nat)) (r : Rcc) (before : List Entry) (e : Entry) (after : List Entry)
  (hout : r.outbox = before ++ e :: after) (he : e.await = true) (hbefore : ∀ x ∈ before, x.await = false)
include hout he hbefore

theorem Rcc.awaiting_eq : r.awaiting = some e := by rw [Rcc.awaiting, hout, find?_between _ before e after hbefore he]

theorem Rcc.resolve_acknowledged (h : ∃ n ∈ e.seqNo, (station, n) ∈ acks) :
    (r.resolve station acks).outbox = before ++ after ∧
    (r.resolve station acks).lost = if e.cls = .status then r.lost - e.carried.getD 0 else r.lost := by
  obtain ⟨n, hn, hmem⟩ := h
  have hany : acks.any (fun x => x.1 == station && some x.2 == e.seqNo) = true :=
    List.any_eq_true.2 ⟨(station, n), hmem, by simpa using hn.symm⟩
  have hresolve : r.resolve station acks = r.acknowledged e := by
    simp only [Rcc.resolve, r.awaiting_eq before e after hout he hbefore, hany, if_true]
  rw [hresolve, Rcc.acknowledged, hout]
  exact ⟨eraseP_between _ before e after hbefore he, rfl⟩

theorem Rcc.resolve_unacknowledged (h : ¬ ∃ n ∈ e.seqNo, (station, n) ∈ acks) : r.resolve station acks = r.unacknowledged e := by
  have hany : ¬ acks.any (fun x => x.1 == station && some x.2 == e.seqNo) = true := fun hany => by
    obtain ⟨⟨st, n⟩, hmem, hboth⟩ := List.any_eq_true.1 hany
    obtain ⟨hst, hn⟩ : st = station ∧ some n = e.seqNo := by simpa using hboth
    exact h ⟨n, hn.symm, hst ▸ hmem⟩
  simp only [Rcc.resolve, r.awaiting_eq before e after hout he hbefore, if_neg hany]

theorem Rcc.unacknowledged_drops (hpriority : 0 < e.cls.priority) (htries : 3 ≤ e.tries) :
    (r.unacknowledged e).outbox = before ++ after ∧ (r.unacknowledged e).lost = min 65535 (r.lost + 1) := by
  rw [Rcc.unacknowledged, if_pos ⟨hpriority, by omega⟩, hout]
  exact ⟨eraseP_between _ before e after hbefore he, rfl⟩

end

theorem Rcc.unacknowledged_returns (r : Rcc) (e : Entry) (h : e.cls.priority = 0 ∨ e.tries < 3) :
    r.unacknowledged e = { r with outbox := returnAwait true r.outbox } := if_neg (by omega)

/-! ### The beacon (R147, R151) -/

/-- A beacon without a command for this station. -/
theorem takeBeacon_uncommanded (b : Beacon) (s : State) (h : ∀ c, ¬ commandFor s b c) :
    takeBeacon b s = { s with
      rcc := (s.rcc.sync b.frame).resolve (s.sst.globalPage.field 4) b.acks
      orl := { s.orl with valid := true, time :=
        if s.orl.valid = true ∧ b.time ≤ s.orl.time + 2 ∧ s.orl.time ≤ b.time + 2 then s.orl.time else b.time } } := by
  have hnone : b.cmds.find? (·.station == s.sst.globalPage.field 4) = none :=
    Option.eq_none_iff_forall_ne_some.2 fun c hc => h c hc
  have hcommands (x : State) (hx : x.sst = s.sst) : takeCommands b.cmds x = x := by
    have hnone' : b.cmds.find? (·.station == x.sst.globalPage.stationId) = none := by rw [hx]; exact hnone
    simp only [takeCommands, hnone']
  rw [takeBeacon, hcommands _ (by simp)]
  by_cases hclose : s.orl.valid = true ∧ s.orl.time ≤ b.time + 2 ∧ b.time ≤ s.orl.time + 2
  · have hclose' : s.orl.valid = true ∧ b.time ≤ s.orl.time + 2 ∧ s.orl.time ≤ b.time + 2 := ⟨hclose.1, hclose.2.2, hclose.2.1⟩
    rw [if_pos hclose', ← hclose.1, beaconTime, if_pos hclose]
    rfl
  · have hclose' : ¬ (s.orl.valid = true ∧ b.time ≤ s.orl.time + 2 ∧ s.orl.time ≤ b.time + 2) := fun h' =>
      hclose ⟨h'.1, h'.2.2, h'.2.1⟩
    rw [if_neg hclose', beaconTime, if_neg hclose]
    rfl

theorem exec_radioPacketReceived_beacon (b : Beacon) (s : State) (hfits : b.fits) :
    exec (.radioPacketReceived b.bytes) s = happens (s.stage.started && s.rcc.chan != .silent) (pump (takeBeacon b s)) s := by
  change execRadioPacketReceived b.bytes s = _
  rw [execRadioPacketReceived, (parseBeacon_iff b.bytes b).2 ⟨hfits, rfl⟩]

theorem exec_radioPacketReceived_noBeacon (bytes : Bytes) (s : State) (h : ∀ x : Beacon, x.fits → bytes ≠ x.bytes) :
    exec (.radioPacketReceived bytes) s = .next s := by
  have hparse : parseBeacon bytes = none := Option.eq_none_iff_forall_ne_some.2 fun x hx =>
    h x ((parseBeacon_iff bytes x).1 hx).1 ((parseBeacon_iff bytes x).1 hx).2
  change execRadioPacketReceived bytes s = _
  rw [execRadioPacketReceived, hparse]

/-- Settles O44: the receiver reads exactly the beacons, and a beacon syncs the frame before it resolves the report in AWAIT_ACK. -/
theorem beaconIsHandled : Obligations.BeaconIsHandled := by
  refine fun b s hfits hruns => ⟨fun hsilent => ?_, fun bytes hno => exec_radioPacketReceived_noBeacon bytes s hno, fun hchan hno => ?_⟩
  · rw [exec_radioPacketReceived_beacon b s hfits]
    exact happens_not _ s (by simp [hsilent])
  · obtain ⟨hstage, -, hqueue⟩ := hruns
    have htake := takeBeacon_uncommanded b s hno
    have hexec : exec (.radioPacketReceived b.bytes) s = .next (takeBeacon b s) := by
      rw [exec_radioPacketReceived_beacon b s hfits, pump_without_frames _ (by rw [htake]; exact hqueue)]
      exact happens_of _ s (by simp [hstage, Stage.started, hchan])
    let r := s.rcc.sync b.frame
    have hrcc : (takeBeacon b s).rcc = r.resolve (s.sst.globalPage.field 4) b.acks := by rw [htake]
    refine ⟨_, hexec, ?_, htake.trans (by rw [hrcc]), fun hall => ?_, fun before e after hout he hothers => ?_⟩
    · rw [hrcc]
      exact r.resolve_eq _ _
    · rw [hrcc, r.resolve_nothing _ _ hall]
      exact ⟨rfl, rfl⟩
    · obtain ⟨hbefore, -⟩ := List.forall_mem_append.1 hothers
      dsimp only
      rw [hrcc]
      refine ⟨fun hacked => r.resolve_acknowledged _ _ before e after hout he hbefore hacked, fun hacked hpriority htries => ?_,
        fun hacked hreturns => ?_⟩
      · rw [r.resolve_unacknowledged _ _ before e after hout he hbefore hacked]
        exact r.unacknowledged_drops before e after hout he hbefore hpriority htries
      · rw [r.resolve_unacknowledged _ _ before e after hout he hbefore hacked, r.unacknowledged_returns e hreturns,
          ← e.returned_of_awaiting he]
        have hreturn : returnAwait true r.outbox = returnAwait true (before ++ e :: after) := congrArg _ hout
        refine ⟨rfl, fun halone => ?_, fun hcls mid x rest hafter hx hnone => ?_⟩
        · exact hreturn.trans (returnAwait_alone before e after hothers true halone)
        · exact hreturn.trans (returnAwait_younger before e after he hothers true hcls mid x rest hafter hx fun y hy =>
            hnone y (List.mem_append_right _ hy))

end Sys2Proof.Machine
end

section
/-! SUPPORT and PROOFS. The wear and the operation counter of a trip (spec/07 R141, R142, R144), and what keeps them; O40. -/

namespace Sys2Proof.Machine

/-! ### What leaves the wear alone -/

/-- The wear of the three phases, the wear limit and the operation counter, apart from the rest of ORL. -/
def Orl.wear (o : Orl) : (Phase → PhaseWear) × Bool × Nat := (o.phase, o.limit, o.opCount)

theorem Orl.wear_eq_iff (o p : Orl) : o.wear = p.wear ↔ o.phase = p.phase ∧ o.limit = p.limit ∧ o.opCount = p.opCount := by
  simp [Orl.wear]

@[simp] theorem foldl_enter_wear (bodies : List RecBody) (o : Orl) : (bodies.foldl Orl.enter o).wear = o.wear :=
  (Orl.wear_eq_iff _ _).2 ⟨(foldl_enter_keeps bodies o).1, (foldl_enter_keeps bodies o).2.1, (foldl_enter_keeps_more bodies o).1⟩

/-- From s to t a running part keeps its wear and the queued write of the counts, and makes at most n records. -/
structure wearKept (n : Nat) (s t : State) : Prop where
  stage : t.stage = .running
  queue : t.hlc.queue = s.hlc.queue
  wear : t.orl.wear = s.orl.wear
  queued : ∀ c, writeQueued (.wear c) s → writeQueued (.wear c) t
  logs : ∃ bodies, bodies.length ≤ n ∧ logs bodies s t

theorem wearKept.trans {m n : Nat} {s t u : State} (h : wearKept m s t) (h' : wearKept n t u) : wearKept (m + n) s u := by
  obtain ⟨bodies, hlen, hlogs⟩ := h.logs
  obtain ⟨bodies', hlen', hlogs'⟩ := h'.logs
  refine ⟨h'.stage, h'.queue.trans h.queue, h'.wear.trans h.wear, fun c hc => h'.queued c (h.queued c hc), _, ?_, hlogs.trans hlogs'⟩
  rw [List.length_append]
  omega

theorem wearKept.mono {m n : Nat} {s t : State} (h : wearKept m s t) (hmn : m ≤ n) : wearKept n s t :=
  ⟨h.stage, h.queue, h.wear, h.queued, h.logs.imp fun _ ⟨hlen, hlogs⟩ => ⟨hlen.trans hmn, hlogs⟩⟩

section
variable {s t : State} (hs : s.stage = .running)
include hs

theorem wearKept_of_same (hstage : t.stage = s.stage) (hqueue : t.hlc.queue = s.hlc.queue) (hwear : t.orl.wear = s.orl.wear)
    (hlog : t.orl.log = s.orl.log) (hsst : t.sst = s.sst) : wearKept 0 s t :=
  ⟨hstage.trans hs, hqueue, hwear, fun c => writeQueued_congr (.wear c) s t hsst, [], le_rfl, hlog⟩

theorem wearKept_queueWrite (i : RetItem) (hi : i.item ≠ 6) : wearKept 0 s (queueWrite i s) :=
  ⟨by simpa using hs, rfl, rfl, fun c hc => queueWrite_keeps_queued _ i s hc hi.symm, [], le_rfl, rfl⟩

theorem wearKept_complete (body : RecBody) : wearKept 1 s (complete body s) :=
  ⟨by simpa using hs, complete_queue body s, by rw [complete_orl_running body s hs]; exact foldl_enter_wear [body] s.orl,
    fun c hc => complete_keeps_queued _ body s hc (by simp [RetItem.item]), [body], le_rfl, logs_complete body s hs⟩

theorem wearKept_completeAll (bodies : List RecBody) : wearKept bodies.length s (completeAll bodies s) :=
  ⟨by simpa using hs, completeAll_queue bodies s, by rw [completeAll_orl_running bodies s hs, foldl_enter_wear],
    fun c hc => completeAll_keeps_queued _ bodies s hc (by simp [RetItem.item]), bodies, le_rfl, logs_completeAll bodies s hs⟩

theorem wearKept_completeTrip (sp : SeqPart) (pp : PulsePart) : wearKept 1 s (completeTrip sp pp s) := by
  let x : State := { s with orl := { s.orl with capture := none, part := none } }
  have hx : wearKept 0 s x := wearKept_of_same hs rfl rfl rfl rfl rfl
  exact hx.trans (wearKept_complete hx.stage _)

theorem wearKept_setMech (f : Bool) : wearKept 0 s (setMech f s) := by
  unfold setMech
  split
  · exact wearKept_of_same hs rfl rfl rfl rfl rfl
  · let x : State := { s with act := { s.act with mech := f } }
    have hx : wearKept 0 s x := wearKept_of_same hs rfl rfl rfl rfl rfl
    exact hx.trans (wearKept_queueWrite hx.stage _ (by simp [RetItem.item]))

/-! ### SEQ's entries -/

theorem wearKept_applyPending : wearKept 1 s (applyPending s) := by
  refine ⟨by simpa using hs, by simp, ?_, fun c hc => applyPending_keeps_queued _ s hc (by simp [RetItem.item]) (by simp [RetItem.item]),
    groupRecords s, groupRecords_length s, logs_of_orl (applyPending_orl s hs)⟩
  rw [applyPending_orl s hs, foldl_enter_wear]

theorem wearKept_enterLockout (c : Cause) : wearKept 2 s (enterLockout c s) := by
  have horl := enterLockout_orl c s hs
  have hlen := groupRecords_length s
  refine ⟨by simpa using hs, by simp, ?_, fun w hw => enterLockout_keeps_queued _ c s hw (by simp [RetItem.item]) (by simp [RetItem.item])
    (by simp [RetItem.item]), _, ?_, logs_of_orl horl⟩
  · rw [horl, foldl_enter_wear]
  · simp only [List.length_cons]
    omega

theorem wearKept_enterMechFail : wearKept 1 s (enterMechFail s) := by
  let x := seqTo .mechFail { s with seq := { s.seq.stopTimers with cause := none } }
  have hx : wearKept 0 s x := wearKept_of_same hs (by simp [x]) (by simp [x]) (by simp [x]) (by simp [x]) (by simp [x])
  change wearKept 1 s (applyPending (if s.seq.state = .lockout then queueWrite (lockoutItem x) x else x))
  split
  · have hwritten := hx.trans (wearKept_queueWrite hx.stage (lockoutItem x) (by simp [lockoutItem, RetItem.item]))
    exact hwritten.trans (wearKept_applyPending hwritten.stage)
  · exact hx.trans (wearKept_applyPending hx.stage)

theorem wearKept_carryOut (d : AfterTrip) : wearKept 2 s (carryOut d s) := by
  cases d with
  | lockout c => exact wearKept_enterLockout hs c
  | dead =>
    refine (wearKept_of_same (t := enterDeadTime s) hs ?_ ?_ ?_ ?_ ?_).mono (by decide) <;> simp [enterDeadTime]
  | mechFail =>
    have hrecord := wearKept_complete hs (.mechFail .trip)
    exact hrecord.trans (wearKept_enterMechFail hrecord.stage)
  | failedAgain => exact (wearKept_complete hs (.mechFail .trip)).mono (by decide)
  | stay => exact (wearKept_of_same hs rfl rfl rfl rfl rfl).mono (by decide)

theorem wearKept_tripOver (d : AfterTrip) : wearKept 2 s (tripOver d s) := by
  let x : State := { s with seq := { s.seq with trip := none } }
  have hx : wearKept 0 s x := wearKept_of_same hs rfl rfl rfl rfl rfl
  exact (hx.trans (wearKept_carryOut hx.stage d)).mono (by decide)

theorem wearKept_tripReported (l : List TripReq) : wearKept 0 s (tripReported l s) := by
  obtain ⟨hstage, -, -, -, horl, hsst, hhlc⟩ := tripReported_keeps l s
  exact wearKept_of_same hs hstage (by rw [hhlc]) (by rw [horl]) (by rw [horl]) hsst

/-- The breaker's opening at SEQ is no news, an entry to LOCKOUT, or an event held for the start (R62, R66). -/
theorem wearKept_seqEvent_opened : wearKept 2 s (seqEvent (.position .isOpen) s) := by
  have hsame : wearKept 2 s s := (wearKept_of_same hs rfl rfl rfl rfl rfl).mono (Nat.zero_le 2)
  have hlock : wearKept 2 s (if s.seq.trip = none then enterLockout .externalOpen s else s) := by
    split
    · exact wearKept_enterLockout hs .externalOpen
    · exact hsame
  unfold seqEvent
  split
  · change wearKept 2 s (seqPosition .isOpen s)
    unfold seqPosition
    cases s.seq.state with
    | closed => exact hlock
    | reclaim => exact hlock
    | _ => exact hsame
  · exact wearKept.mono (m := 0) (wearKept_of_same hs rfl rfl rfl rfl rfl) (Nat.zero_le 2)

end

/-! ### The interruption (R141, R142, R144) -/

/-- The magnitude that wears a phase. -/
def PulsePart.amps (pp : PulsePart) : Phase → Nat
  | .a => pp.ia | .b => pp.ib | .c => pp.ic

theorem Orl.addWear_phase (pp : PulsePart) (o : Orl) (h : pp.outcome = .done) (q : Phase) :
    (o.addWear pp).phase q = (o.phase q).add (pp.amps q) := by
  rw [Orl.addWear, if_pos h]
  cases q <;> rfl

theorem PhaseWear.add_count (amps : Nat) (w : PhaseWear) :
    (w.add amps).count = min 4000000000 (w.count + (min 20000 amps) ^ 2 / 10000) := by
  rw [sq]
  rfl

theorem Orl.exists_worn_iff (o : Orl) :
    (∃ q, (o.phase q).percent = 100) ↔ o.wearA.percent = 100 ∨ o.wearB.percent = 100 ∨ o.wearC.percent = 100 := by
  rw [← Orl.anyWorn_iff]
  simp [Orl.anyWorn, or_assoc]

@[simp] theorem Orl.addWear_opCount (pp : PulsePart) (o : Orl) : (o.addWear pp).opCount = o.opCount := by
  unfold Orl.addWear
  split <;> rfl

/-- What the pulse part of a DONE trip leaves at ORL, with the write of the counts queued. -/
theorem takeInterruption_done (pp : PulsePart) (s : State) (h : pp.outcome = .done) (htop : s.orl.opCount < 4294967295) :
    (takeInterruption pp s).orl.wear =
      (((s.orl.addWear pp).form s.sst.globalPage.wearBudget).phase, ((s.orl.addWear pp).form s.sst.globalPage.wearBudget).anyWorn,
        if 0 < pp.pulse then s.orl.opCount + 1 else s.orl.opCount) ∧
    writeQueued (.wear (s.orl.addWear pp).counts) (takeInterruption pp s) := by
  let o := (s.orl.addWear pp).form s.sst.globalPage.wearBudget
  let x := queueWrite (.wear o.counts) { s with orl := o }
  have hcounts : o.counts = (s.orl.addWear pp).counts := Orl.form_counts _ _
  have hcount : x.orl.opCount = s.orl.opCount := Orl.addWear_opCount pp s.orl
  have hx : writeQueued (.wear (s.orl.addWear pp).counts) x := hcounts ▸ queueWrite_queued _ _
  have heq : takeInterruption pp s = if 0 < pp.pulse then countOperation x else x := if_pos h
  rw [heq]
  split
  · have hop : countOperation x =
        queueWrite (.opCount (x.orl.opCount + 1)) { x with orl := { x.orl with opCount := x.orl.opCount + 1 } } := if_neg (by omega)
    rw [hop, hcount]
    exact ⟨rfl, queueWrite_keeps_queued _ _ _ (writeQueued_congr _ x _ rfl hx) (by simp [RetItem.item])⟩
  · exact ⟨congrArg (fun n => (o.phase, o.anyWorn, n)) hcount, hx⟩

/-- Where each phase stands as a forming of o leaves it, and its old threshold was o's, the records due are that forming's. -/
theorem wearsDue_of_formed (budget : Nat) (o : Orl) (s t : State) (hmark : ∀ q, (s.orl.phase q).mark = (o.phase q).mark)
    (hphase : t.orl.phase = (o.form budget).phase) : wearsDue s t = o.formRecords budget := by
  simp only [wearsDue, hmark, hphase, Orl.form_phase, List.flatMap_cons, List.flatMap_nil, List.append_nil]
  exact (List.append_assoc (wearRecords .a _ _) (wearRecords .b _ _) (wearRecords .c _ _)).symm

/-- The records and the wear of a DONE trip are those of its interruption. -/
theorem tripAllRecorded_worn (r : TripReq) (pp : PulsePart) (s : State) (hs : s.stage = .running) :
    (tripAllRecorded r pp s).orl.wear = (takeInterruption pp s).orl.wear ∧
    ∀ c, writeQueued (.wear c) (takeInterruption pp s) → writeQueued (.wear c) (tripAllRecorded r pp s) := by
  let y := countTrip .done s
  have hy : y.stage = .running := by simpa [y] using hs
  have htrip : wearKept 1 (takeInterruption pp y) (tripRecorded r pp y) := wearKept_completeTrip (by simpa using hy) _ _
  have hall := htrip.trans (wearKept_completeAll htrip.stage (interruptionRecords pp s))
  have hsame : takeInterruption pp y = countTrip .done (takeInterruption pp s) := (countTrip_takeInterruption .done pp s).symm
  refine ⟨hall.wear.trans (by rw [hsame]; simp), fun c hc => hall.queued c ?_⟩
  rw [hsame]
  exact writeQueued_congr _ _ _ (by simp) hc

/-! ### The two events -/

/-- A trip that ends without movement makes records and no wear. -/
theorem exec_tripPulseTimeout_wear (fin : PulseEnd) (s : State) (r : TripReq) (rest : List TripReq) (hruns : s.runs)
    (hpart : s.orl.part = none) (htrip : s.seq.trip = some (r :: rest)) (hpulse : s.act.state = .tripPulse) :
    ∃ t, exec (.tripPulseTimeout fin) s = .next t ∧ t.orl.wear = s.orl.wear := by
  obtain ⟨hrun, -, hqueue⟩ := hruns
  let pp := pulsePart s .noMove 120 (s.act.before.getD 0) (clampVolts fin.capAfter)
  let x := setMech true s.pulseEnded
  have hidle : wearKept 0 s s.pulseEnded := wearKept_of_same hrun rfl rfl rfl rfl rfl
  have hx : wearKept 0 s x := hidle.trans (wearKept_setMech hidle.stage true)
  have hend : endTrip .noMove 120 fin s = tripCompletion .noMove pp fin.partFirst x := rfl
  have hcompleted : tripCompletion .noMove pp fin.partFirst x =
      tripReported (r :: rest) (tripOver (afterTrip .noMove x) (completeTrip ⟨r, x.seq.shots⟩ pp x)) := by
    have hundone (z : State) : takeInterruption pp z = z := takeInterruption_undone pp z (by simp [pp, pulsePart])
    have hnone : interruptionRecords pp x = [] := by simp [interruptionRecords, pp, pulsePart]
    rw [tripCompletion_eq .noMove pp x r rest fin.partFirst (by simpa [x, State.pulseEnded]) (by simpa [x, State.pulseEnded])]
    simp only [countTrip_undone .noMove x (by decide), hundone, hnone, ite_self, tripRecorded]
    rfl
  have hrecord := hx.trans (wearKept_completeTrip hx.stage ⟨r, x.seq.shots⟩ pp)
  have hover := hrecord.trans (wearKept_tripOver hrecord.stage (afterTrip .noMove x))
  have hall := hover.trans (wearKept_tripReported hover.stage (r :: rest))
  rw [exec_tripPulseTimeout fin s hpulse, hend, hcompleted, pump_without_frames _ (hall.queue.trans hqueue)]
  exact ⟨_, rfl, hall.wear⟩

/-- ACT's part of the TRIP record: the magnitudes of the last update, and the pulse's length, 0 ms for a held trip (R75). -/
theorem openPulse_eq (fin : PulseEnd) (s : State) :
    (openPulse fin s).outcome = .done ∧ (openPulse fin s).ia = s.lsu.meas.a ∧ (openPulse fin s).ib = s.lsu.meas.b ∧
    (openPulse fin s).ic = s.lsu.meas.c ∧ (openPulse fin s).pulse = if s.act.state = .tripPulse then s.act.pulseMs.getD 0 else 0 := by
  unfold openPulse
  split <;> exact ⟨rfl, rfl, rfl, rfl, rfl⟩

/-- A trip that the breaker's opening ends leaves the wear of its interruption, with the counts' write, and the TRIP and WEAR records
before any other of the event. -/
theorem exec_opens_wear (fin : PulseEnd) (s : State) (r : TripReq) (rest : List TripReq) (hruns : s.runs) (hpart : s.orl.part = none)
    (htrip : s.seq.trip = some (r :: rest)) (htop : s.orl.opCount < 4294967295)
    (hact : s.act.state = .tripPulse ∨ s.act.state = .tripHeld) (hopens : opensNow s) (pp : PulsePart) (hpp : pp = openPulse fin s) :
    ∃ t, exec (.contactDebounced .openContact .made 4 fin) s = .next t ∧
      t.orl.wear = (((s.orl.addWear pp).form s.sst.globalPage.wearBudget).phase,
        ((s.orl.addWear pp).form s.sst.globalPage.wearBudget).anyWorn, if 0 < pp.pulse then s.orl.opCount + 1 else s.orl.opCount) ∧
      writeQueued (.wear (s.orl.addWear pp).counts) t ∧
      ∃ first later, later.length ≤ 4 ∧ logs (first :: (interruptionRecords pp s ++ later)) s t := by
  obtain ⟨hrun, -, hqueue⟩ := hruns
  let x := s.moved .openContact .made .isOpen
  let v := x.pulseEnded
  have hpulse : openPulse fin x = pp := by
    rw [hpp]
    simp only [openPulse, pulsePart, x, State.moved, readContact_keeps]
  have hend : endByPosition .isOpen fin x = tripDone pp fin.partFirst v r rest := by
    rw [endByPosition_opens fin x (by simpa [x, State.moved]), hpulse]
    exact tripCompletion_eq .done pp v r rest fin.partFirst hpart htrip
  have hdone : pp.outcome = .done := hpp ▸ (openPulse_eq fin s).1
  obtain ⟨hworn, hwritten⟩ := takeInterruption_done pp v hdone htop
  obtain ⟨hkept, hwrite⟩ := tripAllRecorded_worn r pp v hrun
  have hnoted := tripAllRecorded_noted r pp v hrun
  have hover := wearKept_tripOver hnoted.stage (afterTrip .done (decidingState pp fin.partFirst v))
  have hover' : wearKept 2 (tripAllRecorded r pp v) (tripDone pp fin.partFirst v r rest) :=
    hover.trans (wearKept_tripReported hover.stage (r :: rest))
  have hall := hover'.trans (wearKept_seqEvent_opened hover'.stage)
  obtain ⟨later, hlen, hlater⟩ := hall.logs
  rw [exec_opens s fin hrun hopens, hend, pump_without_frames _ (hall.queue.trans (hnoted.queue.trans hqueue))]
  exact ⟨_, rfl, hall.wear.trans (hkept.trans hworn), hall.queued _ (hwrite _ hwritten), _, later, hlen, hnoted.logs.trans hlater⟩

/-- Settles O40: the interruption's wear is formed before SEQ decides anything, and no later step of either event touches it. -/
theorem interruptionAddsWear : Obligations.InterruptionAddsWear := by
  refine fun s fin r rest hruns hpart htrip htop => ⟨fun hact hopens => ?_, fun hpulse => ?_⟩
  · let pp := openPulse fin s
    obtain ⟨hdone, ha, hb, hc, hms⟩ := openPulse_eq fin s
    obtain ⟨t, hexec, hwear, hqueued, first, later, hlater, hlogs⟩ :=
      exec_opens_wear fin s r rest hruns hpart htrip htop hact hopens pp rfl
    obtain ⟨hphase, hlimit, hops⟩ : t.orl.phase = ((s.orl.addWear pp).form s.sst.globalPage.wearBudget).phase ∧
        t.orl.limit = ((s.orl.addWear pp).form s.sst.globalPage.wearBudget).anyWorn ∧
        t.orl.opCount = if 0 < pp.pulse then s.orl.opCount + 1 else s.orl.opCount := by
      simpa [Orl.wear] using hwear
    have hq (q : Phase) : t.orl.phase q = ((s.orl.addWear pp).phase q).form s.sst.globalPage.wearBudget := by
      rw [hphase, Orl.form_phase]
    have hcount (q : Phase) : (t.orl.phase q).count = ((s.orl.addWear pp).phase q).count := by
      rw [hq]
      rfl
    have hgrown (q : Phase) : (t.orl.phase q).count = min 4000000000 ((s.orl.phase q).count + (min 20000 (pp.amps q)) ^ 2 / 10000) := by
      rw [hcount, Orl.addWear_phase pp s.orl hdone, PhaseWear.add_count]
    have hcounts : t.orl.counts = (s.orl.addWear pp).counts := by
      change WearCounts.mk (t.orl.phase .a).count (t.orl.phase .b).count (t.orl.phase .c).count = _
      rw [hcount, hcount, hcount]
      rfl
    have hdue : wearsDue s t = interruptionRecords pp s := by
      refine (wearsDue_of_formed _ (s.orl.addWear pp) s t (fun q => ?_) hphase).trans (if_pos hdone).symm
      rw [Orl.addWear_phase pp s.orl hdone q]
      rfl
    refine ⟨t, hexec, ?_⟩
    intro grown
    refine ⟨?_, ?_, ?_, ?_, ?_, fun q => ?_, fun i b hi => ?_, ?_⟩
    · rw [← ha]
      exact hgrown .a
    · rw [← hb]
      exact hgrown .b
    · rw [← hc]
      exact hgrown .c
    · change writeQueued (.wear t.orl.counts) t
      rwa [hcounts]
    · rw [hops, hms]
      split_ifs <;> simp_all
    · rw [hq]
      exact (PhaseWear.form_formed _ _).2
    · have hlen := interruptionRecords_length pp s
      rw [hdue] at hi
      rw [Nat.add_comm 1 i]
      refine hlogs.mem_ring (by simp only [List.length_cons, List.length_append]; omega) ?_
      rw [List.getElem?_cons_succ, List.getElem?_append_left (List.getElem?_eq_some_iff.1 hi).1, hi]
    · rw [hlimit, Orl.anyWorn_iff, ← hphase]
      exact Orl.exists_worn_iff t.orl
  · obtain ⟨t, hexec, hwear⟩ := exec_tripPulseTimeout_wear fin s r rest hruns hpart htrip hpulse
    obtain ⟨hphase, hlimit, hcount⟩ := (Orl.wear_eq_iff _ _).1 hwear
    exact ⟨t, hexec, congrFun hphase .a, congrFun hphase .b, congrFun hphase .c, hcount, hlimit⟩

end Sys2Proof.Machine
end

section
/-! SUPPORT. The outbox (spec/08 R152 to R160): what an arrival, a return, a removal and a transmission do to an outbox in order, within
its 32 entries, with at most one WAITING STATUS entry and one report in flight. -/

namespace Sys2Proof.Machine

/-! ### Entries counted -/

theorem insertEntry_perm (x : Entry) (l : List Entry) : (insertEntry x l).Perm (x :: l) := by
  induction l with
  | nil => exact .refl _
  | cons y rest ih =>
    rw [insertEntry]
    split
    · exact .refl _
    · exact (ih.cons y).trans (.swap x y rest)

theorem countP_eraseP_self {α : Type} (p : α → Bool) (l : List α) : (l.eraseP p).countP p = l.countP p - 1 := by
  induction l with
  | nil => rfl
  | cons x rest ih =>
    cases hx : p x with
    | true => simp [hx]
    | false => simp [hx, ih]

theorem countP_eraseLast_self (p : Entry → Bool) (l : List Entry) : (eraseLast p l).countP p = l.countP p - 1 := by
  rw [eraseLast, List.countP_reverse, countP_eraseP_self, List.countP_reverse]

theorem eraseLast_length (p : Entry → Bool) (l : List Entry) (x : Entry) (hx : x ∈ l) (hp : p x = true) :
    (eraseLast p l).length = l.length - 1 := by
  rw [eraseLast, List.length_reverse, List.length_eraseP_of_mem (List.mem_reverse.2 hx) hp, List.length_reverse]

/-- Where at most one entry satisfies p, none is left without it. -/
theorem eraseP_all_false {α : Type} (p : α → Bool) (l : List α) (h : l.countP p ≤ 1) (x : α) (hx : x ∈ l.eraseP p) : p x = false := by
  have hzero : (l.eraseP p).countP p = 0 := by rw [countP_eraseP_self]; omega
  simpa using List.countP_eq_zero.1 hzero x hx

/-! ### The rules of the outbox -/

/-- A WAITING STATUS entry. -/
def Entry.statusWaits (e : Entry) : Bool := e.cls == .status && !e.await

/-! ### Entries that return (R152, R159) -/

@[simp] theorem Entry.returned_order (countTry : Bool) (e : Entry) : (e.returned countTry).order = e.order := by
  unfold Entry.returned
  split <;> rfl

@[simp] theorem Entry.returned_await (countTry : Bool) (e : Entry) : (e.returned countTry).await = false := by
  unfold Entry.returned
  split
  · rfl
  · exact Bool.eq_false_of_not_eq_true ‹_›

theorem Entry.returned_sound (countTry : Bool) (e : Entry) (h : e.sound) : (e.returned countTry).sound := by
  obtain ⟨htries, hseq, hrecord, hcarried, -⟩ := h
  unfold Entry.returned
  split
  · refine ⟨?_, hseq, hrecord, hcarried, by simp⟩
    dsimp only
    split <;> omega
  · exact ⟨htries, hseq, hrecord, hcarried, by simp_all⟩

theorem Entry.statusWaits_returned (countTry : Bool) (e : Entry) : (e.returned countTry).statusWaits = (e.cls == .status) := by
  simp [Entry.statusWaits]

/-- The outbox as R153, R156 and R158 have it, with every creation order below `next`. -/
structure OutboxSound (next : Nat) (l : List Entry) : Prop where
  length : l.length ≤ 32
  ordered : l.Pairwise Entry.ahead
  entries : ∀ e ∈ l, e.sound ∧ e.order < next
  flight : l.countP (·.await) ≤ 1
  status : l.countP Entry.statusWaits ≤ 1

namespace OutboxSound

theorem empty (next : Nat) : OutboxSound next [] := ⟨by simp, .nil, by simp, by simp, by simp⟩

section
variable {next : Nat} {l : List Entry} (h : OutboxSound next l)
include h

theorem sublist {l' : List Entry} (hl : l'.Sublist l) : OutboxSound next l' :=
  ⟨hl.length_le.trans h.length, h.ordered.sublist hl, fun e he => h.entries e (hl.subset he), hl.countP_le.trans h.flight,
    hl.countP_le.trans h.status⟩

/-! ### Arrivals (R153 to R156) -/

/-- The youngest entry of all joins an outbox with room. -/
theorem insert {x : Entry} (hroom : l.length < 32) (hx : x.sound) (horder : x.order = next) (hwaits : x.await = false)
    (hstatus : x.cls = .status → l.countP Entry.statusWaits = 0) : OutboxSound (next + 1) (insertEntry x l) := by
  have hperm := insertEntry_perm x l
  refine ⟨?_, insertEntry_pairwise x l h.ordered fun y hy => horder ▸ (h.entries y hy).2, fun e he => ?_, ?_, ?_⟩
  · rw [hperm.length_eq]
    exact hroom
  · rcases (mem_insertEntry x e l).1 he with rfl | he
    · exact ⟨hx, by omega⟩
    · exact ⟨(h.entries e he).1, (h.entries e he).2.trans (Nat.lt_succ_self _)⟩
  · rw [hperm.countP_eq, List.countP_cons_of_neg (by simp [hwaits])]
    exact h.flight
  · rw [hperm.countP_eq]
    by_cases hcls : x.cls = .status
    · rw [List.countP_cons, hstatus hcls]
      split <;> omega
    · rw [List.countP_cons_of_neg (by simp [Entry.statusWaits, hcls])]
      exact h.status

theorem next_succ : OutboxSound (next + 1) l :=
  ⟨h.length, h.ordered, fun e he => ⟨(h.entries e he).1, (h.entries e he).2.trans (Nat.lt_succ_self _)⟩, h.flight, h.status⟩

theorem arrive {x : Entry} (hx : x.sound) (horder : x.order = next) (hwaits : x.await = false)
    (hstatus : x.cls = .status → l.countP Entry.statusWaits = 0) : OutboxSound (next + 1) (arrive x l).1 := by
  have joins (l' : List Entry) (hl : l'.Sublist l) (hroom : l'.length < 32) : OutboxSound (next + 1) (insertEntry x l') :=
    (h.sublist hl).insert hroom hx horder hwaits fun hcls => Nat.le_zero.1 (hstatus hcls ▸ hl.countP_le)
  by_cases hroom : l.length < 32
  · rw [arrive_room x l hroom]
    exact joins l (.refl l) hroom
  · have hfull : l.length = 32 := le_antisymm h.length (Nat.not_lt.1 hroom)
    rw [arrive_full x l hfull]
    split
    · exact h.next_succ
    · rename_i y hy
      have hmem : y ∈ l ∧ (!y.await) = true := List.mem_filter.1 (List.mem_of_getLast? hy)
      split
      · exact joins _ (eraseLast_sublist _ l) (by rw [eraseLast_length _ l y hmem.1 hmem.2]; omega)
      · split
        · exact joins _ List.eraseP_sublist (by rw [List.length_eraseP_of_mem hmem.1 hmem.2]; omega)
        · exact h.next_succ

end

end OutboxSound

/-! ### Returns (R152, R159) -/

/-- A return leaves some of the entries, WAITING. -/
theorem returnAwait_sublist (countTry : Bool) (l : List Entry) : (returnAwait countTry l).Sublist (l.map (Entry.returned countTry)) := by
  obtain hall | ⟨-, hall⟩ := returnAwait_cases countTry l <;> rw [hall]
  exact eraseLast_sublist _ _

theorem returnAwait_waits (countTry : Bool) (l : List Entry) (e : Entry) (he : e ∈ returnAwait countTry l) : e.await = false := by
  obtain ⟨x, -, rfl⟩ := List.mem_map.1 ((returnAwait_sublist countTry l).subset he)
  exact x.returned_await countTry

/-- At most one STATUS entry is left behind a return: of two the younger goes. -/
theorem returnAwait_status (countTry : Bool) (l : List Entry) (hwaits : l.countP Entry.statusWaits ≤ 1)
    (hflight : l.countP (·.await) ≤ 1) : (returnAwait countTry l).countP (·.cls == .status) ≤ 1 := by
  have hmap : (l.map (Entry.returned countTry)).countP (·.cls == .status) = l.countP (·.cls == .status) := by
    simp [List.countP_map, Function.comp_def]
  have hsplit : l.countP (·.cls == .status) = l.countP Entry.statusWaits + l.countP (fun e => e.cls == .status && e.await) := by
    clear hwaits hflight hmap
    induction l with
    | nil => rfl
    | cons x rest ih => cases hx : x.await <;> simp [List.countP_cons, ih, Entry.statusWaits, hx] <;> omega
  have hreturning : l.countP (fun e => e.cls == .status && e.await) ≤ 1 :=
    (List.countP_mono_left (by simp)).trans hflight
  by_cases hone : (l.map (Entry.returned countTry)).countP (·.cls == .status) ≤ 1
  · rwa [returnAwait_keeps_all countTry l (Or.inr hone)]
  · obtain ⟨x, hx, hboth⟩ := List.countP_pos_iff.1 (show 0 < l.countP (fun e => e.cls == .status && e.await) by omega)
    have hx' : x ∈ l ∧ x.await = true ∧ x.cls = .status := by simp_all
    rw [returnAwait_gives_up countTry l x hx' (by omega), countP_eraseLast_self]
    omega

theorem OutboxSound.returnAwait {next : Nat} {l : List Entry} (h : OutboxSound next l) (countTry : Bool) :
    OutboxSound next (returnAwait countTry l) := by
  have hsub := returnAwait_sublist countTry l
  have hwaits := returnAwait_waits countTry l
  refine ⟨by simpa using hsub.length_le.trans (by simpa using h.length), ?_, fun e he => ?_, ?_, ?_⟩
  · refine List.Pairwise.sublist hsub (List.pairwise_map.2 (h.ordered.imp fun hxy => ?_))
    simpa [Entry.ahead] using hxy
  · obtain ⟨x, hx, rfl⟩ := List.mem_map.1 (hsub.subset he)
    exact ⟨x.returned_sound countTry (h.entries x hx).1, by simpa using (h.entries x hx).2⟩
  · rw [List.countP_eq_zero.2 (by simpa using hwaits)]
    exact Nat.zero_le 1
  · exact (List.countP_mono_left (by simp +contextual [Entry.statusWaits])).trans (returnAwait_status countTry l h.status h.flight)

/-! ### A transmission (R158) -/

theorem replaceFirst_between (p : Entry → Bool) (f : Entry → Entry) (before : List Entry) (e : Entry) (after : List Entry)
    (hbefore : ∀ x ∈ before, p x = false) (he : p e = true) : replaceFirst p f (before ++ e :: after) = before ++ f e :: after := by
  induction before with
  | nil => simp [replaceFirst, he]
  | cons x rest ih =>
    obtain ⟨hx, hrest⟩ := List.forall_mem_cons.1 hbefore
    simp [replaceFirst, hx, ih hrest]

/-- A WAITING entry goes out where none is in flight. -/
theorem OutboxSound.sent {next : Nat} {before : List Entry} {e : Entry} {after : List Entry}
    (h : OutboxSound next (before ++ e :: after)) (hnone : ∀ x ∈ before ++ e :: after, x.await = false) (lost n : Nat) (hn : n ≤ 255) :
    OutboxSound next (before ++ sentEntry lost n e :: after) := by
  have he : e ∈ before ++ e :: after := by simp
  refine ⟨by simpa using h.length, ?_, fun x hx => ?_, ?_, ?_⟩
  · simpa [List.pairwise_append, Entry.ahead, sentEntry] using h.ordered
  · by_cases hxe : x = sentEntry lost n e
    · obtain ⟨⟨htries, -, hrecord, -⟩, horder⟩ := h.entries e he
      rw [hxe]
      exact ⟨⟨htries, by simpa [sentEntry] using hn, hrecord, by simp [sentEntry], by simp [sentEntry]⟩, horder⟩
    · have hmem : x ∈ before ∨ x ∈ after := by simpa [hxe] using hx
      exact h.entries x (by rcases hmem with hmem | hmem <;> simp [hmem])
  · have hzero (l : List Entry) (hl : ∀ x ∈ l, x.await = false) : l.countP (·.await) = 0 :=
      List.countP_eq_zero.2 (by simpa using hl)
    obtain ⟨hbefore, hrest⟩ := List.forall_mem_append.1 hnone
    rw [List.countP_append, List.countP_cons, hzero before hbefore, hzero after (List.forall_mem_cons.1 hrest).2]
    split <;> omega
  · have hsent : (sentEntry lost n e).statusWaits = false := by simp [sentEntry, Entry.statusWaits]
    refine le_trans ?_ h.status
    simp [List.countP_append, List.countP_cons, hsent]

end Sys2Proof.Machine
end

section
/-! SUPPORT. What the other blocks hand the RCC (spec/08 R154, R155, R162, R164): reports of records, STATUS requests and results. Every
operation of SEQ, ACT, ORL, TAG and the host line comes down to these, so what they keep holds across all of them. -/

namespace Sys2Proof.Machine

/-! ### The hands -/

/-- The RCC after a report of a class (R154 to R156, R160). -/
def Rcc.reported (cls : Class) (record : Option Nat) (r : Rcc) : Rcc :=
  let x := arrive ⟨cls, record, false, 0, none, none, r.nextOrder⟩ r.outbox
  { r with outbox := x.1, lost := lostUp r.lost x.2, nextOrder := r.nextOrder + 1 }

theorem report_rcc (cls : Class) (record : Option Nat) (s : State) : (report cls record s).rcc = s.rcc.reported cls record := rfl

/-- One thing that another block hands the RCC. -/
inductive Rcc.Hand : Rcc → Rcc → Prop
  /-- The report of a record (R154). -/
  | record (r : Rcc) (cls : Class) (n : Nat) (h : cls ≠ .status) : Hand r (r.reported cls (some n))
  /-- A STATUS request that no WAITING entry absorbs (R155). -/
  | status (r : Rcc) (h : r.outbox.any Entry.statusWaits = false) : Hand r (r.reported .status none)
  /-- An owner's result (R162, R164). -/
  | result (r : Rcc) (pending : Option RadioReply) (stored : Option (Res × Nat)) :
      Hand r { r with pending := pending, stored := stored }
  /-- A minute of the STATUS interval (R155). -/
  | interval (r : Rcc) (left : Option Nat) : Hand r { r with statusLeft := left }

/-- Any number of them, one after another. -/
abbrev Rcc.Handed : Rcc → Rcc → Prop := Relation.ReflTransGen Rcc.Hand

@[simp] theorem Rcc.handed_self (r : Rcc) : r.Handed r := .refl

/-- What each of them keeps, all of them keep. -/
theorem Rcc.Handed.keeps {P : Rcc → Prop} {r t : Rcc} (h : r.Handed t) (hand : ∀ {x y : Rcc}, x.Hand y → P x → P y) (hr : P r) : P t := by
  induction h with
  | refl => exact hr
  | tail _ hxy ih => exact hand hxy ih

/-- Nothing handed to the RCC is a command of the master (R161). -/
theorem Rcc.Handed.lastId {r t : Rcc} (h : r.Handed t) : t.lastId = r.lastId :=
  h.keeps (P := fun x => x.lastId = r.lastId) (fun hxy hx => by cases hxy <;> exact hx) rfl

section
variable {r : Rcc} {s : State} (h : r.Handed s.rcc)
include h

/-! ### Records, requests and results (spec/07 R136; spec/08 R155, R162) -/

theorem reportRecord_handed (x : Record) : r.Handed (reportRecord x s).rcc := by
  unfold reportRecord
  split
  · rename_i cls hcls
    refine h.tail (.record s.rcc cls x.number ?_)
    rintro rfl
    cases hb : x.body <;> simp [hb, RecBody.reportClass] at hcls
  · exact h

theorem enterRecord_handed (x : Record) : r.Handed (enterRecord x s).rcc :=
  reportRecord_handed (by simpa) x

@[simp] theorem complete_handed (body : RecBody) : r.Handed (complete body s).rcc := by
  unfold complete
  split
  · exact h
  · exact enterRecord_handed h _

@[simp] theorem completeAll_handed (bodies : List RecBody) : r.Handed (completeAll bodies s).rcc :=
  List.foldlRecOn (motive := fun x : State => r.Handed x.rcc) bodies _ h fun _ hx body _ => complete_handed hx body

@[simp] theorem makeStatus_handed : r.Handed (makeStatus s).rcc := by
  unfold makeStatus
  split
  · exact h
  · rename_i hnone
    exact h.tail (.status s.rcc (Bool.eq_false_of_not_eq_true hnone))

@[simp] theorem statusRequest_handed : r.Handed (statusRequest s).rcc := by
  unfold statusRequest
  split <;> simp [h]

@[simp] theorem radioResult_handed (id : Nat) (res : Res) (detail : Nat) : r.Handed (radioResult id res detail s).rcc :=
  h.tail (.result s.rcc _ _)

@[simp] theorem answer_handed (src : Src) (res : Res) (detail : Nat) (body : Bytes) : r.Handed (answer src res detail body s).rcc := by
  cases src <;> simp [answer, h]

@[simp] theorem answerHeldClose_handed (res : Res) : r.Handed (answerHeldClose res s).rcc := by
  unfold answerHeldClose
  split <;> simp [h]

@[simp] theorem endTest_handed (o : TestOutcome) (x mv : Option Nat) : r.Handed (endTest o x mv s).rcc := by
  simp [endTest, h]

/-! ### SEQ's entries (spec/03 R43 to R65) -/

@[simp] theorem applyGroup_handed (g : Nat) : r.Handed (applyGroup g s).rcc := by
  simp [applyGroup, h]

@[simp] theorem applyPending_handed : r.Handed (applyPending s).rcc := by
  unfold applyPending
  split <;> simp [h]

@[simp] theorem enterLockout_handed (c : Cause) : r.Handed (enterLockout c s).rcc := by
  simp [enterLockout, h]

@[simp] theorem enterMechFail_handed : r.Handed (enterMechFail s).rcc := by
  unfold enterMechFail
  split <;> simp [h]

@[simp] theorem enterClosed_handed : r.Handed (enterClosed s).rcc := by
  simp only [enterClosed]
  split <;> simp [h]

/-! ### Pulses and their completions (spec/03 R48 to R58, spec/04 R72 to R80) -/

@[simp] theorem handPart_handed (p : TripPart) : r.Handed (handPart p s).rcc := by
  unfold handPart
  split <;> simp [completeTrip, h]

@[simp] theorem handSeqPart_handed : r.Handed (handSeqPart s).rcc := by
  unfold handSeqPart
  split <;> simp [h]

@[simp] theorem seqCloseCompletion_handed (o : PulseOutcome) : r.Handed (seqCloseCompletion o s).rcc := by
  have hfailed := complete_handed h (.mechFail .close)
  have hlocked := enterLockout_handed hfailed .mechCleared
  unfold seqCloseCompletion
  cases s.seq.state with
  | reclosing => cases o <;> simp [h, hlocked]
  | closing => cases o <;> simp [h, hlocked]
  | tripping => cases o <;> simp [h]
  | _ => exact h

@[simp] theorem carryOut_handed (d : AfterTrip) : r.Handed (carryOut d s).rcc := by
  cases d <;> simp [carryOut, h]

@[simp] theorem tripCompletion_handed (o : PulseOutcome) (pp : PulsePart) (partFirst : Bool) :
    r.Handed (tripCompletion o pp partFirst s).rcc := by
  have hpart (x : State) (hx : r.Handed x.rcc) : r.Handed (handPart (.pulse pp) (takeInterruption pp x)).rcc := by simp [hx]
  have hseq (x : State) (hx : r.Handed x.rcc) : r.Handed (handSeqPart (countTrip o x)).rcc := by simp [hx]
  have hdecided (d : AfterTrip) (wear : List RecBody) (x : State) (hx : r.Handed x.rcc) :
      r.Handed (carryOut d { completeAll wear x with seq := { (completeAll wear x).seq with trip := none } }).rcc := by simp [hx]
  cases partFirst <;> simp only [tripCompletion] <;> split
  · exact hdecided _ _ _ (hpart _ (hseq _ h))
  · exact hdecided _ _ _ (hpart _ (hseq _ h))
  · exact hdecided _ _ _ (hseq _ (hpart _ h))
  · exact hdecided _ _ _ (hseq _ (hpart _ h))

@[simp] theorem endTrip_handed (o : PulseOutcome) (pulse : Nat) (fin : PulseEnd) : r.Handed (endTrip o pulse fin s).rcc := by
  unfold endTrip
  split <;> simp [h]

@[simp] theorem endHeldTrip_handed (fin : PulseEnd) : r.Handed (endHeldTrip fin s).rcc := by
  simp [endHeldTrip, h]

@[simp] theorem handCloseRecord_handed (b : RecBody) (o : PulseOutcome) : r.Handed (handCloseRecord b o s).rcc := by
  simp only [handCloseRecord]
  split <;> simp [h]

@[simp] theorem endClose_handed (o : PulseOutcome) (pulse : Nat) (fin : PulseEnd) : r.Handed (endClose o pulse fin s).rcc := by
  simp only [endClose]
  (repeat' split) <;> simp [h]

@[simp] theorem actTrip_handed : r.Handed (actTrip s).rcc := by
  unfold actTrip
  split <;> simp [cutClose, h]

/-! ### SEQ (spec/03 R44 to R66) -/

@[simp] theorem seqTrip_handed (q : TripReq) : r.Handed (seqTrip q s).rcc := by
  have hnow : r.Handed (tripNow q s).rcc := by simp [tripNow, h]
  have hattempt : r.Handed (tripAttempt q s).rcc := by
    unfold tripAttempt
    split <;> simp [h]
  unfold seqTrip
  cases s.seq.state with
  | tripping => exact h
  | lockout => exact hattempt
  | mechFail => exact hattempt
  | _ => exact hnow

@[simp] theorem seqOpen_handed (a : Authority) (src : Src) : r.Handed (seqOpen a src s).rcc := by
  have htrip := seqTrip_handed h (.command a)
  have hlock := enterLockout_handed h .commandOpen
  unfold seqOpen
  cases s.seq.state with
  | deadTime => exact answer_handed hlock _ _ _ _
  | recloseHold => exact answer_handed hlock _ _ _ _
  | lockout =>
    dsimp only
    split
    · exact answer_handed h _ _ _ _
    · exact answer_handed htrip _ _ _ _
  | _ => exact answer_handed htrip _ _ _ _

@[simp] theorem seqClose_handed (a : Authority) (src : Src) : r.Handed (seqClose a src s).rcc := by
  rcases seqClose_cases a src s with ⟨res, hrefused⟩ | ⟨-, hclose⟩
  · simp [hrefused, h]
  · simp [hclose, h]

@[simp] theorem deadEnd_handed (d : DeadEnd) : r.Handed (deadEnd d s).rcc := by
  have hrefused (x : Res) : r.Handed (autoRefused x s).rcc := by
    unfold autoRefused
    (repeat' split) <;> simp [h]
  cases d with
  | lockout c => exact enterLockout_handed h c
  | holdSource => simp [deadEnd, h]
  | close =>
    simp only [deadEnd, autoClose]
    split
    · simp [h]
    · exact hrefused _

theorem deadTimeEnd_handed : r.Handed (deadTimeEnd s).rcc := by
  simp [deadTimeEnd, h]

@[simp] theorem seqSourceLive_handed : r.Handed (seqSourceLive s).rcc := by
  unfold seqSourceLive
  split <;> simp [h]

@[simp] theorem holdEnd_handed : r.Handed (holdEnd s).rcc := by
  unfold holdEnd
  split <;> simp [h]

@[simp] theorem seqPosition_handed (p : Position) : r.Handed (seqPosition p s).rcc := by
  unfold seqPosition
  (repeat' split) <;> simp [h]

@[simp] theorem seqSelect_handed (g : Nat) (src : Src) : r.Handed (seqSelect g src s).rcc := by
  unfold seqSelect
  (repeat' split) <;> simp [h]

@[simp] theorem takeEvent_handed (e : SeqEvent) : r.Handed (takeEvent e s).rcc := by
  cases e with
  | trip q => exact seqTrip_handed h q
  | departure =>
    simp only [takeEvent, seqDeparture]
    split <;> simp [h]
  | tagAccepted =>
    simp only [takeEvent, seqTagAccepted]
    split <;> simp [h]
  | energyReady =>
    simp only [takeEvent, seqEnergyReady]
    split <;> simp [h]
  | position p => exact seqPosition_handed h p
  | openCmd a src => exact seqOpen_handed h a src
  | closeCmd a src => exact seqClose_handed h a src
  | select g src => exact seqSelect_handed h g src

@[simp] theorem seqEvent_handed (e : SeqEvent) : r.Handed (seqEvent e s).rcc := by
  unfold seqEvent
  split <;> simp [h]

theorem mechFailCleared_handed : r.Handed (mechFailCleared s).1.rcc := by
  unfold mechFailCleared
  (repeat' split) <;> simp [h]

/-! ### The update, tags and the battery (spec/02, spec/05, spec/06) -/

theorem magnitudeUpdate_handed (block : List SampleSet) : r.Handed (magnitudeUpdate block s).rcc := by
  have updated (x : State) (hx : r.Handed x.rcc) : r.Handed (peuUpdate x).rcc := by
    have htrip : r.Handed (requestTrip ((peuInputs x).cause x.peu) { x with peu := (peuInputs x).update x.peu }).rcc := by
      unfold requestTrip
      split <;> simp [hx]
    unfold peuUpdate
    dsimp only
    split <;> simp [htrip]
  have applied (x : State) (hx : r.Handed x.rcc) : r.Handed (applyWhenQuiet x).rcc := by
    unfold applyWhenQuiet
    split <;> simp [hx]
  have lined (x : State) (hx : r.Handed x.rcc) : r.Handed (lineUpdate x).rcc := by
    have hrecord (old new : LineState) : r.Handed (sourceRecord old new { x with lsu := x.lsu.qualifySides }).rcc := by
      unfold sourceRecord
      split <;> simp [hx]
    unfold lineUpdate
    dsimp only
    split <;> simp [hrecord]
  exact lined _ (applied _ (updated _ h))

theorem acceptTag_handed (t : TagTable) (x : Tag) : r.Handed (acceptTag t x s).rcc := by
  simp [acceptTag, h]

@[simp] theorem placeTag_handed (a : Authority) (crew mode expiry : Nat) : r.Handed (placeTag a crew mode expiry s).1.rcc := by
  rcases placeTag_cases a crew mode expiry s with hsame | ⟨-, x, -, hrefreshed⟩ | ⟨-, -, -, hstored⟩
  · exact hsame.symm ▸ h
  · exact hrefreshed ▸ acceptTag_handed h _ _
  · exact hstored ▸ acceptTag_handed h _ _

@[simp] theorem removeTag_handed (x : Tag) (c : RemovalCause) (a : Option Authority) : r.Handed (removeTag x c a s).rcc := by
  simp [removeTag, h]

@[simp] theorem tagRemove_handed (a : Authority) (number crew : Nat) : r.Handed (tagRemove a number crew s).1.rcc := by
  unfold tagRemove
  (repeat' split) <;> simp [h]

@[simp] theorem tagClear_handed (a : Authority) (number : Nat) : r.Handed (tagClear a number s).1.rcc := by
  unfold tagClear
  (repeat' split) <;> simp [h]

@[simp] theorem tagMinute_handed : r.Handed (tagMinute s).rcc := by
  have hexpired (x : State) (hx : r.Handed x.rcc) : r.Handed (expireTags x).rcc :=
    List.foldlRecOn (motive := fun y : State => r.Handed y.rcc) _ _ hx fun _ hy y _ => removeTag_handed hy y .expired none
  unfold tagMinute
  dsimp only
  split <;> simp [hexpired, h]

@[simp] theorem completeMinute_handed : r.Handed (completeMinute s).rcc := by
  have hminute (x : State) (hx : r.Handed x.rcc) : r.Handed (rccMinute x).rcc := by
    unfold rccMinute
    split
    · exact hx
    · split
      · exact statusRequest_handed (hx.tail (.interval x.rcc _))
      · exact hx.tail (.interval x.rcc _)
  exact hminute _ (by simp [h])

@[simp] theorem runSecond_handed : r.Handed (runSecond s).rcc := by
  unfold runSecond
  split <;> simp [h]

@[simp] theorem endTestByLevel_handed (x : TestReading) : r.Handed (endTestByLevel x s).rcc := by
  unfold endTestByLevel
  split <;> simp [endLoaded, h]

@[simp] theorem cancelTest_handed : r.Handed (cancelTest s).rcc := by
  unfold cancelTest
  split <;> simp [h]

/-! ### Settings and host requests (spec/09 R173 to R178, spec/10 R183, R184) -/

@[simp] theorem formWear_handed : r.Handed (formWear s).rcc := by
  simp [formWear, h]

@[simp] theorem resetWear_handed (p : Phase) : r.Handed (resetWear p s).rcc := by
  simp [resetWear, h]

@[simp] theorem selectGroup_handed (g : Nat) (src : Src) : r.Handed (selectGroup g src s).rcc := by
  unfold selectGroup
  (repeat' split) <;> simp [h]

@[simp] theorem ownCommand_handed (c : RadioCmd) : r.Handed (ownCommand c s).rcc := by
  unfold ownCommand
  split <;> simp [h]

@[simp] theorem serve_handed (a : Authority) (q : Request) : r.Handed (serve a q s).rcc := by
  cases q with
  | mechFailClear =>
    simp only [serve, serveMechFailClear]
    split
    · simp [h]
    · simpa using mechFailCleared_handed h
  | wearReset phase =>
    simp only [serve, serveWearReset]
    (repeat' split) <;> simp [h]
  | _ => simp [serve, serveTagPlace, h]

@[simp] theorem pump_handed : r.Handed (pump s).rcc := by
  have served (n : Nat) (x : State) (hx : r.Handed x.rcc) : r.Handed (pumpFor n x).rcc := by
    induction n generalizing x with
    | zero => exact hx
    | succ n ih =>
      unfold pumpFor serveNext
      (repeat' split)
      · exact ih _ hx
      · exact ih _ (by simp [hx])
      · exact hx
  exact served 5 s h

@[simp] theorem receive_handed (f : RxFrame) : r.Handed (receive f s).rcc := by
  unfold receive
  split <;> simp [h]

@[simp] theorem feed_handed (bytes : Bytes) : r.Handed (feed bytes s).rcc := by
  have received (n : Nat) (bs : Bytes) (x : State) (hx : r.Handed x.rcc) : r.Handed (receiveBytes n bs x).rcc := by
    induction n generalizing bs x with
    | zero => exact hx
    | succ n ih =>
      unfold receiveBytes
      split
      · exact ih _ x hx
      · exact hx
      · exact ih _ _ (receive_handed hx _)
  unfold feed
  split
  · exact h
  · exact received _ _ s h

/-! ### Contacts, the capacitor and the start reading (spec/04 R69, R82; spec/07 R140) -/

theorem startReading_handed (k : StartKind) (p : Position) : r.Handed (startReading k p s).rcc := by
  have released (w : Held) (x : State) (hx : r.Handed x.rcc) : r.Handed (release w x).rcc := by
    cases w with
    | record body time valid => exact enterRecord_handed hx _
    | status => exact makeStatus_handed hx
  have announced (x : State) (hx : r.Handed x.rcc) : r.Handed (announceStart k x).rcc := by
    refine List.foldlRecOn (motive := fun y : State => r.Handed y.rcc) _ _ (enterRecord_handed ?_ _) fun _ hy w _ => released w _ hy
    exact hx
  have taken (x : State) (hx : r.Handed x.rcc) : r.Handed (takeHeldEvents x).rcc := by
    refine List.foldlRecOn (motive := fun y : State => r.Handed y.rcc) _ _ ?_ fun _ hy e _ => takeEvent_handed hy e
    exact hx
  exact pump_handed (taken _ (announced _ (by simp [decideStart, h])))

theorem contactRead_handed (c : Contact) (x : ContactState) (ms : Nat) (fin : PulseEnd) : r.Handed (contactRead c x ms fin s).rcc := by
  have ended (p : Position) (y : State) (hy : r.Handed y.rcc) : r.Handed (endByPosition p fin y).rcc := by
    unfold endByPosition
    split <;> simp [hy]
  have taken (p : Position) (y : State) (hy : r.Handed y.rcc) : r.Handed (takePosition p fin y).rcc := by
    unfold takePosition
    (repeat' split)
    · exact startReading_handed hy _ _
    · exact hy
    · exact pump_handed (by simp [changePosition, ended, hy])
  unfold contactRead
  dsimp only
  split
  · exact taken _ _ h
  · exact h

theorem measureCap_handed (volts : Nat) : r.Handed (measureCap volts s).rcc := by
  have spent (x : State) (hx : r.Handed x.rcc) : r.Handed (endSpent (clampVolts volts) x).rcc := by
    unfold endSpent
    split <;> simp [hx]
  have released (x : State) (hx : r.Handed x.rcc) : r.Handed (releaseHeld x).rcc := by
    unfold releaseHeld
    split <;> simp [hx]
  have reviewed (before : Bool) (x : State) (hx : r.Handed x.rcc) : r.Handed (rechargeReview before x).rcc := by
    unfold rechargeReview
    (repeat' split) <;> simp [hx]
  have hreviewed := reviewed s.act.rechargeDemand _ (released _ (spent (s.measured volts) h))
  rw [measureCap_eq]
  dsimp only
  split
  · exact seqEvent_handed hreviewed _
  · exact hreviewed

end

end Sys2Proof.Machine
end

section
/-! SUPPORT and PROOFS. The outbox stays sound through every command (spec/08 R150 to R160); O48. -/

namespace Sys2Proof.Machine

/-! ### The rules of the RCC -/

/-- An entry awaits its answer only in SYNCED with the station's slot taken (log 26). -/
def Rcc.flightInSlot (r : Rcc) : Prop := (∃ e ∈ r.outbox, e.await = true) → r.chan = .synced ∧ r.slotTaken = true

/-- The frame timing and the counts within their ranges (R150, R152, R158, R160). -/
def Rcc.countsSound (r : Rcc) : Prop :=
  (r.chan = .synced → r.frameMs.isSome) ∧ r.lost ≤ 65535 ∧ r.nextSeq ≤ 255 ∧ r.missCount ≤ 4

/-- No report is in flight. -/
def Rcc.resting (r : Rcc) : Prop := ∀ e ∈ r.outbox, e.await = false

theorem Rcc.sound_iff (r : Rcc) : r.sound ↔ OutboxSound r.nextOrder r.outbox ∧ r.flightInSlot ∧ r.countsSound :=
  ⟨fun ⟨hlength, hordered, hentries, hflight, hstatus, hslot, hcounts⟩ => ⟨⟨hlength, hordered, hentries, hflight, hstatus⟩, hslot, hcounts⟩,
    fun ⟨⟨hlength, hordered, hentries, hflight, hstatus⟩, hslot, hcounts⟩ => ⟨hlength, hordered, hentries, hflight, hstatus, hslot, hcounts⟩⟩

/-- Without a report in flight the channel is free. -/
theorem Rcc.sound_of_resting {r : Rcc} (hout : OutboxSound r.nextOrder r.outbox) (hrest : r.resting) (hcounts : r.countsSound) : r.sound :=
  r.sound_iff.2 ⟨hout, fun ⟨e, he, hawait⟩ => absurd hawait (by simp [hrest e he]), hcounts⟩

theorem Rcc.idle_sound : Rcc.idle.sound :=
  Rcc.sound_of_resting (.empty _) (by simp [Rcc.resting, Rcc.idle]) (by simp [Rcc.countsSound, Rcc.idle])

/-! ### Reports and results -/

theorem lostUp_le {n : Nat} (h : n ≤ 65535) (more : Bool) : lostUp n more ≤ 65535 := by
  unfold lostUp
  split <;> omega

theorem mem_arrive (x y : Entry) (l : List Entry) (h : y ∈ (arrive x l).1) : y = x ∨ y ∈ l := by
  have joined (l' : List Entry) (hl : l'.Sublist l) (hy : y ∈ insertEntry x l') : y = x ∨ y ∈ l :=
    ((mem_insertEntry x y l').1 hy).imp_right fun hm => hl.subset hm
  unfold arrive at h
  split at h
  · exact joined l (.refl l) h
  · split at h
    · exact Or.inr h
    · split at h
      · exact joined _ (eraseLast_sublist _ l) h
      · split at h
        · exact joined _ List.eraseP_sublist h
        · exact Or.inr h

theorem Rcc.reported_sound (cls : Class) (record : Option Nat) (r : Rcc) (h : r.sound) (hrecord : record = none ↔ cls = .status)
    (hstatus : cls = .status → r.outbox.countP Entry.statusWaits = 0) : (r.reported cls record).sound := by
  obtain ⟨hout, hslot, htiming, hlost, hcounts⟩ := r.sound_iff.1 h
  refine (Rcc.sound_iff _).2 ⟨hout.arrive ?_ rfl rfl hstatus, ?_, htiming, lostUp_le hlost _, hcounts⟩
  · exact ⟨by simp, by simp, hrecord, by simp, by simp⟩
  · rintro ⟨e, he, hawait⟩
    rcases mem_arrive _ e _ he with rfl | he
    · cases hawait
    · exact hslot ⟨e, he, hawait⟩

theorem Rcc.Hand.sound {r t : Rcc} (h : r.Hand t) (hr : r.sound) : t.sound := by
  cases h with
  | record cls n hcls => exact r.reported_sound cls _ hr (by simp [hcls]) fun hstatus => absurd hstatus hcls
  | status hnone =>
    refine r.reported_sound .status none hr (by simp) fun _ => List.countP_eq_zero.2 fun e he hwaits => ?_
    exact absurd (List.any_eq_true.2 ⟨e, he, hwaits⟩) (by simp [hnone])
  | result => exact hr
  | interval => exact hr

theorem Rcc.Handed.sound {r t : Rcc} (h : r.Handed t) (hr : r.sound) : t.sound := h.keeps Rcc.Hand.sound hr

/-! ### The channel (R149 to R160) -/

section
variable {r : Rcc} (h : r.sound)
include h

/-- The report in flight comes back when the channel is lost, at a start, and at a beacon miss. -/
theorem Rcc.sound.returned {t : Rcc} (hout : t.outbox = returnAwait false r.outbox) (hnext : t.nextOrder = r.nextOrder)
    (hcounts : t.countsSound) : t.sound := by
  refine Rcc.sound_of_resting ?_ (fun e he => ?_) hcounts
  · rw [hout, hnext]
    exact (r.sound_iff.1 h).1.returnAwait false
  · rw [hout] at he
    exact returnAwait_waits false _ e he

theorem Rcc.sound.resting_of_slot (hslot : r.slotTaken = false) : r.resting := fun e he =>
  Bool.eq_false_of_not_eq_true fun hawait => by simp [((r.sound_iff.1 h).2.1 ⟨e, he, hawait⟩).2] at hslot

/-- Whatever a beacon answers, it leaves no report in flight (R159). -/
theorem Rcc.resolve_sync_sound (frame station : Nat) (acks : List (Nat × Nat)) : ((r.sync frame).resolve station acks).sound := by
  obtain ⟨hout, -, -, hlost, hseq, -⟩ := r.sound_iff.1 h
  have hsynced {t : Rcc} (hout' : OutboxSound r.nextOrder t.outbox) (hrest : t.resting) (hlost' : t.lost ≤ 65535)
      (ht : t = { r.sync frame with outbox := t.outbox, lost := t.lost }) : t.sound := by
    rw [ht]
    exact Rcc.sound_of_resting hout' hrest ⟨fun _ => rfl, hlost', hseq, Nat.zero_le 4⟩
  have herased : (∀ e ∈ r.outbox.eraseP (·.await), e.await = false) := eraseP_all_false _ _ hout.flight
  unfold Rcc.resolve
  split
  · rename_i hnone
    exact hsynced hout (fun e he => by simpa using List.find?_eq_none.1 hnone e he) hlost rfl
  · rename_i e _
    split
    · refine hsynced (hout.sublist List.eraseP_sublist) herased ?_ rfl
      simp only [Rcc.acknowledged]
      split
      · exact (Nat.sub_le _ _).trans hlost
      · exact hlost
    · unfold Rcc.unacknowledged
      split
      · exact hsynced (hout.sublist List.eraseP_sublist) herased (lostUp_le hlost true) rfl
      · exact hsynced (hout.returnAwait true) (returnAwait_waits true _) hlost rfl

theorem Rcc.endSlotZero_sound : r.endSlotZero.sound := by
  obtain ⟨hout, hslot, -, hcounts⟩ := r.sound_iff.1 h
  unfold Rcc.endSlotZero
  dsimp only
  split
  · exact (Rcc.sound_iff _).2 ⟨hout, hslot, fun _ => rfl, hcounts⟩
  · obtain ⟨hlost, hseq, -⟩ := hcounts
    refine h.returned rfl rfl ⟨fun hchan => ?_, hlost, hseq, Nat.min_le_left _ _⟩
    simp only [Rcc.miss] at hchan ⊢
    split at hchan
    · cases hchan
    · simp [*]

end

theorem Rcc.endSlotZero_resting (r : Rcc) (h : r.resting) : r.endSlotZero.resting := by
  unfold Rcc.endSlotZero
  dsimp only
  split
  · exact h
  · exact returnAwait_waits false _

theorem Rcc.toOwnSlot_keeps {P : Rcc → Prop} (hend : ∀ r, P r → P r.endSlotZero) (station : Nat) (r : Rcc) (h : P r) :
    P (r.toOwnSlot station) := by
  have hfirst : P (if r.missTested then r else r.endSlotZero) := by
    split
    · exact h
    · exact hend r h
  unfold Rcc.toOwnSlot
  dsimp only
  generalize (if r.missTested = true then r else r.endSlotZero) = x at hfirst ⊢
  split
  · exact hend _ hfirst
  · exact hfirst

/-- A report goes out in the station's slot where none is in flight. -/
theorem Rcc.send_sound (level : Level) (e : Entry) (r : Rcc) (h : r.sound) (hrest : r.resting) (hhead : r.head level = some e)
    (hchan : r.chan = .synced) (hslot : r.slotTaken = true) : (r.send level e).sound := by
  obtain ⟨hout, -, htiming, hlost, hseq, hmiss⟩ := r.sound_iff.1 h
  obtain ⟨hp, before, after, hsplit, hbefore⟩ := List.find?_eq_some_iff_append.1 hhead
  have hnumber : e.seqNo.getD r.nextSeq ≤ 255 := by
    obtain ⟨⟨-, hnumbered, -⟩, -⟩ := hout.entries e (by simp [hsplit])
    cases hn : e.seqNo with
    | none => exact hseq
    | some n => exact hnumbered n hn
  have hsent : (r.send level e).outbox = before ++ sentEntry r.lost (e.seqNo.getD r.nextSeq) e :: after := by
    rw [Rcc.send, hsplit, replaceFirst_between _ _ _ _ _ (fun x hx => by simpa only [Bool.not_eq_true'] using hbefore x hx) hp]
  refine (Rcc.sound_iff _).2 ⟨?_, fun _ => ⟨hchan, hslot⟩, htiming, hlost, ?_, hmiss⟩
  · rw [hsent]
    exact OutboxSound.sent (hsplit ▸ hout) (hsplit ▸ hrest) _ _ hnumber
  · simp only [Rcc.send]
    split
    · exact hseq
    · omega

theorem Rcc.tick_sound (r : Rcc) (h : r.sound) : r.tick.sound := by
  obtain ⟨hout, hslot, htiming, hcounts⟩ := r.sound_iff.1 h
  exact (Rcc.sound_iff _).2 ⟨hout, hslot, fun hchan => by simpa [Rcc.tick] using htiming hchan, hcounts⟩

/-! ### The commands that move the channel -/

section
variable {s : State} (h : s.rcc.sound)
include h

theorem goSilent_rccSound : (goSilent s).rcc.sound := by
  obtain ⟨-, -, -, hcounts⟩ := s.rcc.sound_iff.1 h
  exact h.returned rfl rfl ⟨nofun, hcounts⟩

theorem stationChanged_rccSound (id : Nat) : (stationChanged id s).rcc.sound := by
  obtain ⟨-, -, -, hcounts⟩ := s.rcc.sound_iff.1 h
  refine h.returned rfl rfl ⟨?_, hcounts⟩
  simp only [stationChanged]
  split <;> nofun

theorem battMeasure_rccSound (m : BattMeas) (x : TestReading) : (battMeasure m x s).rcc.sound := by
  have taken (l : Level) (y : State) (hy : y.rcc.sound) : (levelTaken l y).rcc.sound := by
    have hrecorded : (complete (.battery l y.bcu.soc y.bcu.meas.mv)
        { y with bcu := { y.bcu with level := l, charge := if l = .exhausted then 0 else y.bcu.charge } }).rcc.sound :=
      Rcc.Handed.sound (r := y.rcc) (by simp) hy
    have silenced (z : State) (hz : z.rcc.sound) : (if l = .exhausted then goSilent z else z).rcc.sound := by
      split
      · exact goSilent_rccSound hz
      · exact hz
    exact silenced _ (by simpa only [queueWrite_keeps] using hrecorded)
  have ended (l : Level) (y : State) (hy : y.rcc.sound) :
      (if y.bcu.level = .normal then endTestByLevel x (levelTaken l y) else levelTaken l y).rcc.sound := by
    split
    · exact (endTestByLevel_handed .refl x).sound (taken l y hy)
    · exact taken l y hy
  have shut (y : State) (hy : y.rcc.sound) : (beginShutdown y).rcc.sound := by
    unfold beginShutdown
    split
    · exact Rcc.Handed.sound (r := y.rcc) (by simp) hy
    · exact hy
  have changed (l : Level) (y : State) (hy : y.rcc.sound) : (changeLevel l x y).rcc.sound := by
    rw [changeLevel_eq]
    dsimp only
    split
    · exact shut _ (ended l y hy)
    · exact ended l y hy
  have hcharged : (s.charged m).rcc.sound := by simpa [State.charged] using h
  rw [battMeasure_eq]
  simp only [resumeTest_keeps]
  split
  · exact hcharged
  · exact changed _ _ hcharged

theorem takeBeacon_rccSound (b : Beacon) : (takeBeacon b s).rcc.sound := by
  have commanded (c : RadioCmd) (x : State) (hx : x.rcc.sound) : (takeCommand c x).rcc.sound := by
    unfold takeCommand
    split
    · exact hx
    · split
      · unfold repeatCommand
        split <;> exact hx
      · split
        · exact hx
        · have hnoted : ({ x.rcc with lastId := some c.id, stored := none } : Rcc).sound := hx
          exact (ownCommand_handed .refl c).sound hnoted
  have hresolved (x : State) (hx : x.rcc = s.rcc.sync b.frame) (station : Nat) : (x.rcc.resolve station b.acks).sound :=
    hx ▸ Rcc.resolve_sync_sound h b.frame station b.acks
  unfold takeBeacon takeCommands
  dsimp only
  split
  · exact commanded _ _ (hresolved _ (by simp) _)
  · exact hresolved _ (by simp) _

theorem takeSlot_rccSound (carrier : Bool) (hslot : s.rcc.slotTaken = false) : (takeSlot carrier s).rcc.sound := by
  let x : State := { s with rcc := s.rcc.toOwnSlot s.sst.globalPage.stationId }
  have hx : x.rcc.sound ∧ x.rcc.resting :=
    Rcc.toOwnSlot_keeps (P := fun r => r.sound ∧ r.resting) (fun r hr => ⟨Rcc.endSlotZero_sound hr.1, r.endSlotZero_resting hr.2⟩) _ _
      ⟨h, h.resting_of_slot hslot⟩
  have hused (hchan : x.rcc.chan = .synced) : (useSlot carrier x).rcc.sound := by
    obtain ⟨hout, -, -, hcounts⟩ := x.rcc.sound_iff.1 hx.1
    let y : State := { x with rcc := { x.rcc with slotTaken := true, frameMs := some (500 * x.sst.globalPage.stationId) } }
    have hy : y.rcc.sound := (Rcc.sound_iff _).2 ⟨hout, fun _ => ⟨hchan, rfl⟩, fun _ => rfl, hcounts⟩
    have hsent : (slotPacket y).rcc.sound := by
      unfold slotPacket
      split
      · exact hy
      · split
        · exact hy
        · split
          · rename_i e hhead
            exact Rcc.send_sound y.bcu.level e y.rcc hy hx.2 hhead hchan rfl
          · exact hy
    unfold useSlot
    dsimp only
    split
    · exact hy
    · exact hsent
  change (if x.rcc.chan = .synced then useSlot carrier x else x).rcc.sound
  split
  · exact hused ‹_›
  · exact hx.1

theorem completeCommit_rccSound (b : StageBuf) (reply : Bool) : (completeCommit b reply s).rcc.sound := by
  have hglobal (old p : Page) (x : State) (hx : x.rcc.sound) : (globalEffects old p x).rcc.sound := by
    have hstation (y : State) (hy : y.rcc.sound) : (stationIdEffect old p y).rcc.sound := by
      unfold stationIdEffect
      split
      · exact stationChanged_rccSound hy _
      · exact hy
    have hinterval (y : State) (hy : y.rcc.sound) : (statusIntervalEffect old p y).rcc.sound := by
      unfold statusIntervalEffect
      split <;> exact hy
    rw [globalEffects_eq]
    exact hinterval _ (hstation _ (by simpa using hx))
  have hworking (t : Target) (p : Page) (x : State) (hx : x.rcc.sound) : (replaceWorking t p x).rcc.sound := by
    cases t with
    | group n =>
      unfold replaceWorking
      dsimp only
      (repeat' split) <;> exact hx
    | global => exact hglobal _ p { x with sst := { x.sst with globalPage := p } } hx
    | curve n => exact hx
  have hended : (commitEnded b reply s).rcc.sound := by
    unfold commitEnded
    dsimp only
    split <;> exact hworking _ _ _ h
  change (releaseSelections b.target s.sst.waiting (commitEnded b reply s)).rcc.sound
  unfold releaseSelections
  split
  · exact List.foldlRecOn (motive := fun x : State => x.rcc.sound) _ _ hended fun _ hx src _ => (seqEvent_handed .refl _).sound hx
  · exact hended

/-! ### Starts (spec/09 R180) -/

theorem warmStart_rccSound : (warmStart s).rcc.sound := by
  obtain ⟨-, -, -, hlost, hseq, -⟩ := s.rcc.sound_iff.1 h
  exact h.returned rfl rfl ⟨nofun, hlost, hseq, Nat.zero_le 4⟩

theorem startRcc_sound (k : StartKind) (p : Page) : (startRcc k p s.rcc).sound := by
  obtain ⟨-, -, -, hlost, hseq, -⟩ := s.rcc.sound_iff.1 h
  have hchan : (if p.stationId = 0 then Chan.silent else .searching) ≠ .synced := by split <;> nofun
  cases k with
  | cold => exact Rcc.sound_of_resting (.empty _) (by simp [Rcc.resting, startRcc, Rcc.idle]) ⟨fun hsync => absurd hsync hchan, by simp [startRcc, Rcc.idle]⟩
  | warm => exact h.returned rfl rfl ⟨fun hsync => absurd hsync hchan, hlost, hseq, Nat.zero_le 4⟩

/-! ### The commands -/

theorem exec_rccSound (c : Instr) (t : State) (ht : exec c s = .next t) : t.rcc.sound := by
  have handed {x : State} (hx : s.rcc.Handed x.rcc) : x.rcc.sound := hx.sound h
  have happened {can : Bool} {after : State} (hx : happens can after s = .next t) (ha : after.rcc.sound) : t.rcc.sound :=
    happens_keeps (I := fun x => x.rcc.sound) h hx fun _ => ha
  have pumped {x : State} (hx : x.rcc.sound) : (pump x).rcc.sound := (pump_handed .refl).sound hx
  have updated {can : Bool} {block : List SampleSet} (hx : updateWhen can block s = .next t) : t.rcc.sound := by
    unfold updateWhen at hx
    split at hx
    · refine happened hx ?_
      split
      · exact pumped (handed (magnitudeUpdate_handed .refl block))
      · exact h
    · cases hx
  have measured {can : Bool} {m : BattMeas} {x : TestReading} (hx : measureWhen can m x s = .next t) : t.rcc.sound := by
    refine happened hx ?_
    split
    · exact pumped (battMeasure_rccSound h m x)
    · exact h
  have minute {can : Bool} (hx : happens can (completeMinute s) s = .next t) : t.rcc.sound :=
    happened hx (handed (completeMinute_handed .refl))
  have received {f : RxFrame} (hx : (Host.Outcome.next (receive f s) : Result) = .next t) : t.rcc.sound := by
    cases hx
    exact handed (receive_handed .refl f)
  cases c with
  | coldStart => cases ht; exact Rcc.idle_sound
  | startDelayEnd =>
    change execStartDelayEnd _ s = _ at ht
    unfold execStartDelayEnd at ht
    split at ht <;> cases ht
    · exact startRcc_sound h _ _
    all_goals exact h
  | warmStart => exact happened ht (warmStart_rccSound h)
  | supplyLoss => exact happened ht h
  | holdUpEnd => exact happened ht Rcc.idle_sound
  | magnitudeUpdate => exact updated ht
  | liveQualified => exact updated ht
  | deadQualified => exact updated ht
  | elementOperate => exact updated ht
  | deadTimerExpiry => exact happened ht (handed (deadTimeEnd_handed .refl))
  | holdTimerExpiry => exact happened ht (handed (holdEnd_handed .refl))
  | reclaimTimerExpiry => exact happened ht (handed (enterClosed_handed .refl))
  | contactDebounced => exact happened ht (handed (contactRead_handed .refl _ _ _ _))
  | startReadingTimeout =>
    change execStartReadingTimeout s = _ at ht
    unfold execStartReadingTimeout at ht
    split at ht <;> cases ht
    · exact handed (startReading_handed .refl _ _)
    all_goals exact h
  | capacitorMeasurement => exact happened ht (handed (measureCap_handed .refl _))
  | tripPulseTimeout => exact happened ht (pumped (handed (endTrip_handed .refl _ _ _)))
  | closePulseTimeout => exact happened ht (pumped (handed (endClose_handed .refl _ _ _)))
  | minuteEvent => exact minute ht
  | tagExpiry => exact minute ht
  | tagHourlyWrite => exact minute ht
  | batteryMeasurement => exact measured ht
  | absorbTimeLimit => exact measured ht
  | floatLowRunLimit => exact measured ht
  | faultClearRunComplete => exact measured ht
  | resyncRunComplete => exact measured ht
  | chargeCountWrite => exact measured ht
  | tripWaitTimeout => exact happened ht h
  | partStop => exact happened ht Rcc.idle_sound
  | scheduledTestDue => exact minute ht
  | settlingComplete => exact happened ht h
  | loadTestComplete => exact happened ht (handed (endTest_handed .refl _ _ _))
  | testAbandonTimeout => exact happened ht (handed (endTest_handed .refl _ _ _))
  | radioPacketReceived bytes =>
    change execRadioPacketReceived bytes s = _ at ht
    unfold execRadioPacketReceived at ht
    split at ht
    · exact happened ht (pumped (takeBeacon_rccSound h _))
    · cases ht; exact h
  | beaconMissCheck => exact happened ht (Rcc.endSlotZero_sound h)
  | ownSlotStart =>
    refine happens_keeps (I := fun x => x.rcc.sound) h ht fun hcan => takeSlot_rccSound h _ ?_
    simp only [Bool.and_eq_true, Bool.not_eq_true'] at hcan
    exact hcan.1.2
  | radioTransmitEnd => cases ht; exact h
  | statusIntervalDue => exact minute ht
  | commitComplete =>
    change execCommitComplete s = _ at ht
    unfold execCommitComplete at ht
    split at ht <;> cases ht
    · exact pumped (completeCommit_rccSound h _ _)
    all_goals exact h
  | retainedWriteComplete =>
    change execRetainedWriteComplete s = _ at ht
    unfold execRetainedWriteComplete at ht
    split at ht <;> cases ht <;> exact h
  | hostFrameReceived => cases ht; exact handed (feed_handed .refl _)
  | frameByteTimeout => cases ht; exact h
  | keySwitchDebounced => exact happened ht h
  | hostFrameTransmitted =>
    change execHostFrameTransmitted s = _ at ht
    unfold execHostFrameTransmitted at ht
    split at ht <;> cases ht <;> exact h
  | timeBaseSecond =>
    change execTimeBaseSecond s = _ at ht
    unfold execTimeBaseSecond at ht
    split at ht <;> cases ht
    · exact handed (runSecond_handed .refl)
    · exact handed (runSecond_handed .refl)
    all_goals exact h
  | _ => exact received ht

theorem tick_rccSound : (tick s).rcc.sound := by
  unfold tick
  dsimp only
  split
  · exact s.rcc.tick_sound h
  · exact h

end

/-- Settles O48: what the other blocks hand the RCC keeps its rules, and every move of the channel itself ends with no report in flight or
begins with none. -/
theorem outboxStaysSound : Obligations.OutboxStaysSound := by
  intro s t h ht
  unfold step at ht
  split at ht
  · rename_i c rest _
    exact exec_rccSound (s := s.withPending rest) h c t ht
  · unfold idle at ht
    split at ht
    · exact exec_rccSound h _ t ht
    · cases ht
      exact tick_rccSound h

end Sys2Proof.Machine
end

section
/-! SUPPORT and PROOFS. The radio commands of a beacon: how they are checked, and what each does (spec/08 R161 to R168); O43, O45, O46. -/

namespace Sys2Proof.Machine

/-- Settles O43: the receiver's parsing inverts the layout, in both directions. -/
theorem beaconLayout : Obligations.BeaconLayout := parseBeacon_iff

/-! ### A command that arrives (R151, R161) -/

/-- The part once a beacon has fixed the frame timing and the time (R151 steps 1 and 2). -/
def State.beaconTaken (b : Beacon) (s : State) : State := beaconTime b.time { s with rcc := s.rcc.sync b.frame }

/-- The part as a command's owner finds it (R162). -/
def State.commanded (b : Beacon) (c : RadioCmd) (s : State) : State :=
  let x := s.beaconTaken b
  { x with rcc := { x.rcc with lastId := some c.id, stored := none } }

section
variable (b : Beacon) (c : RadioCmd) (s : State)

@[simp] theorem State.beaconTaken_keeps :
    (s.beaconTaken b).stage = s.stage ∧ (s.beaconTaken b).peu = s.peu ∧ (s.beaconTaken b).seq = s.seq ∧ (s.beaconTaken b).act = s.act ∧
    (s.beaconTaken b).tag = s.tag ∧ (s.beaconTaken b).bcu = s.bcu ∧ (s.beaconTaken b).rcc = s.rcc.sync b.frame ∧
    (s.beaconTaken b).sst = s.sst ∧ (s.beaconTaken b).hlc = s.hlc := by
  simp [State.beaconTaken]

@[simp] theorem State.commanded_keeps :
    (s.commanded b c).stage = s.stage ∧ (s.commanded b c).peu = s.peu ∧ (s.commanded b c).seq = s.seq ∧ (s.commanded b c).act = s.act ∧
    (s.commanded b c).tag = s.tag ∧ (s.commanded b c).bcu = s.bcu ∧
    (s.commanded b c).rcc = { s.rcc.sync b.frame with lastId := some c.id, stored := none } ∧
    (s.commanded b c).sst = s.sst ∧ (s.commanded b c).hlc = s.hlc := by
  simp [State.commanded]

/-- The frame timing aside, a beacon finds the RCC as it was (R151). -/
@[simp] theorem Rcc.sync_keeps (frame : Nat) (r : Rcc) :
    (r.sync frame).lastId = r.lastId ∧ (r.sync frame).stored = r.stored ∧ (r.sync frame).pending = r.pending ∧
    (r.sync frame).outbox = r.outbox ∧ (r.sync frame).lost = r.lost ∧ (r.sync frame).nextOrder = r.nextOrder :=
  ⟨rfl, rfl, rfl, rfl, rfl, rfl⟩

@[simp] theorem acceptTag_queue (t : TagTable) (x : Tag) (s : State) : (acceptTag t x s).hlc.queue = s.hlc.queue := by simp [acceptTag]

theorem ownCommand_queue : (ownCommand c s).hlc.queue = s.hlc.queue := by
  unfold ownCommand
  split
  · simp
  · simp
  · rcases placeTag_cases .radio (c.num 0 2) (c.num 2 1) (c.num 3 2) s with hsame | ⟨-, x, -, hrefreshed⟩ | ⟨-, -, -, hstored⟩
    · simp [hsame]
    · simp [hrefreshed]
    · simp [hstored]
  · have hremoved : (tagRemove .radio (c.num 0 2) (c.num 2 2) s).1.hlc.queue = s.hlc.queue := by
      unfold tagRemove
      (repeat' split) <;> simp [removeTag_hlc_line]
    simpa using hremoved
  · unfold selectGroup
    (repeat' split) <;> simp
  · simp
  · simp

theorem takeCommand_queue : (takeCommand c s).hlc.queue = s.hlc.queue := by
  unfold takeCommand
  split
  · rfl
  · split
    · unfold repeatCommand
      split <;> rfl
    · split
      · rfl
      · exact ownCommand_queue c _

/-- A beacon at a running part without a report in flight comes down to its command for the station. -/
theorem exec_radioPacketReceived_command (hfits : b.fits) (hruns : s.runs) (hlisten : listening s) (hc : commandFor s b c) :
    exec (.radioPacketReceived b.bytes) s = .next (takeCommand c (s.beaconTaken b)) := by
  obtain ⟨hstage, -, hqueue⟩ := hruns
  obtain ⟨hchan, hrest⟩ := hlisten
  let x := s.beaconTaken b
  have hresolve : x.rcc.resolve x.sst.globalPage.stationId b.acks = x.rcc := Rcc.resolve_nothing _ _ _ (by simpa [x] using hrest)
  have hfind : b.cmds.find? (·.station == x.sst.globalPage.stationId) = some c := by
    simp only [x, State.beaconTaken_keeps]
    exact hc
  have htake : takeBeacon b s = takeCommand c x := by
    change takeCommands b.cmds { x with rcc := x.rcc.resolve x.sst.globalPage.stationId b.acks } = _
    rw [hresolve]
    change takeCommands b.cmds x = _
    simp only [takeCommands, hfind]
  rw [exec_radioPacketReceived_beacon b s hfits, htake, pump_without_frames _ (by rw [takeCommand_queue]; simpa [x] using hqueue)]
  exact happens_of _ s (by simp [hstage, Stage.started, hchan])

/-! ### The checks (R161) -/

/-- The field lengths of the seven kinds (R168). -/
theorem commandLength_iff (kind n : Nat) :
    (kind, n) ∈ [(1, 0), (2, 0), (3, 5), (4, 4), (5, 1), (6, 0), (7, 4)] ↔ commandLength kind = some n := by
  unfold commandLength
  split <;> simp_all <;> omega

/-- A command past every check is its owner's. -/
theorem takeCommand_executes (hid : c.id ≠ 0) (hnew : s.rcc.lastId ≠ some c.id) (hkey : s.hlc.key = .remote)
    (hpermit : s.sst.globalPage.field 11 = 1) (hlength : commandLength c.kind = some c.fields.length) :
    takeCommand c (s.beaconTaken b) = ownCommand c (s.commanded b c) := by
  have hcheck : commandRefusal c (s.beaconTaken b) = none := by
    simp [commandRefusal, hkey, Page.remotePermitted, hpermit, hlength]
  have hnew' : (s.beaconTaken b).rcc.lastId ≠ some c.id := by simpa using hnew
  rw [takeCommand, if_neg hid, if_neg hnew', hcheck]
  rfl

theorem takeCommand_refused (r : Res) (hid : c.id ≠ 0) (hnew : s.rcc.lastId ≠ some c.id)
    (hcheck : commandRefusal c (s.beaconTaken b) = some r) :
    takeCommand c (s.beaconTaken b) = refuseCommand c.id r (s.beaconTaken b) := by
  have hnew' : (s.beaconTaken b).rcc.lastId ≠ some c.id := by simpa using hnew
  rw [takeCommand, if_neg hid, if_neg hnew', hcheck]

end

/-- What R161 leaves alone at a refusal and at a duplicate. -/
def commandUntouched (s t : State) : Prop :=
  t.rcc.lastId = s.rcc.lastId ∧ t.rcc.stored = s.rcc.stored ∧ t.rcc.outbox = s.rcc.outbox ∧
  t.seq = s.seq ∧ t.act = s.act ∧ t.tag = s.tag ∧ t.sst = s.sst

theorem refuseCommand_untouched (b : Beacon) (n : Nat) (r : Res) (s : State) :
    commandUntouched s (refuseCommand n r (s.beaconTaken b)) := by
  simp [commandUntouched, refuseCommand]

/-- A repeated command repeats its result, if there is one (R163). -/
theorem repeatCommand_leaves (b : Beacon) (n : Nat) (s : State) :
    let t := repeatCommand n (s.beaconTaken b)
    (∀ r d, s.rcc.stored = some (r, d) → t.rcc.pending = some ⟨n, r, d⟩) ∧ (s.rcc.stored = none → t.rcc.pending = s.rcc.pending) ∧
    commandUntouched s t := by
  cases hstored : s.rcc.stored with
  | none => simp [repeatCommand, commandUntouched, hstored]
  | some x =>
    obtain ⟨r, d⟩ := x
    simp [repeatCommand, commandUntouched, hstored]

/-- Settles O45: the checks in R161's order, and past them the owner, who leaves the last command id. -/
theorem remoteCommandIsChecked : Obligations.RemoteCommandIsChecked := by
  intro b c s hfits hruns hdecided hlisten hc
  refine ⟨_, exec_radioPacketReceived_command b c s hfits hruns hlisten hc, ?_⟩
  intro untouched refused needs
  have refuses (r : Res) (h : takeCommand c (s.beaconTaken b) = refuseCommand c.id r (s.beaconTaken b)) : refused r :=
    ⟨by rw [h]; rfl, by rw [show untouched = commandUntouched s _ from rfl, h]; exact refuseCommand_untouched b c.id r s⟩
  refine ⟨fun hid => refuses _ ?_, fun hid hlast => ?_, fun hid hnew => ⟨fun hkey => refuses _ ?_, fun hkey hoff => refuses _ ?_,
    fun hkey hon => ⟨fun hkind => refuses _ ?_, fun n hn => ⟨fun hlen => refuses _ ?_, fun hlen => ?_⟩⟩⟩⟩
  · rw [takeCommand, if_pos hid]
  · have hrepeat : takeCommand c (s.beaconTaken b) = repeatCommand c.id (s.beaconTaken b) := by
      rw [takeCommand, if_neg hid, if_pos (by simpa using hlast)]
    simp only [untouched, hrepeat]
    exact repeatCommand_leaves b c.id s
  · exact takeCommand_refused b c s _ hid hnew (by simp [commandRefusal, hkey])
  · exact takeCommand_refused b c s _ hid hnew (by simp [commandRefusal, hkey, Page.remotePermitted, hoff])
  · have hunknown : commandLength c.kind = none := Option.eq_none_iff_forall_ne_some.2 fun n hn =>
      hkind n ((commandLength_iff c.kind n).2 hn)
    exact takeCommand_refused b c s _ hid hnew (by simp [commandRefusal, hkey, Page.remotePermitted, hon, hunknown])
  · have hneeds := (commandLength_iff c.kind n).1 hn
    exact takeCommand_refused b c s _ hid hnew (by simp [commandRefusal, hkey, Page.remotePermitted, hon, hneeds, hlen])
  · have hneeds := (commandLength_iff c.kind n).1 hn
    rw [takeCommand_executes b c s hid hnew hkey hon (hlen ▸ hneeds)]
    have hid' := (ownCommand_handed (s := s.commanded b c) .refl c).lastId
    simpa using hid'

/-! ### The owners (R162, R164) -/

/-- A result given to the RCC for the last command is stored and owed (R164). -/
theorem radioResult_given (n : Nat) (r : Res) (d : Nat) (s : State) (h : s.rcc.lastId = some n) :
    (radioResult n r d s).rcc.stored = some (r, d) ∧ (radioResult n r d s).rcc.pending = some ⟨n, r, d⟩ := by
  simp [radioResult, h]

section
variable (c : RadioCmd) (s : State)

theorem ownCommand_open (hk : c.kind = 1) : ownCommand c s = seqEvent (.openCmd .radio (.radio c.id)) s := by simp [ownCommand, hk]

theorem ownCommand_close (hk : c.kind = 2) : ownCommand c s = seqEvent (.closeCmd .radio (.radio c.id)) s := by simp [ownCommand, hk]

theorem ownCommand_tagPlace (hk : c.kind = 3) : ownCommand c s =
    radioResult c.id (placeTag .radio (c.num 0 2) (c.num 2 1) (c.num 3 2) s).2.1 0 (placeTag .radio (c.num 0 2) (c.num 2 1) (c.num 3 2) s).1 := by
  simp [ownCommand, hk]

theorem ownCommand_tagRemove (hk : c.kind = 4) : ownCommand c s =
    radioResult c.id (tagRemove .radio (c.num 0 2) (c.num 2 2) s).2 0 (tagRemove .radio (c.num 0 2) (c.num 2 2) s).1 := by
  simp [ownCommand, hk]

theorem ownCommand_select (hk : c.kind = 5) : ownCommand c s = selectGroup (c.num 0 1) (.radio c.id) s := by simp [ownCommand, hk]

theorem ownCommand_status (hk : c.kind = 6) : ownCommand c s = radioResult c.id .ok 0 (statusRequest s) := by simp [ownCommand, hk]

theorem ownCommand_time (hk : c.kind = 7) : ownCommand c s = radioResult c.id .ok 0 (setTime (c.num 0 4) s) := by simp [ownCommand, hk]

end

/-! ### Field bytes (R168) -/

theorem num_first_two (c : RadioCmd) (n : Nat) (rest : Bytes) (h : c.fields = be2 n ++ rest) (hn : n < 65536) : c.num 0 2 = n := by
  have hbytes : c.num 0 2 = beNat (be2 n) := by simp [RadioCmd.num, h, be2]
  exact hbytes.trans (beNat_be2 hn)

theorem num_next_two (c : RadioCmd) (m n : Nat) (h : c.fields = be2 m ++ be2 n) (hn : n < 65536) : c.num 2 2 = n := by
  have hbytes : c.num 2 2 = beNat (be2 n) := by simp [RadioCmd.num, h, be2]
  exact hbytes.trans (beNat_be2 hn)

theorem num_four (c : RadioCmd) (n : Nat) (h : c.fields = be4 n) (hn : n < 4294967296) : c.num 0 4 = n := by
  have hbytes : c.num 0 4 = beNat (be4 n) := by simp [RadioCmd.num, h, be4, be2]
  exact hbytes.trans (beNat_be4 hn)

/-! ### What the owners do (R162) -/

section
variable (c : RadioCmd) (s : State) (hdecided : s.seq.decided = true) (hlast : s.rcc.lastId = some c.id)
include hlast

/-- The result that a command's owner gives at its end. -/
theorem result_of_handed (r : Res) (d : Nat) (u : State) (hu : s.rcc.Handed u.rcc) :
    (radioResult c.id r d u).rcc.stored = some (r, d) ∧ (radioResult c.id r d u).rcc.pending = some ⟨c.id, r, d⟩ :=
  radioResult_given c.id r d u (hu.lastId.trans hlast)

theorem ownCommand_status_leaves (hk : c.kind = 6) (hrun : s.stage = .running) (hroom : s.rcc.outbox.length < 32) :
    (∃ e ∈ (ownCommand c s).rcc.outbox, e.cls = .status ∧ e.await = false) ∧
    (ownCommand c s).rcc.stored = some (.ok, 0) ∧ (ownCommand c s).rcc.pending = some ⟨c.id, .ok, 0⟩ := by
  have hmade : statusRequest s = makeStatus s := by simp [statusRequest, hrun, Stage.isStarting]
  rw [ownCommand_status c s hk, hmade]
  refine ⟨?_, result_of_handed c s hlast .ok 0 _ (makeStatus_handed .refl)⟩
  change ∃ e ∈ (makeStatus s).rcc.outbox, e.cls = .status ∧ e.await = false
  unfold makeStatus
  split
  · rename_i hany
    obtain ⟨e, he, hwaits⟩ := List.any_eq_true.1 hany
    exact ⟨e, he, by simpa using hwaits⟩
  · refine ⟨⟨.status, none, false, 0, none, none, s.rcc.nextOrder⟩, ?_, rfl, rfl⟩
    rw [report_rcc, Rcc.reported, arrive_room _ _ hroom]
    exact (mem_insertEntry _ _ _).2 (Or.inl rfl)

theorem ownCommand_time_leaves (time : Nat) (hk : c.kind = 7) (htime : time < 4294967296) (hfields : c.fields = be4 time) :
    (ownCommand c s).orl.time = time ∧ (ownCommand c s).orl.valid = true ∧
    (ownCommand c s).rcc.stored = some (.ok, 0) ∧ (ownCommand c s).rcc.pending = some ⟨c.id, .ok, 0⟩ := by
  rw [ownCommand_time c s hk, num_four c time hfields htime]
  exact ⟨rfl, rfl, result_of_handed c s hlast .ok 0 (setTime time s) .refl⟩

theorem ownCommand_tagPlace_leaves (crew : Nat) (hk : c.kind = 3) (hfields : c.fields = be2 crew ++ [0#8, 0#8, 0#8]) (hlo : 1 ≤ crew)
    (hhi : crew ≤ 9999) (hsound : s.tag.table.sound) (hroom : s.tag.table.tags.length < 8) (hnew : ∀ x ∈ s.tag.table.tags, x.crew ≠ crew)
    (hpulse : s.act.state ≠ .closePulse) :
    (∃ x ∈ (ownCommand c s).tag.table.tags, x.crew = crew ∧ x.mode = .noReclose ∧ x.auth = .radio ∧ x.left = none) ∧
    (ownCommand c s).rcc.stored = some (.ok, 0) ∧ (ownCommand c s).rcc.pending = some ⟨c.id, .ok, 0⟩ := by
  let x := newTag .radio crew 0 0 s
  have hmode : c.num 2 1 = 0 := by simp [RadioCmd.num, hfields, be2, beNat]
  have hexpiry : c.num 3 2 = 0 := by simp [RadioCmd.num, hfields, be2, beNat]
  have hbad : badPlacement crew 0 0 = false := by
    simp only [badPlacement, badCrew, Bool.or_eq_false_iff]
    simp
    omega
  have hplace : placeTag .radio crew 0 0 s = (acceptTag (s.tag.table.store x) x s, .ok, some x) := by
    simp [placeTag, hbad, ofCrew_none _ _ _ fun y hy h => hnew y hy h.1, Nat.not_le.2 hroom, hpulse, x]
  have hstored : { x with number := freeNumber s.tag.table 8 s.tag.table.next } ∈ (s.tag.table.store x).tags :=
    (fillSlot_tags _ s.tag.table.slots (hsound.1 ▸ hroom)).symm.subset List.mem_cons_self
  have htag : (acceptTag (s.tag.table.store x) x s).tag.table = s.tag.table.store x := by simp [acceptTag]
  rw [ownCommand_tagPlace c s hk, num_first_two c crew _ hfields (by omega), hmode, hexpiry, hplace]
  refine ⟨?_, result_of_handed c s hlast .ok 0 _ (acceptTag_handed .refl _ _)⟩
  simp only [radioResult_keeps, htag]
  exact ⟨_, hstored, rfl, rfl, rfl, rfl⟩

theorem ownCommand_tagRemove_leaves (x : Tag) (hx : x ∈ s.tag.table.tags) (hk : c.kind = 4)
    (hfields : c.fields = be2 x.number ++ be2 x.crew) (hsound : s.tag.table.sound) :
    (x.auth = .radio → (ownCommand c s).tag.table.holds x.number = false ∧
      (ownCommand c s).rcc.stored = some (.ok, 0) ∧ (ownCommand c s).rcc.pending = some ⟨c.id, .ok, 0⟩) ∧
    (x.auth ≠ .radio → (ownCommand c s).tag = s.tag ∧
      (ownCommand c s).rcc.stored = some (.authority, 0) ∧ (ownCommand c s).rcc.pending = some ⟨c.id, .authority, 0⟩) := by
  obtain ⟨hnlo, hnhi, hclo, hchi, -⟩ := s.tag.table.tag_sound hsound hx
  have hcrew : badCrew x.crew = false := by simp [badCrew]; omega
  have hremove := tagRemove_present .radio x.number x.crew s x (by omega) hcrew (s.tag.table.find_of_mem x hsound hx)
  rw [ownCommand_tagRemove c s hk, num_first_two c x.number _ hfields (by omega), num_next_two c x.number x.crew hfields (by omega)]
  refine ⟨fun hauth => ?_, fun hauth => ?_⟩
  · have hdone : tagRemove .radio x.number x.crew s = (removeTag x .removed (some .radio) s, .ok) := by
      rw [hremove, hauth]
      simp
    rw [hdone]
    refine ⟨?_, result_of_handed c s hlast .ok 0 _ (removeTag_handed .refl _ _ _)⟩
    simp [removeTag_table, TagTable.holds, TagTable.remove_tags]
  · have hrefused : tagRemove .radio x.number x.crew s = (s, .authority) := by
      rw [hremove]
      cases ha : x.auth with
      | radio => exact absurd ha hauth
      | loc => simp [Authority.rank]
      | link => simp [Authority.rank]
    rw [hrefused]
    exact ⟨rfl, result_of_handed c s hlast .authority 0 s .refl⟩

include hdecided

theorem ownCommand_open_leaves (hk : c.kind = 1) (hs : s.seq.state ∈ [SeqState.closed, .reclaim]) :
    (ownCommand c s).seq.state = .tripping ∧ (ownCommand c s).seq.trip = some [.command .radio] ∧
    (ownCommand c s).rcc.stored = some (.ok, 0) ∧ (ownCommand c s).rcc.pending = some ⟨c.id, .ok, 0⟩ := by
  have hnow : seqTrip (.command .radio) s = tripNow (.command .radio) s := seqTrip_now _ s (by simp at hs ⊢; tauto)
  have hopen : ownCommand c s = radioResult c.id .ok 0 (tripNow (.command .radio) s) := by
    rw [ownCommand_open c s hk, seqEvent_decided _ s hdecided, ← hnow]
    rcases (by simpa using hs : s.seq.state = .closed ∨ s.seq.state = .reclaim) with hs | hs <;> simp [takeEvent, seqOpen, hs, answer]
  obtain ⟨hstate, htrip, -⟩ := tripNow_seq (.command .radio) s
  rw [hopen]
  exact ⟨by simpa using hstate, by simpa using htrip,
    result_of_handed c s hlast .ok 0 _ (hnow ▸ seqTrip_handed .refl (.command .radio))⟩

theorem ownCommand_select_leaves (g : Byte) (hk : c.kind = 5) (hfields : c.fields = [g]) (hg : g.toNat ≤ 3)
    (hother : g.toNat ≠ s.sst.active) (hstaging : s.sst.staging = .empty) :
    (seqSettled s → (ownCommand c s).sst.active = g.toNat ∧
      (ownCommand c s).rcc.stored = some (.ok, 0) ∧ (ownCommand c s).rcc.pending = some ⟨c.id, .ok, 0⟩) ∧
    (¬ seqSettled s → (ownCommand c s).sst.active = s.sst.active ∧ (ownCommand c s).seq.pendingGroup = some g.toNat ∧
      (ownCommand c s).rcc.stored = some (.ok, 1) ∧ (ownCommand c s).rcc.pending = some ⟨c.id, .ok, 1⟩) := by
  have hnum : c.num 0 1 = g.toNat := by simp [RadioCmd.num, hfields, beNat]
  have hselect : ownCommand c s = seqSelect g.toNat (.radio c.id) s := by
    rw [ownCommand_select c s hk, hnum]
    exact selectGroup_decided _ _ s hg (by simp [hstaging, Staging.commitsGroup]) hdecided
  rw [hselect, seqSelect, if_neg hother]
  refine ⟨fun hsettled => ?_, fun hunsettled => ?_⟩
  · rw [if_pos ((settled_iff s).2 hsettled)]
    exact ⟨by simp [answer, applyGroup], result_of_handed c s hlast .ok 0 _ (applyGroup_handed .refl _)⟩
  · rw [if_neg (by rwa [settled_iff])]
    exact ⟨rfl, rfl, result_of_handed c s hlast .ok 1 { s with seq := { s.seq with pendingGroup := some g.toNat } } .refl⟩

end

theorem ownCommand_close_leaves (c : RadioCmd) (s : State) (hdecided : s.seq.decided = true) (hk : c.kind = 2) (hs : s.seq.state = .lockout)
    (hidle : s.act.state = .idle) (hmech : s.act.mech = false) (hopen : s.act.position = .isOpen)
    (htags : s.tag.table.tags = []) (hlevel : s.bcu.level = .normal) (hcap : 250 ≤ s.act.cap) :
    (ownCommand c s).seq.state = .closing ∧ (ownCommand c s).seq.heldClose = some (.radio c.id) ∧
    (ownCommand c s).act.state = .closePulse ∧ (ownCommand c s).act.origin = some .radio ∧ (ownCommand c s).rcc = s.rcc := by
  have hpermitted : closeRefusal Authority.radio.origin s = none := by
    rw [closeRefusal_untagged _ s hidle hmech hopen (by simp [htags]) (Or.inl (by simp [htags])), if_neg (by simp [hlevel, reserveBars])]
    exact if_neg (Nat.not_lt.2 hcap)
  have hclose : ownCommand c s = commandedClose .radio (.radio c.id) s := by
    rw [ownCommand_close c s hk, seqEvent_decided _ s hdecided]
    simp [takeEvent, seqClose, hs, hpermitted]
  have hact : (commandedClose .radio (.radio c.id) s).act = (beginClose .radio s).act := by simp [commandedClose, Authority.origin]
  rw [hclose, commandedClose_seq, hact]
  exact ⟨rfl, rfl, rfl, rfl, by simp⟩

/-- Settles O46: each command past the checks at its owner, which the beacon leaves as it was. -/
theorem remoteCommandIsExecuted : Obligations.RemoteCommandIsExecuted := by
  intro b c s hfits hruns hdecided hlisten hc hid hnew hkey hpermit hroom hsound
  let u := s.commanded b c
  have hlast : u.rcc.lastId = some c.id := by simp [u]
  have hdecided' : u.seq.decided = true := by simpa [u] using hdecided
  have hexec := exec_radioPacketReceived_command b c s hfits hruns hlisten hc
  refine ⟨_, hexec, ?_⟩
  have owned {n : Nat} (hn : commandLength c.kind = some n) (hlen : c.fields.length = n) :
      takeCommand c (s.beaconTaken b) = ownCommand c u :=
    takeCommand_executes b c s hid hnew hkey hpermit (hlen ▸ hn)
  intro result
  refine ⟨fun hk hf hs _ => ?_, fun hk hf hs hidle hmech hopen htags hlevel hcap => ?_, fun crew hk hf hlo hhi hfree hother hpulse => ?_,
    fun x hx hk hf => ?_, fun g hk hf hg hother hstaging => ?_, fun hk hf => ?_, fun time hk htime hf => ?_⟩
  · simp only [result, owned (n := 0) (by rw [hk]; rfl) (by rw [hf]; rfl)]
    exact ownCommand_open_leaves c u hdecided' hlast hk (by simpa [u] using hs)
  · simp only [owned (n := 0) (by rw [hk]; rfl) (by rw [hf]; rfl)]
    obtain ⟨hstate, hheld, hact, horigin, hrcc⟩ := ownCommand_close_leaves c u hdecided' hk (by simpa [u] using hs)
      (by simpa [u] using hidle) (by simpa [u] using hmech) (by simpa [u] using hopen) (by simpa [u] using htags)
      (by simpa [u] using hlevel) (by simpa [u] using hcap)
    exact ⟨hstate, hheld, hact, horigin, by simp [hrcc, u], by simp [hrcc, u]⟩
  · simp only [result, owned (n := 5) (by rw [hk]; rfl) (by rw [hf]; rfl)]
    exact ownCommand_tagPlace_leaves c u hlast crew hk hf hlo hhi (by simpa [u] using hsound) (by simpa [u] using hfree)
      (by simpa [u] using hother) (by simpa [u] using hpulse)
  · simp only [result, owned (n := 4) (by rw [hk]; rfl) (by rw [hf]; rfl)]
    simpa [u] using ownCommand_tagRemove_leaves c u hlast x (by simpa [u] using hx) hk hf (by simpa [u] using hsound)
  · simp only [result, owned (n := 1) (by rw [hk]; rfl) (by rw [hf]; rfl)]
    have hsettled : seqSettled u ↔ seqSettled s := by simp [seqSettled, u]
    simpa [u, hsettled] using ownCommand_select_leaves c u hdecided' hlast g hk hf hg (by simpa [u] using hother) (by simpa [u] using hstaging)
  · simp only [result, owned (n := 0) (by rw [hk]; rfl) (by rw [hf]; rfl)]
    exact ownCommand_status_leaves c u hlast hk (by simpa [u] using hruns.1) (by simpa [u] using hroom)
  · simp only [result, owned (n := 4) (by rw [hk]; rfl) (by rw [hf]; rfl)]
    exact ownCommand_time_leaves c u hlast time hk htime hf

end Sys2Proof.Machine
end

section
/-! SUPPORT and PROOFS. The end of slot 0, the station's slot and the STATUS interval (spec/08 R150 to R158); O47. -/

namespace Sys2Proof.Machine

/-! ### The end of slot 0 (R150, R152) -/

/-- The moment at which the end of slot 0 is taken (R150, log 26). -/
def Rcc.slotEnd (r : Rcc) : Nat := if r.missTested then 500 else max 500 (r.frameMs.getD 0)

section
variable (r : Rcc)

theorem Rcc.endSlotZero_of_beacon (h : r.beaconSeen = true) :
    r.endSlotZero = { r with frameMs := some r.slotEnd, missTested := true, beaconSeen := false } := if_pos h

theorem Rcc.endSlotZero_of_miss (h : r.beaconSeen = false) :
    r.endSlotZero = { r with
      missTested := true, beaconSeen := false, slotTaken := false, missCount := min 4 (r.missCount + 1),
      outbox := returnAwait false r.outbox, chan := if min 4 (r.missCount + 1) = 4 then .searching else r.chan,
      frameMs := if min 4 (r.missCount + 1) = 4 then none else some r.slotEnd } := by
  simp [Rcc.endSlotZero, Rcc.miss, Rcc.slotEnd, h]

theorem Rcc.endSlotZero_missTested : r.endSlotZero.missTested = true := by
  cases h : r.beaconSeen with
  | true => rw [r.endSlotZero_of_beacon h]
  | false => rw [r.endSlotZero_of_miss h]

theorem Rcc.endSlotZero_tx : r.endSlotZero.tx = r.tx := by
  cases h : r.beaconSeen with
  | true => rw [r.endSlotZero_of_beacon h]
  | false => rw [r.endSlotZero_of_miss h]

theorem Rcc.endSlotZero_slotTaken (hslot : r.slotTaken = false) : r.endSlotZero.slotTaken = false := by
  cases h : r.beaconSeen with
  | true => rw [r.endSlotZero_of_beacon h]; exact hslot
  | false => rw [r.endSlotZero_of_miss h]

/-- The channel is kept with its timing, or lost with it (R152). -/
theorem Rcc.endSlotZero_timing (hchan : r.chan = .synced) :
    (r.endSlotZero.chan = .synced ∧ r.endSlotZero.frameMs = some r.slotEnd) ∨
    (r.endSlotZero.chan = .searching ∧ r.endSlotZero.frameMs = none) := by
  cases h : r.beaconSeen with
  | true => rw [r.endSlotZero_of_beacon h]; exact Or.inl ⟨hchan, rfl⟩
  | false =>
    rw [r.endSlotZero_of_miss h]
    by_cases hlost : min 4 (r.missCount + 1) = 4
    · exact Or.inr ⟨if_pos hlost, if_pos hlost⟩
    · exact Or.inl ⟨(if_neg hlost).trans hchan, if_neg hlost⟩

/-! ### The way to the own slot (R150, log 26) -/

theorem Rcc.toOwnSlot_tested (station : Nat) (h : r.missTested = true) :
    r.toOwnSlot station = if r.frameMs.any (500 * station < ·) then r.endSlotZero else r := by
  simp [Rcc.toOwnSlot, h]

theorem Rcc.slot_past_iff (station : Nat) : r.frameMs.any (500 * station < ·) = true ↔ ∃ n ∈ r.frameMs, 500 * station < n := by
  cases r.frameMs <;> simp

/-- In time for its slot a station passes no end of slot 0. -/
theorem Rcc.toOwnSlot_in_time (station : Nat) (h : r.missTested = true) (htime : ∀ n ∈ r.frameMs, n ≤ 500 * station) :
    r.toOwnSlot station = r := by
  rw [r.toOwnSlot_tested station h, if_neg]
  rw [r.slot_past_iff]
  rintro ⟨n, hn, hpast⟩
  exact absurd (htime n hn) (Nat.not_le.2 hpast)

/-- The end of slot 0 that is due on the way comes first. -/
theorem Rcc.toOwnSlot_ended (station : Nat) (hchan : r.chan = .synced)
    (h : r.missTested = false ∨ (0 < station ∧ ∃ n ∈ r.frameMs, 500 * station < n)) :
    r.toOwnSlot station = r.endSlotZero.toOwnSlot station := by
  rw [r.endSlotZero.toOwnSlot_tested station r.endSlotZero_missTested]
  cases htested : r.missTested with
  | false => simp [Rcc.toOwnSlot, htested]
  | true =>
    obtain ⟨hstation, hpast⟩ := h.resolve_left (by simp [htested])
    have hdue : r.frameMs.any (500 * station < ·) = true := (r.slot_past_iff station).2 hpast
    have hslotEnd : r.slotEnd = 500 := if_pos htested
    have hearly : ¬ r.endSlotZero.frameMs.any (500 * station < ·) = true := by
      rcases r.endSlotZero_timing hchan with ⟨-, hms⟩ | ⟨-, hms⟩ <;> rw [hms] <;> simp
      omega
    rw [r.toOwnSlot_tested station htested, if_pos hdue, if_neg hearly]

end

section
variable (s : State) (hchan : s.rcc.chan = .synced)
include hchan

theorem exec_beaconMissCheck : exec .beaconMissCheck s = .next { s with rcc := s.rcc.endSlotZero } :=
  happens_of _ s (by simp [hchan])

variable (hslot : s.rcc.slotTaken = false) (htx : s.rcc.tx = none)
include hslot htx

theorem exec_ownSlotStart (carrier : Bool) : exec (.ownSlotStart carrier) s = .next (takeSlot carrier s) :=
  happens_of _ s (by simp [hchan, hslot, htx])

/-- A slot's command brings the end of slot 0 that it passes. -/
theorem exec_ownSlotStart_ended (carrier : Bool) (h : s.rcc.missTested = false ∨
      (0 < s.sst.globalPage.stationId ∧ ∃ n ∈ s.rcc.frameMs, 500 * s.sst.globalPage.stationId < n)) :
    exec (.ownSlotStart carrier) s = exec (.ownSlotStart carrier) { s with rcc := s.rcc.endSlotZero } := by
  let t : State := { s with rcc := s.rcc.endSlotZero }
  let x : State := { s with rcc := t.rcc.toOwnSlot s.sst.globalPage.stationId }
  have htake : takeSlot carrier s = if x.rcc.chan = .synced then useSlot carrier x else x := by
    simp only [takeSlot, s.rcc.toOwnSlot_ended _ hchan h]
    rfl
  rw [exec_ownSlotStart s hchan hslot htx, htake]
  rcases s.rcc.endSlotZero_timing hchan with ⟨hkept, -⟩ | ⟨hlost, hms⟩
  · exact (exec_ownSlotStart t hkept (s.rcc.endSlotZero_slotTaken hslot) (s.rcc.endSlotZero_tx.trans htx) carrier).symm
  · have hx : x = t := by
      have hstays : t.rcc.toOwnSlot s.sst.globalPage.stationId = t.rcc :=
        t.rcc.toOwnSlot_in_time _ s.rcc.endSlotZero_missTested (by simp [t, hms])
      simp only [x, hstays]
      rfl
    have hsearching : t.rcc.chan ≠ .synced := by simp [t, hlost]
    have hnot : exec (.ownSlotStart carrier) t = .next t := happens_not _ t (by simp [hsearching])
    rw [hx, if_neg hsearching]
    exact hnot.symm

/-- In time a station comes to its slot as it stands. -/
theorem exec_ownSlotStart_in_time (carrier : Bool) (htested : s.rcc.missTested = true)
    (htime : ∀ n ∈ s.rcc.frameMs, n ≤ 500 * s.sst.globalPage.stationId) :
    exec (.ownSlotStart carrier) s = .next (useSlot carrier s) := by
  rw [exec_ownSlotStart s hchan hslot htx]
  simp only [takeSlot, s.rcc.toOwnSlot_in_time _ htested htime]
  exact congrArg Host.Outcome.next (if_pos hchan)

end

/-! ### What goes out in the slot (R157, R158) -/

theorem permitted_iff (level : Level) (priority : Nat) : permitted level priority = true ↔ maySend level priority := by
  cases level <;> simp [permitted, maySend]

theorem encodeMags_length (m : Option Mags) : (encodeMags m).length = 8 := by cases m <;> rfl

/-- Every record fits a report packet (R167). -/
theorem encodeRecord_length_le (r : Record) : (encodeRecord r).length ≤ 60 := by
  have hfields : r.body.fields.length ≤ 48 := by
    cases r.body <;> simp [RecBody.fields, encodeTag, encodeMags_length]
  simp [encodeRecord, maskOf, flag]
  omega

/-- A report packet is of the form that the ring decides (R158). -/
theorem reportPacket_form (s : State) (e : Entry) (n : Nat) :
    ∃ form content, reportForm s e form content ∧ reportPacket s e n = packet 0x21 (s.sst.globalPage.field 4)
      (be1 n ++ be1 form ++ be1 e.cls.code ++ be1 e.cls.priority ++ be4 (e.record.getD 0) ++ content) := by
  cases hrecord : e.record with
  | none => exact ⟨2, statusBody s, by simp [reportForm, hrecord], by simp [reportPacket, reportBody, hrecord, opt4, Page.stationId]⟩
  | some m =>
    cases hfind : s.orl.ring.find? (·.number == m) with
    | none => exact ⟨1, [], by simp [reportForm, hrecord, hfind], by simp [reportPacket, reportBody, hrecord, hfind, opt4, Page.stationId]⟩
    | some r =>
      refine ⟨0, encodeRecord r, by simp [reportForm, hrecord, hfind], ?_⟩
      have hlen := encodeRecord_length_le r
      have hfits : (packet 0x21 s.sst.globalPage.stationId (reportBody e n 0 (encodeRecord r))).length ≤ packetTop := by
        simp [packet, reportBody, packetTop]
        omega
      simp only [reportPacket, hrecord, hfind, if_pos hfits]
      simp [reportBody, hrecord, opt4, Page.stationId]

theorem slotPacket_reply (s : State) (r : RadioReply) (hlevel : s.bcu.level ≠ .exhausted) (hr : s.rcc.pending = some r) :
    slotPacket s = { s with rcc := { s.rcc with pending := none, tx := some (replyPacket s.sst.globalPage.stationId r) } } := by
  simp [slotPacket, hlevel, hr]

theorem slotPacket_nothing (s : State) (hnone : s.rcc.pending = none) (hhead : s.rcc.head s.bcu.level = none) : slotPacket s = s := by
  simp [slotPacket, hnone, hhead]

theorem slotPacket_report (s : State) (e : Entry) (hnone : s.rcc.pending = none) (hhead : s.rcc.head s.bcu.level = some e)
    (hlevel : s.bcu.level ≠ .exhausted) : slotPacket s = sendReport e s := by
  simp [slotPacket, hnone, hhead, hlevel]

section
variable (level : Level) (r : Rcc)

theorem Rcc.head_none (h : ∀ e ∈ r.outbox, e.await = true ∨ ¬ maySend level e.cls.priority) : r.head level = none := by
  refine List.find?_eq_none.2 fun e he => ?_
  simpa [permitted_iff, imp_iff_not_or] using h e he

variable (before : List Entry) (e : Entry) (after : List Entry) (hout : r.outbox = before ++ e :: after) (hwaits : e.await = false)
  (hmay : maySend level e.cls.priority) (hbefore : ∀ x ∈ before, x.await = true ∨ ¬ maySend level x.cls.priority)
include hout hwaits hmay hbefore

theorem Rcc.head_between : r.head level = some e := by
  rw [Rcc.head, hout, find?_between]
  · exact fun x hx => Bool.eq_false_of_not_eq_true (by simpa [permitted_iff, imp_iff_not_or] using hbefore x hx)
  · simp [hwaits, permitted_iff, hmay]

theorem Rcc.send_between : r.send level e = { r with
    outbox := before ++ sentEntry r.lost (e.seqNo.getD r.nextSeq) e :: after
    nextSeq := if e.seqNo.isSome then r.nextSeq else (r.nextSeq + 1) % 256 } := by
  rw [Rcc.send, hout, replaceFirst_between]
  · exact fun x hx => Bool.eq_false_of_not_eq_true (by simpa [permitted_iff, imp_iff_not_or] using hbefore x hx)
  · simp [hwaits, permitted_iff, hmay]

end

/-! ### The STATUS interval (R155) -/

/-- Without a tag at its last minute a minute event leaves the RCC alone until it gets there (spec/05 R101). -/
theorem tagMinute_rcc (s : State) (h : ∀ x ∈ s.tag.table.tags, ∀ n ∈ x.left, 2 ≤ n) :
    (tagMinute s).rcc = s.rcc ∧ (tagMinute s).sst.globalPage = s.sst.globalPage := by
  have hnone : s.minuteTaken.tag.table.expiring = [] := by
    refine List.eq_nil_iff_forall_not_mem.2 fun x hx => ?_
    obtain ⟨hmem, hleft⟩ := (TagTable.mem_expiring _ x).1 hx
    change x ∈ s.tag.table.minute.tags at hmem
    rw [TagTable.minute, TagTable.map_tags] at hmem
    obtain ⟨y, hy, rfl⟩ := List.mem_map.1 hmem
    rcases (left_pred_iff y.left).1 hleft with hy1 | hy0
    · exact absurd (h y hy 1 hy1) (by decide)
    · exact absurd (h y hy 0 hy0) (by decide)
  have hstays : expireTags s.minuteTaken = s.minuteTaken := by rw [expireTags_eq, hnone]; rfl
  rw [tagMinute_eq, hstays]
  split <;> simp [State.minuteTaken]

theorem Class.priority_le (c : Class) : c.priority ≤ 3 := by cases c <;> decide

theorem insertEntry_last (x : Entry) (l : List Entry) (h : ∀ y ∈ l, y.cls.priority ≤ x.cls.priority) : insertEntry x l = l ++ [x] := by
  induction l with
  | nil => rfl
  | cons y rest ih =>
    obtain ⟨hy, hrest⟩ := List.forall_mem_cons.1 h
    rw [insertEntry, if_neg (Nat.not_lt.2 hy), ih hrest, List.cons_append]

/-- Nothing gives way to a STATUS entry. -/
theorem arrive_status (x : Entry) (l : List Entry) (hx : x.cls = .status) :
    arrive x l = if l.length < 32 then (l ++ [x], false) else (l, true) := by
  have hpriority : x.cls.priority = 3 := by rw [hx]; rfl
  have hlast : insertEntry x l = l ++ [x] := insertEntry_last x l fun y _ => hpriority ▸ y.cls.priority_le
  have hurgent (y : Entry) : ¬ x.cls.priority < y.cls.priority := Nat.not_lt.2 (hpriority ▸ y.cls.priority_le)
  rw [arrive, hlast]
  refine if_congr Iff.rfl rfl ?_
  split
  · rfl
  · rw [if_neg (hurgent _), if_neg (by omega)]

/-- What a STATUS request that acts does at the outbox (R155, R156). -/
theorem makeStatus_leaves (s : State) :
    let waits := ∃ e ∈ s.rcc.outbox, e.cls = .status ∧ e.await = false
    (waits → makeStatus s = s) ∧
    (¬ waits → s.rcc.outbox.length < 32 → (makeStatus s).rcc.lost = s.rcc.lost ∧
      (makeStatus s).rcc.outbox = s.rcc.outbox ++ [⟨.status, none, false, 0, none, none, s.rcc.nextOrder⟩]) ∧
    (¬ waits → 32 ≤ s.rcc.outbox.length → (makeStatus s).rcc.outbox = s.rcc.outbox ∧
      (makeStatus s).rcc.lost = min 65535 (s.rcc.lost + 1)) := by
  intro waits
  have hany : s.rcc.outbox.any (fun e => e.cls == .status && !e.await) = true ↔ waits := by simp [waits]
  have hmade (h : ¬ waits) : makeStatus s = report .status none s := if_neg (mt hany.1 h)
  refine ⟨fun h => if_pos (hany.2 h), fun h hroom => ?_, fun h hfull => ?_⟩
  · rw [hmade h, report_rcc, Rcc.reported, arrive_status _ _ rfl, if_pos hroom]
    exact ⟨rfl, rfl⟩
  · rw [hmade h, report_rcc, Rcc.reported, arrive_status _ _ rfl, if_neg (Nat.not_lt.2 hfull)]
    exact ⟨rfl, rfl⟩

theorem makeStatus_statusLeft (s : State) : (makeStatus s).rcc.statusLeft = s.rcc.statusLeft := by
  unfold makeStatus
  split <;> rfl

/-- At the end of the STATUS interval the countdown starts afresh and the request acts (R155). -/
theorem exec_statusIntervalDue (s : State) (hrun : s.stage = .running) (hleft : s.rcc.statusLeft = some 1)
    (htags : ∀ x ∈ s.tag.table.tags, ∀ n ∈ x.left, 2 ≤ n) :
    ∃ x : State, exec .statusIntervalDue s = .next (makeStatus x) ∧
      x.rcc = { s.rcc with statusLeft := statusCountdown s.sst.globalPage } := by
  let y := bcuMinute (tagMinute s.minuteEnded)
  obtain ⟨hrcc, hpage⟩ := tagMinute_rcc s.minuteEnded (by simpa [State.minuteEnded] using htags)
  have hended : s.minuteEnded.rcc = s.rcc ∧ s.minuteEnded.sst = s.sst ∧ s.minuteEnded.stage = s.stage := by simp [State.minuteEnded]
  have hy : y.rcc = s.rcc ∧ y.sst.globalPage = s.sst.globalPage ∧ y.stage = .running := by simp [y, hrcc, hpage, hended, hrun]
  have hleft' : y.rcc.statusLeft = some 1 := by rw [hy.1]; exact hleft
  let x : State := { y with rcc := { y.rcc with statusLeft := statusCountdown y.sst.globalPage } }
  have hminute : completeMinute s = makeStatus x := by
    have hx : statusRequest x = makeStatus x := by simp [statusRequest, x, hy, Stage.isStarting]
    change rccMinute y = _
    simp only [rccMinute, hleft']
    exact (if_pos (le_refl 1)).trans hx
  refine ⟨x, ?_, by simp [x, hy]⟩
  rw [← hminute]
  exact happens_of _ s (by simp [hrun, Stage.started, hleft])

/-- Settles O47: the end of slot 0, the slot that it opens, and the STATUS interval, each through the model's own function. -/
theorem radioTimesItsSlots : Obligations.RadioTimesItsSlots := by
  intro s station slotEnd
  refine ⟨fun hchan hseen => ?_, fun hchan hseen hcount => ?_, fun hchan hslot htx hdue t carrier ht => ?_,
    fun hchan hslot htx htested htime => ?_, rfl, fun hrun hleft htags => ?_⟩
  · rw [exec_beaconMissCheck s hchan, s.rcc.endSlotZero_of_beacon hseen]
    rfl
  · refine ⟨_, exec_beaconMissCheck s hchan, rfl, ?_⟩
    have hfourth : min 4 (s.rcc.missCount + 1) = 4 ↔ s.rcc.missCount = 3 := by omega
    simp only [s.rcc.endSlotZero_of_miss hseen, hfourth, hchan]
    exact ⟨by omega, trivial, returnAwait_waits false _, fun e he hcls => mem_returnAwait _ e he hcls, trivial, rfl, trivial, trivial⟩
  · rw [exec_beaconMissCheck s hchan] at ht
    cases ht
    exact exec_ownSlotStart_ended s hchan hslot htx carrier hdue
  · intro passed
    let y : State := { s with rcc := passed }
    have hslotted (carrier : Bool) : exec (.ownSlotStart carrier) s = .next (if carrier then y else slotPacket y) :=
      exec_ownSlotStart_in_time s hchan hslot htx carrier htested htime
    refine ⟨hslotted true, fun r hr hlevel => ?_, fun hnone hidle => ?_, fun hnone before e after hout hwaits hmay hbefore => ?_⟩
    · exact (hslotted false).trans (congrArg Host.Outcome.next (slotPacket_reply y r hlevel hr))
    · exact (hslotted false).trans (congrArg Host.Outcome.next (slotPacket_nothing y hnone (Rcc.head_none _ y.rcc hidle)))
    · have hlevel : s.bcu.level ≠ .exhausted := fun hx => by simp [maySend, hx] at hmay
      have hhead := Rcc.head_between y.bcu.level y.rcc before e after hout hwaits hmay hbefore
      have hsend := Rcc.send_between y.bcu.level y.rcc before e after hout hwaits hmay hbefore
      obtain ⟨form, content, hform, hpacket⟩ := reportPacket_form y e (e.seqNo.getD y.rcc.nextSeq)
      refine ⟨form, content, hform, ?_⟩
      intro n
      refine (hslotted false).trans (congrArg Host.Outcome.next ?_)
      simp only [Bool.false_eq_true, if_false, slotPacket_report y e hnone hhead hlevel, sendReport, hsend, hpacket]
      rfl
  · obtain ⟨x, hexec, hx⟩ := exec_statusIntervalDue s hrun hleft htags
    obtain ⟨hwaiting, hroom, hfull⟩ := makeStatus_leaves x
    refine ⟨_, hexec, ?_, fun hw => ?_, fun hw hlen => ?_, fun hw hlen => ?_⟩
    · rw [makeStatus_statusLeft, hx]
      rfl
    · rw [hwaiting (by rw [hx]; exact hw), hx]
      exact ⟨rfl, rfl⟩
    · simpa [hx] using hroom (by rw [hx]; exact hw) (by rw [hx]; exact hlen)
    · simpa [hx] using hfull (by rw [hx]; exact hw) (by rw [hx]; exact hlen)

end Sys2Proof.Machine
end
